-- ==== Sys2Proof/Word.lean ====
section
/-! DEFINITION. The word types of the Deavair Y7 and nothing else: bytes, the register widths, byte strings. -/
namespace Sys2Proof

/-- One byte (R8). -/
abbrev Byte := BitVec 8
/-- A byte string in memory or wire order: byte 0 first (R8). -/
abbrev Bytes := List Byte
/-- A 16-bit field. -/
abbrev W16 := BitVec 16
/-- A 32-bit register (R9: a register is 32 bits wide unless its title says 64). -/
abbrev W32 := BitVec 32
/-- A 64-bit register (R13). -/
abbrev W64 := BitVec 64

end Sys2Proof
end

