-- ==== Sys2Proof/Syntax.lean ====
section
/-! DEFINITION. The commands of the Y7 block: one constructor of Instr per row of spec/opcode_table.json, and the
types of their operands. A row of the table is one whole, indivisible step (spec/95_what_each_step_holds.md); its
operands are what the sender of the event supplies: the bytes that arrive, the object concerned, the measurement taken,
the outcome of a cryptographic check. -/
namespace Sys2Proof

/-- Sleeve A or Sleeve B (R268). -/
inductive Sleeve where
  | a
  | b
  deriving DecidableEq, Repr

/-- The eleven power domains, in the order of R150. -/
inductive Domain where
  | aon | lin | hst | ctl | dp | ctx | xlt | sla | slb | blt | bh
  deriving DecidableEq, Repr

/-- The three Pleat arbiters: 0 host port, 1 Sleeve A, 2 Sleeve B (R260). -/
inductive Arb where
  | host | sla | slb
  deriving DecidableEq, Repr

/-- Completion status of a PCI Express completion: successful, Unsupported Request, Completer Abort, Request Retry
Status. -/
inductive CplStatus where
  | sc | ur | ca | rrs
  deriving DecidableEq, Repr

/-- The low-power host link states of R55 and R394. -/
inductive L1Sub where
  | l10 | l11 | l12 | l2
  deriving DecidableEq, Repr

/-- The four MCTP bindings of R464, and Buttonhole's own endpoint on the PCIe VDM binding (R494). -/
inductive Binding where
  | smbus | i3c | vdm | belt | bh
  deriving DecidableEq, Repr

/-- The header of an image slot as read (R469): MAGIC, IMAGE_LEN, whether its CRC is good, and whether its digest is that of
the manifest's signed range. -/
structure SlotHeader where
  magic : W32
  imageLen : Nat
  crcOk : Bool
  digestOk : Bool
  deriving DecidableEq, Repr

/-- An entry of an image's section table (R470). -/
structure ImageSection where
  type : W16
  off : Nat
  len : Nat
  deriving DecidableEq, Repr

/-- The fields of a manifest that its rules name (R470). -/
structure Manifest where
  magic : W32
  format : W16
  secVer : Nat
  imageLen : Nat
  build : W64
  sections : List ImageSection
  deriving DecidableEq, Repr

/-- What a check of one image slot finds (R408, R435, R436, R469 to R471): header and manifest, whether both public keys have
the digests of the boot ROM, whether each signature verifies, and whether every section's hash matches. The flash and the
cryptographic outcomes are operands, because the flash lies outside the block. -/
structure Found where
  header : SlotHeader
  manifest : Manifest
  keys : Bool
  ecdsa : Bool
  mldsa : Bool
  hashes : Bool
  deriving DecidableEq, Repr

/-- What the ROM finds beside slots A and B: the recovery slot, and whether both copies of the boot record fail their CRC
(R408, R409). -/
structure RecoveryFound where
  slot : Found
  recordBad : Bool
  deriving DecidableEq, Repr

/-- What FEC makes of a received flit (R270): some codeword of it is uncorrectable, and the symbols corrected on each receive
lane. -/
structure FecResult where
  uncorrectable : Bool
  corrected : List Nat
  deriving DecidableEq, Repr

/-- A transmitter setting that a link partner directs (R39): a preset of the rate's set, or the coefficients of the cursors
before the main one, the main one, and the one after. -/
inductive TxSetting where
  | preset (n : Nat)
  | coefs (pre2 pre main post : Nat)
  deriving DecidableEq, Repr

/-- One equalization that training carried out (R39): the rate, the setting that the root port requests of the Y7 in Phase
2, and the final root port coefficients of Phase 3, by lane. -/
structure Equalized where
  rate : Nat
  asked : TxSetting
  found : List W32
  deriving DecidableEq, Repr

/-- What host link training settles beside width and rate (R39 to R41): whether a lane failed, lane reversal, the receive
lanes found inverted, and the equalizations carried out. -/
structure HostTraining where
  laneFailure : Bool
  reversed : Bool
  inverted : W16
  eqs : List Equalized
  deriving DecidableEq, Repr

/-- A Jalid request as software leaves it in the Pocket (R83): the word written to PKT_DOORBELL, the header fields of
the request buffer, and the payload bytes (bytes beyond the list are 0). -/
structure Request where
  doorbell : W32
  token : W16
  len : Nat
  flags : Byte
  minor : Byte
  rsv : Bytes
  payload : Bytes
  deriving DecidableEq, Repr

/-- The 8-byte doorbell value of R167 without KIND, which the command's own row fixes. -/
structure Doorbell where
  rsvHi : BitVec 21
  qpIndex : BitVec 10
  rsvLo : W16
  index : W16
  deriving DecidableEq, Repr

/-- A translation completion's payload (R234, R244): the range and its attributes. -/
structure Xlation where
  base : Nat
  len : Nat
  pa : Nat
  r : Bool
  w : Bool
  noSnoop : Bool
  deriving DecidableEq, Repr

/-- How a spill record read ends (R355, R356): the record verifies, is rejected, or the access itself fails
(translation fault with its cause of R244; Unsupported Request, Completer Abort or completion timeout). -/
inductive SpillOutcome where
  | verified
  | rejected
  | translationFault (cause : Nat)
  | hostError
  deriving DecidableEq, Repr

/-- A transport packet (R302): the header fields and the payload. rsv holds every reserved bit of the header. -/
structure Packet where
  kind : Byte
  flags : Byte
  len : Nat
  src : Nat
  vc : Byte
  dst : Nat
  status : Byte
  srcEpoch : W16
  dstEpoch : W16
  seq : BitVec 24
  rsv : Byte
  tag : W32
  offset : W64
  payload : Bytes
  deriving DecidableEq, Repr

/-- The addressing fields common to the transport messages of R305. -/
structure TMsg where
  src : Nat
  dst : Nat
  vc : Nat
  srcEpoch : W16
  dstEpoch : W16
  deriving DecidableEq, Repr

/-- What link training settles on (R278, R279, R280): the rate code of SLA_LINK.RATE, the highest rate both sides
offer, the Y7's physical receive lanes that locked, and the Y7's physical transmit lanes that the peer locked. -/
structure Trained where
  rate : BitVec 2
  best : BitVec 2
  rxLocked : Byte
  txLocked : Byte
  /-- The final coefficients of transmit lanes 0 to 7, which Lining stores (R280). -/
  coefs : List W32
  deriving DecidableEq, Repr

/-- A Belt ROUTE message's fields (R329). -/
structure RouteMsg where
  dstPos : Byte
  srcPos : Byte
  hops : Byte
  cls : Byte
  len : Nat
  srcNode : Nat
  dstNode : Nat
  deriving DecidableEq, Repr

/-- A Belt TIME message (R329) with the local timebase at the arrival of its flit's first bit and this node's measured
residence time in ns (R337). -/
structure TimeMsg where
  hops : Byte
  t : W64
  corr : W32
  arrival : Nat
  residence : Nat
  deriving DecidableEq, Repr

/-- The 40 B log record a block supplies with an assertion (R440). -/
structure FaultRec where
  code : W32
  inst : W32
  addr : W64
  syndrome : W64
  deriving DecidableEq, Repr

/-- One 1 ms sample of Lining's sensors (R458): 32 die temperatures in 0.1 degrees C, 16 voltage monitors in mV, 8 rail
currents in mA, device power in mW, 64 droop counts, and the load of the always-on regulator in units of 0.25 mA
(R397). -/
structure Readings where
  temps : List Int
  volts : List Nat
  amps : List Nat
  power : Nat
  droops : List Nat
  aonLoad : Nat
  deriving DecidableEq, Repr

/-- What the end of a ledger day measures: whether the residual of a due re-fit is below that of the set in force (R483), and
the worst host receive lane timing margin at 128.0 GT/s in thousandths of a UI, where one was measured (R481). -/
structure DayFigures where
  residualBelow : Bool
  hostMargin : Option Nat
  deriving DecidableEq, Repr

/-- The commands. fn is a function number of R56; qp a global QP number; sl a Sleeve. -/
inductive Instr where
  /-- VAON_VALID (R414). -/
  | vaonValid (addrSel : BitVec 2)
  /-- VAON_LOST (R414). -/
  | vaonLost
  /-- VDD_VALID (R405). -/
  | vddValid (bootSel : Bool)
  /-- SUPPLY_LOSS (R414). -/
  | supplyLoss
  /-- MANIFEST_ACCEPTED (R408). -/
  | manifestAccepted (a b : Found) (rec : RecoveryFound)
  /-- LINING_LOAD_COMPLETE (R405). -/
  | liningLoadComplete
  /-- PERST_N_ASSERT (R414). -/
  | perstNAssert
  /-- PERST_N_DEASSERT (R405). -/
  | perstNDeassert (ftestN : Bool)
  /-- JALID_LOAD_COMPLETE (R405). -/
  | jalidLoadComplete
  /-- CONFIGURATION_READY (R406). -/
  | configurationReady
  /-- SELF_TEST_COMMIT (R410). -/
  | selfTestCommit
  /-- BOOT_TIMEOUT (R410). -/
  | bootTimeout (bootSel : Bool)
  /-- CHIP_RESET (R414). -/
  | chipReset (cause : Byte) (bootSel : Bool)
  /-- BROWN_OUT (R398). -/
  | brownOut (bootSel : Bool)
  /-- CK_SREF_LOSS (R413). -/
  | ckSrefLoss
  /-- PLL_LOCK_LOSS (R441). -/
  | pllLockLoss (pll : Nat)
  /-- XTAL_STABLE (R404). -/
  | xtalStable
  /-- XTAL_TIMEOUT (R511). -/
  | xtalTimeout
  /-- HOT_RESET (R49). -/
  | hotReset
  /-- HOST_LINK_DOWN (R49). -/
  | hostLinkDown
  /-- HOST_LINK_TRAINED (R41). -/
  | hostLinkTrained (lanes : Nat) (rate : Nat) (flit : Bool) (t : HostTraining)
  /-- L0P_WIDTH_CHANGE (R35). -/
  | l0pWidthChange (lanes : Nat)
  /-- LTR_MESSAGE (R54). -/
  | ltrMessage
  /-- LTR_3MS (R54). -/
  | ltr3ms
  /-- CLKREQ_N_ASSERT (R55). -/
  | clkreqNAssert
  /-- L1_EXIT (R390). -/
  | l1Exit
  /-- LWAKE_N (R390). -/
  | lwakeN
  /-- SMBUS_ADDRESS_MATCH (R390). -/
  | smbusAddressMatch
  /-- CONFIG_REQUEST (R51). -/
  | configRequest (fn off : Nat) (be : BitVec 4) (wr : Option W32)
  /-- FLR_START (R49). -/
  | flrStart (fn : Nat)
  /-- FLR_COMPLETE (R49). -/
  | flrComplete (fn : Nat)
  /-- NUMVFS_WRITE (R57). -/
  | numvfsWrite (n : W16)
  /-- VF_ENABLE_SET (R57). -/
  | vfEnableSet
  /-- VF_ENABLE_CLEAR (R69). -/
  | vfEnableClear
  /-- BME_CLEAR (R192). -/
  | bmeClear (fn : Nat)
  /-- BME_SET (R192). -/
  | bmeSet (fn : Nat)
  /-- D3HOT_ENTRY (R48). -/
  | d3hotEntry (fn : Nat)
  /-- D3HOT_TO_D0 (R48). -/
  | d3hotToD0 (fn : Nat)
  /-- ATS_ENABLE_CLEAR (R232). -/
  | atsEnableClear (fn : Nat)
  /-- ATS_ENABLE_SET (R232). -/
  | atsEnableSet (fn : Nat) (stu : BitVec 5)
  /-- BAR2_RESIZE (R46). -/
  | bar2Resize (log2 : Nat)
  /-- CFG_IDE_SEL_WRITE (R47). -/
  | cfgIdeSelWrite (v : Byte)
  /-- POOL_IDE_BIND_WRITE (R429). -/
  | poolIdeBindWrite (k : Nat) (v : W32)
  /-- IDE_CHECK_FAILED (R428). -/
  | ideCheckFailed (stream : Option Nat) (misrouted : Bool)
  /-- IDE_KEY_PROGRAMMING (R428). -/
  | ideKeyProgramming (stream : Option Nat) (accepted : Bool)
  /-- LOCK_INTERFACE_REQUEST (R432). -/
  | lockInterfaceRequest (vf : Nat)
  /-- START_INTERFACE_REQUEST (R431). -/
  | startInterfaceRequest (vf : Nat)
  /-- STOP_INTERFACE_REQUEST (R431). -/
  | stopInterfaceRequest (vf : Nat)
  /-- GET_DEVICE_INTERFACE_REPORT (R432). -/
  | getDeviceInterfaceReport (vf : Nat)
  /-- SPDM_GET_CERTIFICATE (R426). -/
  | spdmGetCertificate (slot off len : Nat)
  /-- SPDM_CHALLENGE (R426). -/
  | spdmChallenge (slot : Nat) (nonce : Bytes)
  /-- SPDM_GET_MEASUREMENTS (R427). -/
  | spdmGetMeasurements (index : Nat)
  /-- SPDM_KEY_EXCHANGE (R425). -/
  | spdmKeyExchange
  /-- SPDM_KEY_UPDATE (R425). -/
  | spdmKeyUpdate (sess : Nat)
  /-- APERTURE_WRITE (R201). -/
  | apertureWrite (fn off : Nat) (data : Bytes)
  /-- APERTURE_READ (R202). -/
  | apertureRead (fn off len htag : Nat)
  /-- APERTURE_READ_LIMIT (R204). -/
  | apertureReadLimit (id : Nat)
  /-- BAR2_UNMAPPED_ACCESS (R199). -/
  | bar2UnmappedAccess (fn off len : Nat) (isRead : Bool)
  /-- UNSUPPORTED_REQUEST (R451). -/
  | unsupportedRequest (fn : Nat) (nonPosted : Bool)
  /-- MSIX_ENTRY_WRITE (R251). -/
  | msixEntryWrite (fn vec dword : Nat) (v : W32)
  /-- COMPLETION_ARRIVAL (R452). -/
  | completionArrival (rid tag : Nat) (st : CplStatus) (poisoned : Bool) (stream : Option Nat) (data : Bytes)
  /-- TRANSLATION_COMPLETION (R240). -/
  | translationCompletion (rid tag : Nat) (st : CplStatus) (x : Xlation)
  /-- INVALIDATE_REQUEST (R239). -/
  | invalidateRequest (fn itag base len : Nat) (global : Bool)
  /-- INVALIDATION_COMPLETION (R239). -/
  | invalidationCompletion (fn : Nat)
  /-- COMPLETION_TIMEOUT (R50). -/
  | completionTimeout (tag : Nat)
  /-- TAG_QUARANTINE_EXPIRY (R193). -/
  | tagQuarantineExpiry (tag : Nat)
  /-- IDENTIFY (R120). -/
  | identify (fn : Nat) (r : Request)
  /-- YASIL_READ (R121). -/
  | yasilRead (fn : Nat) (r : Request)
  /-- GROUP_CREATE (R63). -/
  | groupCreate (fn : Nat) (r : Request)
  /-- GROUP_DESTROY (R64). -/
  | groupDestroy (fn : Nat) (r : Request)
  /-- TENANT_CREATE (R65). -/
  | tenantCreate (fn : Nat) (r : Request)
  /-- TENANT_CREATE_COMPLETE (R119). -/
  | tenantCreateComplete (token : W16)
  /-- TENANT_DESTROY (R68). -/
  | tenantDestroy (fn : Nat) (r : Request)
  /-- TENANT_DESTROY_COMPLETE (R67). -/
  | tenantDestroyComplete (vf : Nat)
  /-- TENANT_QUERY (R125). -/
  | tenantQuery (fn : Nat) (r : Request)
  /-- SPILL_GRANT (R126). -/
  | spillGrant (fn : Nat) (r : Request)
  /-- SPILL_REVOKE (R127). -/
  | spillRevoke (fn : Nat) (r : Request)
  /-- SPILL_REVOKE_COMPLETE (R127). -/
  | spillRevokeComplete
  /-- QSET_CREATE (R128). -/
  | qsetCreate (fn : Nat) (r : Request)
  /-- QSET_MODIFY (R128). -/
  | qsetModify (fn : Nat) (r : Request)
  /-- QSET_DESTROY (R129). -/
  | qsetDestroy (fn : Nat) (r : Request)
  /-- QP_CREATE (R130). -/
  | qpCreate (fn : Nat) (r : Request)
  /-- QP_MODIFY_START (R131). -/
  | qpModifyStart (fn : Nat) (r : Request)
  /-- QP_MODIFY_STOP (R131). -/
  | qpModifyStop (fn : Nat) (r : Request)
  /-- QP_MODIFY_RECOVER (R131). -/
  | qpModifyRecover (fn : Nat) (r : Request)
  /-- QP_DESTROY (R132). -/
  | qpDestroy (fn : Nat) (r : Request)
  /-- QP_DESTROY_COMPLETE (R132). -/
  | qpDestroyComplete (qp : Nat)
  /-- QP_QUERY (R133). -/
  | qpQuery (fn : Nat) (r : Request)
  /-- APT_OPEN (R134). -/
  | aptOpen (fn : Nat) (r : Request)
  /-- APT_CLOSE (R136). -/
  | aptClose (fn : Nat) (r : Request)
  /-- APT_CLOSE_COMPLETE (R136). -/
  | aptCloseComplete (n : Nat)
  /-- IWIN_OPEN (R135). -/
  | iwinOpen (fn : Nat) (r : Request)
  /-- IWIN_CLOSE (R136). -/
  | iwinClose (fn : Nat) (r : Request)
  /-- IWIN_CLOSE_COMPLETE (R136). -/
  | iwinCloseComplete (n : Nat)
  /-- WIN_QUERY (R137). -/
  | winQuery (fn : Nat) (r : Request)
  /-- STITCH_LOAD (R138). -/
  | stitchLoad (fn : Nat) (r : Request)
  /-- STITCH_CLEAR (R139). -/
  | stitchClear (fn : Nat) (r : Request)
  /-- STITCH_SET (R139). -/
  | stitchSet (fn : Nat) (r : Request)
  /-- STITCH_QUERY (R140). -/
  | stitchQuery (fn : Nat) (r : Request)
  /-- CAP_SET (R141). -/
  | capSet (fn : Nat) (r : Request)
  /-- RESERVE_SET (R142). -/
  | reserveSet (fn : Nat) (r : Request)
  /-- ALLOWANCE_SET (R143). -/
  | allowanceSet (fn : Nat) (r : Request)
  /-- BORROW (R144). -/
  | borrow (fn : Nat) (r : Request)
  /-- ENERGY_QUERY (R145). -/
  | energyQuery (fn : Nat) (r : Request)
  /-- HINT_SET (R146). -/
  | hintSet (fn : Nat) (r : Request)
  /-- PLACE_LIMITS (R346). -/
  | placeLimits (fn : Nat) (r : Request)
  /-- NUMA_MAP (R147). -/
  | numaMap (fn : Nat) (r : Request)
  /-- TELEM_CONFIG (R148). -/
  | telemConfig (fn : Nat) (r : Request)
  /-- COUNTER_SELECT (R491). -/
  | counterSelect (fn : Nat) (r : Request)
  /-- TELEM_SNAPSHOT (R492). -/
  | telemSnapshot (fn : Nat) (r : Request)
  /-- VOTE_SET (R150). -/
  | voteSet (fn : Nat) (r : Request)
  /-- VOTE_QUERY (R151). -/
  | voteQuery (fn : Nat) (r : Request)
  /-- FAULT_VECTOR (R152). -/
  | faultVector (fn : Nat) (r : Request)
  /-- FAULT_QUERY (R152). -/
  | faultQuery (fn : Nat) (r : Request)
  /-- FAULT_CLEAR (R153). -/
  | faultClear (fn : Nat) (r : Request)
  /-- LOG_READ (R154). -/
  | logRead (fn : Nat) (r : Request)
  /-- UPDATE_BEGIN (R155). -/
  | updateBegin (fn : Nat) (r : Request)
  /-- UPDATE_WRITE (R156). -/
  | updateWrite (fn : Nat) (r : Request)
  /-- UPDATE_WRITE_COMPLETE (R473). -/
  | updateWriteComplete (flashOk : Bool)
  /-- UPDATE_COMMIT (R157). -/
  | updateCommit (fn : Nat) (r : Request)
  /-- UPDATE_COMMIT_COMPLETE (R473). -/
  | updateCommitComplete (found : Found) (flashOk : Bool)
  /-- UPDATE_CANCEL (R158). -/
  | updateCancel (fn : Nat) (r : Request)
  /-- UPDATE_ACTIVATE (R408). -/
  | updateActivate (fn : Nat) (r : Request)
  /-- UPDATE_STATUS (R160). -/
  | updateStatus (fn : Nat) (r : Request)
  /-- NOP (R161). -/
  | nop (fn : Nat) (r : Request)
  /-- ABORT (R102). -/
  | abort (fn : Nat) (r : Request)
  /-- ECHO (R161). -/
  | echo (fn : Nat) (r : Request)
  /-- PKT_EVQ_HEAD_WRITE (R96). -/
  | pktEvqHeadWrite (fn : Nat) (v : W32)
  /-- EVQ_ENABLE (R94). -/
  | evqEnable (fn : Nat) (v : W32)
  /-- EVQ_DISABLE (R94). -/
  | evqDisable (fn : Nat) (v : W32)
  /-- HELD_EVENT_WRITE (R99). -/
  | heldEventWrite (fn : Nat)
  /-- JALID_RELOAD (R105). -/
  | jalidReload
  /-- JALID_RELOAD_COMPLETE (R79). -/
  | jalidReloadComplete
  /-- SQ_DOORBELL (R168). -/
  | sqDoorbell (fn slot : Nat) (d : Doorbell)
  /-- CQ_DOORBELL (R168). -/
  | cqDoorbell (fn slot : Nat) (d : Doorbell)
  /-- DESCRIPTOR_FETCH (R537). -/
  | descriptorFetch (qp : Nat)
  /-- PUT (R175). -/
  | put (qp : Nat) (sqi : W16)
  /-- GET (R176). -/
  | get (qp : Nat) (sqi : W16)
  /-- SEND (R177). -/
  | sendD (qp : Nat) (sqi : W16)
  /-- RECV (R178). -/
  | recv (qp : Nat) (sqi : W16)
  /-- FENCE (R181). -/
  | fence (qp : Nat) (sqi : W16)
  /-- FENCE_COMPLETE (R181). -/
  | fenceComplete (qp : Nat) (sqi : W16)
  /-- NOTE (R182). -/
  | note (qp : Nat) (sqi : W16)
  /-- NOTE_COMPLETE (R182). -/
  | noteComplete (qp : Nat) (sqi : W16)
  /-- UNIT_COMMIT (R21). -/
  | unitCommit (u : Nat)
  /-- UNIT_EMITTED (R256). -/
  | unitEmitted (u : Nat)
  /-- MODERATION_HOLDOFF (R190). -/
  | moderationHoldoff (fn qset : Nat)
  /-- PLEAT_BEGIN (R255). -/
  | pleatBegin (pleat : Nat)
  /-- PLEAT_LAPSED (R257). -/
  | pleatLapsed (arb : Arb)
  /-- GRANT_OPPORTUNITY (R262). -/
  | grantOpportunity (arb : Arb)
  /-- STARVATION (R266). -/
  | starvation (arb : Arb) (u : Nat)
  /-- QUEUE_SET_PAUSE (R377). -/
  | queueSetPause (fn : Nat) (qset : Option Nat)
  /-- ACCOUNTING_WINDOW_BOUNDARY (R375). -/
  | accountingWindowBoundary
  /-- PLANNING_EPOCH (R380). -/
  | planningEpoch (rails : List Nat)
  /-- PLACEMENT_EPOCH (R344). -/
  | placementEpoch
  /-- MIGRATION_SWITCH (R358). -/
  | migrationSwitch (qp quiesceNs : Nat)
  /-- MIGRATION_ABANDON (R358). -/
  | migrationAbandon (qp : Nat)
  /-- SPILL_LOAD_COMPLETE (R351). -/
  | spillLoadComplete (qp : Nat) (outcome : SpillOutcome)
  /-- SPILL_WRITE_BACK (R351). -/
  | spillWriteBack (qp : Nat)
  /-- FLOWLET_BOUNDARY (R321). -/
  | flowletBoundary (node vc : Nat)
  /-- DOMAIN_IDLE_ATTEMPT (R387). -/
  | domainIdleAttempt (d : Domain)
  /-- DOMAIN_SLEEP_ATTEMPT (R387). -/
  | domainSleepAttempt (d : Domain)
  /-- DOMAIN_DEEP_SLEEP_ATTEMPT (R393). -/
  | domainDeepSleepAttempt (d : Domain)
  /-- DOMAIN_ENTRY_COMPLETE (R392). -/
  | domainEntryComplete (d : Domain)
  /-- DOMAIN_WAKE (R387). -/
  | domainWake (d : Domain)
  /-- WAKE_COMPLETE (R385). -/
  | wakeComplete (d : Domain)
  /-- PWR_CTRL_CLR_HIST (R389). -/
  | pwrCtrlClrHist
  /-- WIN_FLUSH_START (R205). -/
  | winFlushStart (fn apt : Nat)
  /-- WRITE (R210). -/
  | writePkt (sl : Sleeve) (p : Packet)
  /-- READ (R211). -/
  | readPkt (sl : Sleeve) (p : Packet)
  /-- DELAYED_READ_DATA_LANDED (R216). -/
  | delayedReadDataLanded (handle : Nat)
  /-- COLLECT (R217). -/
  | collectPkt (sl : Sleeve) (p : Packet)
  /-- DELAYED_READ_DISCARD (R218). -/
  | delayedReadDiscard (handle : Nat)
  /-- PREFETCH_DISCARD (R219). -/
  | prefetchDiscard (win node : Nat)
  /-- READ_RSP (R313). -/
  | readRsp (sl : Sleeve) (p : Packet)
  /-- READ_READY (R313). -/
  | readReady (sl : Sleeve) (p : Packet)
  /-- COLLECT_RSP (R313). -/
  | collectRsp (sl : Sleeve) (p : Packet)
  /-- SEND_PACKET (R314). -/
  | sendPacket (sl : Sleeve) (p : Packet)
  /-- RESET_MARK (R313). -/
  | resetMark (sl : Sleeve) (p : Packet)
  /-- STATUS_FRAME (R224). -/
  | statusFrame (sl : Sleeve) (p : Packet)
  /-- STITCH_OUTPUT_FRAME (R227). -/
  | stitchOutputFrame (e : Nat)
  /-- SENSOR_STALE (R228). -/
  | sensorStale (e : Nat)
  /-- TELEMETRY_REFRESH (R229). -/
  | telemetryRefresh (fn : Nat)
  /-- SLEEVE_DETECT (R278, R280): the training word received on each physical lane, if any. -/
  | sleeveDetect (sl : Sleeve) (words : List (Option W64))
  /-- TRAIN_COMPLETE (R280). -/
  | trainComplete (sl : Sleeve) (t : Trained)
  /-- TRAIN_TIMEOUT (R280). -/
  | trainTimeout (sl : Sleeve)
  /-- ALIGN_COMPLETE (R280). -/
  | alignComplete (sl : Sleeve)
  /-- PARAM_COMPLETE (R280). -/
  | paramComplete (sl : Sleeve)
  /-- STAGE_BOUND_EXPIRY (R280). -/
  | stageBoundExpiry (sl : Sleeve)
  /-- DOWN_RETRY (R280). -/
  | downRetry (sl : Sleeve)
  /-- HELLO (R277). -/
  | hello (sl : Sleeve) (version cap : Byte) (node depth : Nat)
  /-- NODE_ASSIGN (R281). -/
  | nodeAssign (sl : Sleeve) (node : Nat)
  /-- FLIT_RECEIVE (R270, R282): what FEC makes of it, and its bytes. -/
  | flitReceive (sl : Sleeve) (fec : FecResult) (flit : Bytes)
  /-- REPLAY_TIMER (R285). -/
  | replayTimer (sl : Sleeve)
  /-- NO_VALID_FLIT (R288). -/
  | noValidFlit (sl : Sleeve)
  /-- TRAINING_WORD_RETRAIN (R287). -/
  | trainingWordRetrain (sl : Sleeve) (ackSeq : BitVec 12)
  /-- RX_LOCK_LOSS (R287). -/
  | rxLockLoss (sl : Sleeve) (lane : Nat)
  /-- RETRAIN_LANE_TIMEOUT (R287). -/
  | retrainLaneTimeout (sl : Sleeve) (lane : Nat)
  /-- RETRAIN_COMPLETE (R287). -/
  | retrainComplete (sl : Sleeve) (t : Trained)
  /-- RETRAIN_TIMEOUT (R287). -/
  | retrainTimeout (sl : Sleeve)
  /-- LANE_RETIRE (R291). -/
  | laneRetire (sl : Sleeve) (lane : Nat)
  /-- SHED_REQUEST (R289). -/
  | shedRequest (sl : Sleeve) (mask : Byte)
  /-- SHED_READY (R289). -/
  | shedReady (sl : Sleeve) (mask : Byte)
  /-- SHED_SWITCH (R289). -/
  | shedSwitch (sl : Sleeve) (mask : Byte)
  /-- SHED_REFUSE (R289). -/
  | shedRefuse (sl : Sleeve)
  /-- QUIET_REQUEST (R399). -/
  | quietRequest (sl : Sleeve)
  /-- QUIET_REQUEST_SENT (R399). -/
  | quietRequestSent (sl : Sleeve)
  /-- QUIET_ACCEPT (R292). -/
  | quietAccept (sl : Sleeve)
  /-- QUIET_REFUSE (R292). -/
  | quietRefuse (sl : Sleeve)
  /-- SLEEVE_WAKE_PATTERN (R293). -/
  | sleeveWakePattern (sl : Sleeve)
  /-- FRAY (R296). -/
  | fray (sl : Sleeve) (reason : Byte) (node : Nat)
  /-- LINK_DOWN (R288). -/
  | linkDown (sl : Sleeve) (reason : Byte)
  /-- KEY_SWITCH (R295). -/
  | keySwitch (sl : Sleeve) (keyId : Byte) (counter : W64)
  /-- MAC (R295). -/
  | mac (sl : Sleeve) (verified : Bool)
  /-- MGMT (R277). -/
  | mgmt (sl : Sleeve) (ctl len : Byte) (frag : Bytes)
  /-- LINK_KEY_UPDATE (R434). -/
  | linkKeyUpdate (sl : Sleeve)
  /-- SLEEVE_ENABLE_CLEAR (R288). -/
  | sleeveEnableClear (sl : Sleeve)
  /-- SLEEVE_ENABLE_SET (R280). -/
  | sleeveEnableSet (sl : Sleeve)
  /-- MAX_RATE_WRITE (R287). -/
  | maxRateWrite (sl : Sleeve) (rate : BitVec 2)
  /-- UNRETIRE (R291). -/
  | unretire (sl : Sleeve)
  /-- GRANT (R307). -/
  | grant (sl : Sleeve) (m : TMsg) (limit : W32)
  /-- ACK (R316). -/
  | ack (sl : Sleeve) (m : TMsg) (seq : BitVec 24)
  /-- NAK (R316). -/
  | nak (sl : Sleeve) (m : TMsg) (seq : BitVec 24) (status : Byte)
  /-- EPOCH (R323). -/
  | epochMsg (src : Nat) (epoch : W16)
  /-- WANT (R308). -/
  | want (sl : Sleeve) (m : TMsg)
  /-- RETIRE (R309). -/
  | retire (sl : Sleeve) (m : TMsg) (e : BitVec 24)
  /-- RESEND_TIMER (R317). -/
  | resendTimer (node vc : Nat)
  /-- WRITE_TIMEOUT (R318). -/
  | writeTimeout (node vc : Nat)
  /-- SEND_STATE_RETIRE (R300). -/
  | sendStateRetire (node vc : Nat)
  /-- RECEIVE_STATE_RETIRE (R300). -/
  | receiveStateRetire (node vc : Nat)
  /-- RETIREMENT_RECORD_EXPIRY (R309). -/
  | retirementRecordExpiry (node vc : Nat)
  /-- REFUSAL_RECORD_EXPIRY (R315). -/
  | refusalRecordExpiry (node vc : Nat) (seq : BitVec 24)
  /-- WANT_REPEAT (R307). -/
  | wantRepeat (node vc : Nat)
  /-- FLOW_SILENCE_END (R318). -/
  | flowSilenceEnd (node vc : Nat)
  /-- EPOCH_PERIODIC (R322). -/
  | epochPeriodic
  /-- BELT_LOCK (R328). -/
  | beltLock
  /-- BELT_LOCK_LOSS (R328). -/
  | beltLockLoss
  /-- BELT_FLIT_RECEIVE (R333). -/
  | beltFlitReceive (flit : Bytes)
  /-- ROUTE (R329). -/
  | route (m : RouteMsg) (payload : Bytes)
  /-- TIME (R338). -/
  | timeMsg (m : TimeMsg)
  /-- TIME_LOCK_TIMEOUT (R338). -/
  | timeLockTimeout
  /-- ENUM (R332). -/
  | enumMsg (hops nextPos : Byte) (enumId : W16)
  /-- BELT_WAKE_PATTERN (R336). -/
  | beltWakePattern
  /-- BELT_ENABLE_CLEAR (R335). -/
  | beltEnableClear
  /-- BELT_ENABLE_SET (R332). -/
  | beltEnableSet
  /-- SUMMARY_FRAME (R340). -/
  | summaryFrame
  /-- FAULT_ASSERT (R443). -/
  | faultAssert (src : Nat) (rec : FaultRec)
  /-- TRAP_ACK_TIMEOUT (R445). -/
  | trapAckTimeout
  /-- CHIP_RESET_WATCHDOG (R448). -/
  | chipResetWatchdog (bootSel : Bool)
  /-- ERR_N_PULSE_END (R446). -/
  | errNPulseEnd
  /-- RELEASE (R446). -/
  | release
  /-- FC_LOCK (R10). -/
  | fcLock
  /-- FAULT_SCRUB (R449). -/
  | faultScrub (badStatus badReact : Bool)
  /-- LINING_WATCHDOG (R455). -/
  | liningWatchdog
  /-- JALID_WATCHDOG (R441). -/
  | jalidWatchdog
  /-- SENSOR_SAMPLE (R459). -/
  | sensorSample (r : Readings)
  /-- EVENT_LOG_WRITE (R462). -/
  | eventLogWrite
  /-- SET_ENDPOINT_ID (R465). -/
  | setEndpointId (b : Binding) (eid : Byte)
  /-- GET_ENDPOINT_ID (R465). -/
  | getEndpointId (b : Binding)
  /-- GET_MCTP_VERSION_SUPPORT (R465). -/
  | getMctpVersionSupport (b : Binding) (msgType : Byte)
  /-- GET_MESSAGE_TYPE_SUPPORT (R465). -/
  | getMessageTypeSupport (b : Binding)
  /-- MCTP_LOG_READ (R465). -/
  | mctpLogRead (b : Binding) (payload : Bytes)
  /-- GET_TID (R466). -/
  | getTid (b : Binding)
  /-- GET_PLDM_VERSION (R466). -/
  | getPldmVersion (b : Binding) (pldmType : Byte)
  /-- GET_PLDM_TYPES (R466). -/
  | getPldmTypes (b : Binding)
  /-- GET_PLDM_COMMANDS (R466). -/
  | getPldmCommands (b : Binding) (pldmType : Byte)
  /-- GET_PDR_REPOSITORY_INFO (R466). -/
  | getPdrRepositoryInfo (b : Binding)
  /-- GET_PDR (R466). -/
  | getPdr (b : Binding) (handle : Nat)
  /-- GET_SENSOR_READING (R228). -/
  | getSensorReading (b : Binding) (sensor : Nat)
  /-- GET_SENSOR_THRESHOLDS (R459). -/
  | getSensorThresholds (b : Binding) (sensor : Nat)
  /-- GET_NUMERIC_EFFECTER_VALUE (R466). -/
  | getNumericEffecterValue (b : Binding) (effecter : Nat)
  /-- POWER_CAP (R467). -/
  | powerCap (b : Binding) (v : Nat)
  /-- ACCOUNT_WINDOW (R467). -/
  | accountWindow (b : Binding) (v : Nat)
  /-- ERR_RELEASE (R467). -/
  | errRelease (b : Binding) (v : Nat)
  /-- CHIP_RESET_EFFECTER (R467). -/
  | chipResetEffecter (b : Binding) (v : Nat) (bootSel : Bool)
  /-- AGE_MEASURE (R467). -/
  | ageMeasure (b : Binding) (v : Nat)
  /-- REQUEST_UPDATE (R474). -/
  | requestUpdate (b : Binding) (maxTransfer : Nat)
  /-- PASS_COMPONENT_TABLE (R474). -/
  | passComponentTable (b : Binding) (comp : Nat)
  /-- UPDATE_COMPONENT (R474). -/
  | updateComponent (b : Binding) (comp size : Nat)
  /-- REQUEST_FIRMWARE_DATA (R474). -/
  | requestFirmwareData (off : Nat) (data : Bytes) (flashOk : Bool)
  /-- TRANSFER_COMPLETE (R474). -/
  | transferComplete
  /-- VERIFY_COMPLETE (R474). -/
  | verifyComplete (found : Found) (flashOk bootSel : Bool)
  /-- ACTIVATE_FIRMWARE (R474). -/
  | activateFirmware (b : Binding)
  /-- CANCEL_UPDATE (R474). -/
  | cancelUpdate (b : Binding)
  /-- CANCEL_UPDATE_COMPONENT (R474). -/
  | cancelUpdateComponent (b : Binding)
  /-- UPDATE_AGENT_TIMEOUT (R474). -/
  | updateAgentTimeout
  /-- LEDGER_DAY (R478). -/
  | ledgerDay (d : DayFigures)
  /-- AGE_MEASUREMENT (R477). -/
  | ageMeasurement (drifts : List Nat)
  /-- MARGIN_DEFER_EXPIRY (R482). -/
  | marginDeferExpiry (sl : Sleeve)
  /-- MEASURE_NOW (R477). -/
  | measureNow
  /-- CLEAR_DERATE (R481). -/
  | clearDerate
  /-- COUNTER_READ (R494). -/
  | counterRead (flags : Byte) (first count : Nat)
  /-- TRACE_EN_SET (R496). -/
  | traceEnSet
  /-- TRACE_EN_CLEAR (R497). -/
  | traceEnClear
  /-- MARK (R495). -/
  | mark
  /-- COUNTER_TRACE_PERIOD (R496). -/
  | counterTracePeriod
  /-- REGISTER_WRITE (R10). -/
  | registerWrite (fn bar off size : Nat) (v : W64)
  /-- L1_ENTRY (R55). -/
  | l1Entry (sub : L1Sub)
  /-- TOKEN_BUCKET_REFILL (R191). -/
  | tokenBucketRefill (fn qset : Nat)
  /-- CK_SREF_PRESENT (R413). -/
  | ckSrefPresent
  /-- ADDED_LANES_LOCKED (R289). -/
  | addedLanesLocked (sl : Sleeve) (mask : Byte)
  /-- SPDM_SESSION_END (R425). -/
  | spdmSessionEnd (sess : Nat)
  /-- DOE_DISCOVERY (R44). -/
  | doeDiscovery (index : Nat)
  /-- ALERT_RESPONSE_ADDRESS (R459). -/
  | alertResponseAddress
  /-- DYNAMIC_ADDRESS_ASSIGNMENT (R464). -/
  | dynamicAddressAssignment (addr : BitVec 7)
  /-- REMAINING_SECTIONS_LOAD (R471). -/
  | remainingSectionsLoad (hashesOk : Bool)
  /-- EYE_MEASUREMENT (R481). -/
  | eyeMeasurement (sl : Sleeve) (eyes : List Nat)
  /-- EQUIVALENT_STRESS_MINUTE (R479). -/
  | equivalentStressMinute (tempTenths : Int)
  deriving DecidableEq, Repr

end Sys2Proof
end

