-- ==== Sys2Proof/Decode.lean ====
section
/-! DEFINITION. The command that a word spells. No row of spec/opcode_table.json gives its command any bits (every
row's field list is empty, and the spec gives no word encoding of a command), so no word spells one. -/
namespace Sys2Proof

/-- The command read from a word of the table's bits: none, because no row has bits. -/
def decodeTableWord (_nbits _w : Nat) : Option Instr := none

end Sys2Proof
end

