-- ==== Sys2Proof/Machine/Bytes.lean ====
section
/-! DEFINITION. Byte strings: byte orders (R8), slices, and the checks the links carry (R273). -/
namespace Sys2Proof

/-- n bytes of a number, least significant first (host order, R8). -/
def leBytes : Nat → Nat → Bytes
  | 0, _ => []
  | n + 1, v => BitVec.ofNat 8 v :: leBytes n (v / 256)

/-- n bytes of a number, most significant first (fabric order, R8). -/
def beBytes (n v : Nat) : Bytes := (leBytes n v).reverse

/-- The number a byte string holds, least significant first. -/
def leNat : Bytes → Nat
  | [] => 0
  | b :: r => b.toNat + 256 * leNat r

/-- The number a byte string holds, most significant first. -/
def beNat (b : Bytes) : Nat := leNat b.reverse

/-- n zero bytes. -/
def zeros (n : Nat) : Bytes := List.replicate n 0

/-- Exactly n bytes: cut, or filled with 0 at the end. -/
def fit (n : Nat) (b : Bytes) : Bytes := b.take n ++ zeros (n - b.length)

/-- n bytes from an offset; bytes beyond the string are 0. -/
def slice (off n : Nat) (b : Bytes) : Bytes := fit n (b.drop off)

/-- A little-endian field of a byte string. -/
def leAt (off n : Nat) (b : Bytes) : Nat := leNat (slice off n b)

/-- A big-endian field of a byte string. -/
def beAt (off n : Nat) (b : Bytes) : Nat := beNat (slice off n b)

/-- The byte string with n bytes from off on replaced. -/
def splice (off : Nat) (d b : Bytes) : Bytes := fit off b ++ d ++ b.drop (off + d.length)

/-- Bits [hi:lo] of a number. -/
def bits (v hi lo : Nat) : Nat := (v >>> lo) % 2 ^ (hi + 1 - lo)

/-- Bit i of a number. -/
def bitAt (v i : Nat) : Bool := (v >>> i) % 2 = 1

/-- A Boolean as a bit. -/
def b2n (b : Bool) : Nat := if b then 1 else 0

/-- A list of bits as a number, first at bit 0. -/
def maskOf : List Bool → Nat
  | [] => 0
  | b :: r => b2n b + 2 * maskOf r

/-- How many of bits 0 to n − 1 are set. -/
def popcount (v : Nat) : Nat → Nat
  | 0 => 0
  | n + 1 => popcount v n + b2n (bitAt v n)

/-- One bit step of a most-significant-first CRC of width w with a polynomial. -/
def crcBit (w poly acc : Nat) : Nat :=
  if acc >>> (w - 1) = 1 then ((acc <<< 1) % 2 ^ w) ^^^ poly else acc <<< 1

/-- One byte of a most-significant-first CRC. -/
def crcByte (w poly acc : Nat) (b : Byte) : Nat :=
  let a := acc ^^^ (b.toNat <<< (w - 8))
  crcBit w poly (crcBit w poly (crcBit w poly (crcBit w poly (crcBit w poly (crcBit w poly (crcBit w poly
    (crcBit w poly a)))))))

/-- A most-significant-first CRC over a byte string. -/
def crcOver (w poly init : Nat) (b : Bytes) : Nat := b.foldl (crcByte w poly) init

/-- The CRC-64 of R273 over bytes 0 to 247 of a flit and its implicit sequence. -/
def crc64 (body : Bytes) (seq : Nat) : Nat :=
  crcOver 64 0x42F0E1EBA9EA3693 0xFFFFFFFFFFFFFFFF (fit 248 body ++ beBytes 2 (seq % 4096)) ^^^ 0xFFFFFFFFFFFFFFFF

/-- The CRC-8 CHECK of a training word over its bits [63:8] (R278). -/
def crc8 (b : Bytes) : Nat := crcOver 8 0x07 0 b

end Sys2Proof
end

