-- ==== Sys2Proof/Config.lean ====
section
/-! DEFINITION. What one die or one installation fixes, and the values the spec leaves open. Every constant here is
opaque, or is a number the spec itself gives; nothing can be proved about the value of an opaque one. -/
namespace Sys2Proof.Config

/-- FREE VALUE: the n-th value the spec leaves open, counted by State.freeIdx. See log entry 3. -/
opaque freeValue : Nat → W64

/-- The 64-bit unique die number fused at test (R44, Device Serial Number; R120 SERIAL). -/
opaque serial : W64

/-- The grade fuse (R1, R120 GRADE, GLB_ID): false UY7160-FC, true UY7160-FE. -/
opaque gradeFE : Bool

/-- Activity coefficient i of R372 as calibrated at test (EL_COEF_VAL reset "calibrated"), in fJ per unit. -/
opaque coefCalibrated : Nat → W32

/-- The Capability ID that PCI Express Base Specification 7.0 assigns to the Physical Layer 128.0 GT/s capability (R42):
the manual gives it by that reference only. -/
opaque phy128Id : W16

/-- What the link partner's Data Link Feature DLLP offers (R42, Data Link Feature capability). -/
opaque peerFeatures : BitVec 23

/-- The payload with which receive lane n answers a lane margining command (R34, R42): the margin is the die's and the link's
own. -/
opaque marginAnswer : Nat → W16 → Byte

/-- VDD setpoint calibrated at test, in mV (AGE_VDD.BASE_MV reset "fused"). -/
opaque vddBase : BitVec 10

/-- The 256-bit unique device secret, fused at test (R424). -/
opaque deviceSecret : BitVec 256

/-- The DeviceID key pair that the ROM derives from the secret (R424). -/
opaque deviceIdPair : BitVec 256 → Bytes

/-- The Alias key pair (R424): from the DeviceID secret, the SHA-384 of the Lining section and of the Jalid section, and the
security version. -/
opaque aliasPair : Bytes → Bytes → Bytes → Nat → Bytes

/-- The spill key root (R424): from the secret and the boot's random value. -/
opaque spillRootOf : BitVec 256 → Bytes → Bytes

/-- The 272 B of ciphertext and tag of a spill record (R353, R354): from the root, the function, its key generation, the write
count of the record, the record's authenticated fields and the context. -/
opaque spillSeal : Bytes → Nat → Nat → Nat → Bytes → Bytes → Bytes

/-- The slot 0 certificate chain (R426): for the DeviceID key, the Alias key and measurements 1 to 5. -/
opaque certChain : Bytes → Bytes → List Bytes → Bytes

/-- A signature by an Alias key over a message (R426). -/
opaque aliasSign : Bytes → Bytes → Bytes

/-- SHA-384 (R427, R435). -/
opaque sha384 : Bytes → Bytes

/-- The SHA-384 digest of the boot ROM, measurement block 1 (R427). -/
opaque romDigest : Bytes

/-- Measurement block i, 2 to 5, of the image with a build number (R427): its Lining section, its Jalid section, its remaining
sections, its manifest. -/
opaque measurement : Nat → Nat → Bytes

/-- The calibrated energy of a domain in a power state on a rail, in nJ per planning epoch (R374): rail, domain, state code. -/
opaque statePower : Nat → Nat → Nat → Nat

/-- The modelled base energy of one planning epoch for lever settings, in uJ (R381): host lanes, Sleeve A and B transmit
lanes, active engines, core clock code. The leakage model is the die's own. -/
opaque baseModel : Nat → Nat → Nat → Nat → Nat → Nat

/-- The time of powered days at which a fit drift = a x t^0.25 over a pair's records, of (day, drift in 0.01 %), reaches 8.00 %
(R480). The manual does not name the method of the fit. See log entry 36. -/
opaque driftFit : List (Nat × Nat) → Nat

/-- A coefficient of the re-fitted set number g (R373, R483). -/
opaque coefRefit : Nat → Nat → W32

/-- Cost of a flow on a Sleeve (R23, R362): from the coefficient per flit at its lane rate and width, its delivered rate, the
flow's own bytes queued there and all bytes queued there. The spec names the terms and not how they are weighed. See log
entry 13. -/
opaque sleeveCost : Nat → Nat → Nat → Nat → Nat

/-- Load of a queue engine from the units started and the bytes moved by a QP in an epoch (R344, R361). The spec names the two
and not how they are weighed. See log entry 13. -/
opaque engineLoad : Nat → Nat → Nat

/-- The ciphertext of a flit's payload under link encryption (R294): of a session of a Sleeve, a KEY_ID, the COUNTER of the
flit and its plain payload. -/
opaque linkCipher : List Bytes → Nat → Nat → Bytes → Bytes

/-- The plain payload of a flit received under link encryption. -/
opaque linkPlain : List Bytes → Nat → Nat → Bytes → Bytes

/-- The 15 B tag of a group (R294): of a session, a KEY_ID, the COUNTER of its first flit, and the headers, slots and
payloads of its flits. -/
opaque linkTag : List Bytes → Nat → Nat → List Bytes → Bytes

/-- The tag of a received group verifies. -/
opaque linkTagOk : List Bytes → Nat → Nat → List Bytes → Bytes → Bool

/-- The MCTP packet with which Lining's SPDM requester goes on after the packets received on a Sleeve (R294). -/
opaque spdmRequest : Nat → List Bytes → Bytes

/-- A version that GetMCTPVersionSupport or GetPLDMVersion answers with: bytes for a message or PLDM type (R465, R466). -/
opaque protocolVersion : Nat → Bytes

/-- The PDR with a record handle: the layout and templates of the running image's PDR section (R466, R471). -/
opaque pdrTemplate : Nat → Bytes

/-- The terminus ID that GetTID answers (R466). -/
opaque terminusId : Byte

end Sys2Proof.Config
end

