-- ==== Sys2Proof/Machine/State.lean ====
section
/-! DEFINITION. The state of the Y7 as plain data: every register, queue, table and pin the spec names, grouped by
block, and the queue of waiting commands. Registers are held as their fields where the spec gives fields; the numbers
that only count or index are Nat. A Table holds the entries of an indexed family sparsely, keys strictly rising. -/
namespace Sys2Proof.Machine

/-- A sparse indexed family: (index, entry) pairs, indices strictly rising. -/
abbrev Table (α : Type) := List (Nat × α)

/-- Why the machine stops. -/
inductive Fault where
  /-- Raised by no command: every command of the table has an effect in every state. In FACTORY, whose data path R31 calls
  "Test-controlled" without saying more, a command acts by its own rules (log entry 9). Unsafe: a tester's hold over the data
  path is not modelled. -/
  | testControlled
  deriving DecidableEq, Repr

/-- Why a command has no meaning here. -/
inductive Refusal where
  /-- Raised by an arm of exec whose command has no meaning yet; none is left. Safe. -/
  | notModelled (mnemonic : String)
  deriving DecidableEq, Repr

/-! ## What the block sends -/

/-- The attributes of a host-bound write (R37, R231, R253): translated address, Relaxed Ordering, No Snoop, and the TPH
steering tag if it carries TPH. -/
structure WrAttr where
  translated : Bool
  ro : Bool
  ns : Bool
  st : Option W16
  deriving DecidableEq, Repr

/-- What a host-bound write is (R91, R173, R176, R178, R210, R252, R353). -/
inductive WrRole where
  | payload | inbound | record | event | msix | spill
  deriving DecidableEq, Repr

/-- What a host read is for (R162, R175, R211, R216, R219, R353, R156). -/
inductive RdRole where
  | descriptor | payload | inbound | delayed | prefetch | spill | image | translation
  deriving DecidableEq, Repr

/-- Messages toward the host that carry no address (R48, R54, R239, R450). -/
inductive HostMsg where
  | ltr (us : Nat)
  | pme
  | errFatal
  | errNonfatal
  | errCor
  | invalidationCompletion (itag : Nat)
  deriving DecidableEq, Repr

/-- Signals on a Sleeve or on the Belt that are not flits (R278, R293, R296, R336). -/
inductive LinkSignal where
  /-- Training words, one per transmit lane, with the start coefficients stored for the lanes (R278, R280). -/
  | training (words : List W64) (coefs : List (Option W32))
  | addedLanes (mask : Byte)
  | idle
  | wakePattern
  deriving DecidableEq, Repr

/-- A TLP with a requester or completer function. -/
inductive Tlp where
  /-- A completion to a host request. -/
  | cpl (st : CplStatus) (data : Bytes)
  /-- A memory read request (R231). -/
  | mrd (tag addr len : Nat) (translated ns : Bool) (role : RdRole)
  /-- A memory write. -/
  | mwr (addr : Nat) (data : Bytes) (attr : WrAttr) (role : WrRole)
  /-- A Translation Request (R236). -/
  | xlateReq (tag iova len : Nat) (write : Bool)
  deriving DecidableEq, Repr

/-- How a TLP is protected (R430): without IDE, in the Link IDE stream, or in a selective stream. -/
inductive Ide where
  | none
  | link
  | stream (k : Nat)
  deriving DecidableEq, Repr

/-- One item the block hands to a port, in the order it decides them. -/
inductive Emission where
  /-- A TLP of function fn, its IDE stream and its T bit (R430). -/
  | tlp (fn : Nat) (ide : Ide) (t : Bool) (x : Tlp)
  | hostMsg (fn : Nat) (m : HostMsg)
  /-- The host port starts Phase 3 of equalization at a rate from these coefficients, or from its preset (R39). -/
  | eqStart (rate : Nat) (coefs : Option (List W32))
  /-- What the host port's training sequences offer: rate codes, flit mode, Upconfigure Capability (R34, R41). -/
  | hostTraining (rates : List Nat) (flit upconfigure : Bool)
  /-- An L0p request of the Y7 for a width (R35). -/
  | l0p (lanes : Nat)
  /-- A transport packet on a Sleeve (R302). -/
  | packet (sl : Sleeve) (p : Packet)
  /-- A 16 B bypass message in a sequenced flit (R275, R276). -/
  | bypass (sl : Sleeve) (body : Bytes)
  /-- The 256 B of a flit on a Sleeve, which carry the packet or messages named beside it (R271). -/
  | flit (sl : Sleeve) (b : Bytes)
  /-- A bypass message in IDLE flits: FRAY or LINK_DOWN (R277). -/
  | idleMsg (sl : Sleeve) (body : Bytes)
  /-- A replay of link flits: from which sequence (R284, R285). -/
  | replay (sl : Sleeve) (fromSeq : BitVec 12)
  | signal (sl : Sleeve) (x : LinkSignal)
  /-- A Belt flit: its 16 B bypass slot and its payload (R329). -/
  | belt (body payload : Bytes)
  | beltSignal (x : LinkSignal)
  /-- A Belt flit passed on downstream (R333). -/
  | beltForward (flit : Bytes)
  /-- An MCTP or PLDM response on a binding. -/
  | mctp (b : Binding) (som eom : Bool) (seq : BitVec 2) (payload : Bytes)
  /-- A response on PF0's DOE mailbox. -/
  | doe (body : Bytes)
  /-- A 16 B trace message (R495). -/
  | trace (body : Bytes)
  /-- An AVSBus command: the new VDD setpoint in mV (R481). -/
  | avs (mv : Nat)
  /-- The Y7's answer to the SMBus Alert Response Address (R459). -/
  | araAnswer (addr : BitVec 7)
  deriving DecidableEq, Repr

/-! ## Boot, mode and clocks -/

/-- The modes among which R416 moves; oper is operation, in which R417's conditions choose the reported code. -/
inductive Mode where
  | noPower | off | standby | boot | oper | safe | factory
  deriving DecidableEq, Repr

/-- The boot stage under way (R405). -/
inductive Stage where
  | none | rom | lining | liningDone | jalidLoad | jalidStart | ready | noImage
  deriving DecidableEq, Repr

/-- An image slot (R468). -/
inductive Slot where
  | a | b | recovery
  deriving DecidableEq, Repr

/-- What Lining knows of an image slot: whether it is valid, whether an update session has erased its header and not
written it again (R472, R473), and the manifest's security version and build. -/
structure SlotInfo where
  valid : Bool
  erased : Bool
  secVer : Nat
  build : W64
  deriving DecidableEq, Repr

/-- What the ROM derives from the unique device secret (R424): key pairs and the root of the spill keys. -/
structure Identity where
  deviceId : Option Bytes
  aliasKey : Option Bytes
  /-- Held in AON across Deep Sleep. -/
  spillRoot : Option Bytes
  deriving DecidableEq, Repr

/-- Boot record, straps, fuses and the GLB registers (R403 to R417). -/
structure Boot where
  mode : Mode
  stage : Stage
  vaon : Bool
  vdd : Bool
  /-- PERST_N asserted. -/
  perst : Bool
  addrSel : BitVec 2
  bootSel : Bool
  fieldLock : Bool
  /-- Anti-rollback fuses blown (R436). -/
  fuses : Nat
  /-- Fuses blown when this boot started: measurement block 6 is fixed from the boot onward (R427). -/
  bootFuses : Nat
  next : Slot
  prev : Slot
  pendingBoot : Bool
  attempts : Nat
  /-- Both copies of the boot record fail their CRC (R409). -/
  recordBad : Bool
  fallback : Bool
  reject : BitVec 3
  running : Slot
  slotA : SlotInfo
  slotB : SlotInfo
  slotR : SlotInfo
  resetCause : Byte
  /-- GLB_MODE.DEG_CAUSE[8]: the host link trained narrower than x16 through lane failure (R41). -/
  degHost : Bool
  /-- A Jalid start or reload is in progress (R79, R105). -/
  reloading : Bool
  /-- The configuration space answers (R406). -/
  cfgReady : Bool
  /-- The self-test commit of this boot has reached Lining (R410). -/
  committed : Bool
  /-- Every remaining section verified (R471). -/
  sectionsOk : Bool
  /-- 128.0 GT/s was withheld from the host port at the last PERST_N deassertion (R481 action 0x05). -/
  no128 : Bool
  /-- What the ROM derived at this boot (R424). -/
  ident : Identity
  deriving DecidableEq, Repr

/-- Timebase, local count and clock status (R255, R338, R404, R413). -/
structure Clocks where
  timebase : W64
  /-- Nanoseconds since AON power-on reset (R255). -/
  localCount : Nat
  srefOk : Bool
  xtalOk : Bool
  pllLock : Byte
  /-- A TIME has been taken since PERST_N deassertion (R338). -/
  timeSet : Bool
  timeLocked : Bool
  /-- Last offset of R337, in ns. -/
  offset : Int
  /-- Nanoseconds by which the timebase is still ahead: while non-zero it counts at half rate (R338). -/
  slew : Nat
  /-- Rate adjustment in ppm (R338). -/
  ratePpm : Int
  /-- The part of a nanosecond, in millionths, that the adjusted rate has gained. -/
  frac : Int
  deriving DecidableEq, Repr

/-! ## Host port and functions -/

/-- State of the host link (R34, R41, R53 to R55). -/
inductive LinkState where
  | down | l0 | l10 | l11 | l12 | l2
  deriving DecidableEq, Repr

/-- The host link, its side-band pins, and what training has settled: the lane order, the inverted receive lanes, and the
transmitter setting at each rate that the root port has directed (R34, R39 to R41, R55). -/
structure HostLink where
  state : LinkState
  lanes : Nat
  trained : Nat
  /-- 1 = 2.5 GT/s to 7 = 128.0 GT/s. -/
  rate : Nat
  flit : Bool
  /-- The latency last reported by an LTR message since the link came up, in us (R54). -/
  ltr : Option Nat
  /-- CLKREQ_N held asserted by the Y7. -/
  clkreq : Bool
  /-- PEWAKE_N driven low by the Y7 (R48). -/
  pewake : Bool
  /-- Logical lane 0 sits on physical lane 15 (R40). -/
  reversed : Bool
  /-- Physical receive lanes whose polarity the port inverts (R40). -/
  inverted : W16
  /-- Transmitter settings in force, by rate; a rate without one uses its preset (R39). -/
  tx : Table TxSetting
  /-- Rates at which equalization has completed since the link came up (R39). -/
  equalized : List Nat
  deriving DecidableEq, Repr

/-- The configuration fields of one function that this manual gives an effect to, and the remaining writable
dwords (R42 to R46). -/
structure FnCfg where
  bme : Bool
  mse : Bool
  d3hot : Bool
  mps : BitVec 3
  mrrs : BitVec 3
  relaxed : Bool
  noSnoop : Bool
  extTag : Bool
  tag10 : Bool
  tag14 : Bool
  cto : BitVec 4
  atsEn : Bool
  stu : BitVec 5
  tphEn : BitVec 2
  tphMode : BitVec 3
  msixEn : Bool
  msixMask : Bool
  aerUnc : W32
  aerCor : W32
  /-- The other writable dwords, by dword index. -/
  raw : Table W32
  deriving DecidableEq, Repr

/-- One MSI-X table entry (R248). -/
structure MsixEntry where
  addr : W64
  data : W32
  ctl : W32
  deriving DecidableEq, Repr

/-- The value every entry resets to (R248). -/
def MsixEntry.masked : MsixEntry := { addr := 0, data := 0, ctl := 1 }

/-- PKT_STATUS.STATE (R86). -/
inductive PktState where
  | idle | working | responded | offline | reset
  deriving DecidableEq, Repr

/-- One event queue entry before PHASE is known (R91). -/
structure Event where
  type : Byte
  token : W16
  status : W16
  object : W16
  detail : W64
  seq : BitVec 24
  kind : Byte
  count : W32
  time : W64
  deriving DecidableEq, Repr

/-- An event waiting in the holdback (R98); final marks a CMD_FINAL entry in a reserved slot. -/
structure Held where
  ev : Event
  final : Bool
  /-- MODEL'S OWN: order of arising among held events and held writes (R99, R192). -/
  stamp : Nat
  deriving DecidableEq, Repr

/-- The long commands of R119. -/
inductive LongKind where
  | tenantCreate | tenantDestroy | spillRevoke | qpDestroy | aptClose | iwinClose | updateWrite | updateCommit
  deriving DecidableEq, Repr

/-- A long command accepted and not yet final: its token, its object number and its payload. -/
structure LongCmd where
  token : W16
  kind : LongKind
  obj : Nat
  payload : Bytes
  deriving DecidableEq, Repr

/-- A Pocket and its event queue (R82 to R101). -/
structure Pocket where
  state : PktState
  token : W16
  drop : Bool
  headErr : Bool
  ovf : Bool
  evqFault : Bool
  head : BitVec 12
  tail : BitVec 12
  /-- PHASE of the pass under way (R94). -/
  phase : Bool
  base : W64
  enable : Bool
  vector : BitVec 11
  log2 : BitVec 4
  lost : W32
  /-- Events lost since the last OVERFLOW entry and the time of the first (R101). -/
  lostNow : W32
  lostTime : W64
  req : Table Byte
  rsp : Bytes
  longs : List LongCmd
  held : List Held
  deriving DecidableEq, Repr

/-- The reset value of a Pocket but for VECTOR, which R81 gives per function. -/
def Pocket.init (vector : BitVec 11) : Pocket :=
  { state := .idle, token := 0, drop := false, headErr := false, ovf := false, evqFault := false, head := 0, tail := 0,
    phase := true, base := 0, enable := false, vector := vector, log2 := 6, lost := 0, lostNow := 0, lostTime := 0,
    req := [], rsp := [], longs := [], held := [] }

/-- The reset value of the configuration fields (base specification defaults: Max Read Request Size 010b; the rest 0). -/
def FnCfg.init : FnCfg :=
  { bme := false, mse := false, d3hot := false, mps := 0, mrrs := 2, relaxed := true, noSnoop := true, extTag := true,
    tag10 := false, tag14 := false, cto := 0, atsEn := false, stu := 0, tphEn := 0, tphMode := 0, msixEn := false,
    msixMask := false, aerUnc := 0, aerCor := 0, raw := [] }

/-- A queue set (R128, R190, R191, R377). -/
structure QSet where
  vector : W16
  modCount : W16
  modTime : W16
  rate : W32
  subAllowance : W64
  /-- Records written and not yet announced. -/
  unannounced : Nat
  /-- Steering tag of the record written last, which a later message that announces it carries (R254). -/
  lastSt : Option W16
  /-- Token bucket content in thousandths of a byte, and the local count up to which it has filled (R191). -/
  bucket : Nat
  fillAt : Nat
  paused : Bool
  /-- Charge of the set in this window, in fJ. -/
  charged : Nat
  thresholdSent : Bool
  hintRes : Byte
  hintSlv : Byte
  /-- LATENCY hint, 0xFF for none. -/
  hintLat : Byte
  hintNuma : W16
  deriving DecidableEq, Repr

/-- One telemetry record (R229). -/
structure TelemRec where
  seq : W32
  time : W64
  v0 : W64
  v1 : W64
  deriving DecidableEq, Repr

/-- Everything held per function (1,026 of them). -/
structure Fn where
  cfg : FnCfg
  msix : Table MsixEntry
  pba : Table Bool
  /-- MODEL'S OWN: steering tag of the latest trigger behind a pending bit (R254). -/
  pendSt : Table W16
  /-- MODEL'S OWN: the order stamp at which its recovery from a hold began, while held writes and events are still to be
  emitted (R192). -/
  recovering : Option Nat
  pocket : Pocket
  /-- FLR in progress (R49). -/
  flr : Bool
  qsets : Table QSet
  lateCpl : W32
  orphanCpl : W32
  xltFaults : W32
  /-- Allowance set, allowance in force, and borrowed, in uJ (R376, R379). -/
  allowSet : W64
  allowance : W64
  borrowed : W64
  /-- Exempt in this window: its allowance at the window's start was 0 (R376). -/
  exempt : Bool
  /-- Charge of this window and running total, in fJ (R370). -/
  consumed : Nat
  total : Nat
  paused : Bool
  thresholdSent : Bool
  /-- Spill key generation (R354). -/
  keyGen : W32
  /-- GENERATION of the function's Yasil view (R78). -/
  generation : W32
  telemMask : W32
  telemInterval : W32
  bytesOut : W64
  bytesIn : W64
  /-- Sum, largest and number of the LATENCY samples of this INTERVAL (R229). -/
  latSum : Nat
  latMax : Nat
  latN : Nat
  telem : Table TelemRec
  /-- Last result and raw value of each STITCH slot written (R229). -/
  stitched : Table (W64 × W64)
  invQueue : List (Nat × List Nat)
  deriving DecidableEq, Repr

/-- The reset value of a function's state. -/
def Fn.init (fn : Nat) : Fn :=
  { cfg := FnCfg.init, msix := [], pba := [], pendSt := [], recovering := none, pocket := Pocket.init (if fn = 0 then 1 else 0), flr := false, qsets := [],
    lateCpl := 0, orphanCpl := 0, xltFaults := 0, allowSet := 0, allowance := 0, borrowed := 0, exempt := true, consumed := 0,
    total := 0, paused := false, thresholdSent := false, keyGen := 0, generation := 0, telemMask := 0,
    telemInterval := 0, bytesOut := 0, bytesIn := 0, latSum := 0, latMax := 0, latN := 0, telem := [], stitched := [], invQueue := [] }

/-! ## Tenancy -/

/-- TEN_STATUS.STATE (R67). -/
inductive TenState where
  | absent | ready | wiping
  deriving DecidableEq, Repr

/-- TDISP state (R431). -/
inductive Tdisp where
  | unlocked | locked | run | error
  deriving DecidableEq, Repr

/-- A tenant's allocation and state (R65, R76). -/
structure Tenant where
  state : TenState
  group : Nat
  qps : Nat
  vectors : Nat
  apts : List Nat
  iwins : List Nat
  ats : Nat
  ctx : Nat
  qsets : Nat
  /-- A destruction is pending (R68). -/
  destroying : Bool
  tdisp : Tdisp
  stream : Byte
  rejects : W16
  deriving DecidableEq, Repr

/-- A stream binding of R429 and the state of the stream. -/
structure IdeBind where
  valid : Bool
  secure : Bool
  group : Byte
  /-- Its group has been destroyed since it was bound: it carries no tenant traffic until it is rebound (R64). -/
  void : Bool
  deriving DecidableEq, Repr

/-- PF0's DOE mailbox: the dwords written and not yet given, those of the response not yet read, an object under way, and
the interrupt status (R42, R44; log entry 4). -/
structure Doe where
  written : List W32
  answer : List W32
  busy : Bool
  intStatus : Bool
  deriving DecidableEq, Repr

/-- Provisioning: SR-IOV, groups, tenants, spill grant, IDE streams, DOE sessions. -/
structure Prov where
  numVFs : W16
  vfEnable : Bool
  vfMse : Bool
  /-- Applied PF0 BAR2 size as log2 of GiB (R46). -/
  bar2Log : Nat
  ideSel : Byte
  /-- Existing groups with their floors (R63). -/
  groups : Table Nat
  /-- Floors of the groups that an event of R69 destroyed, until its wipe is done. -/
  floorsHeld : Nat
  tenants : Table Tenant
  spill : Bool
  spillBase : W64
  spillSize : W64
  /-- Key generations taken by every function at once: hot reset, link-down, PERST_N (R354). -/
  keyGenAll : W32
  /-- Jalid starts and reloads since PERST_N, which advance every view's GENERATION (R78). -/
  genAll : W32
  ide : Table IdeBind
  linkIdeSecure : Bool
  /-- SPDM sessions open on DOE (R425). -/
  spdm : List Nat
  doe : Doe
  deriving DecidableEq, Repr

/-- What the configuration space shows of the rest of the block, frozen at the entry to the safe state (R51, R450). -/
structure Shadow where
  link : HostLink
  fns : Table Fn
  prov : Prov
  no128 : Bool
  subsysId : W16
  pendingFns : List Nat
  deriving DecidableEq, Repr

/-! ## Queue pairs, units, tags -/

/-- QP state (R130). -/
inductive QpState where
  | stopped | active | error | draining
  deriving DecidableEq, Repr

/-- Where a QP's context is (R133 RESIDENCE, R358). -/
inductive Residence where
  | onDie | spilled | migrating
  deriving DecidableEq, Repr

/-- A descriptor fetched and not yet completed (R170, R537). -/
structure Desc where
  sqi : W16
  opcode : Byte
  flags : Byte
  vc : Byte
  len : Nat
  iova : Nat
  node : Nat
  tag : W32
  off : W64
  imm : W64
  cookie : W64
  /-- Its command row has started it. -/
  started : Bool
  /-- Units not yet cut into requests: the next byte offset to start. -/
  nextByte : Nat
  /-- Per unit in unit order: length, and whether it completed (R538). -/
  units : List (Nat × Bool)
  /-- Completion status once decided. -/
  status : Option Byte
  /-- RECV: the matched message's source node, source QP × 8 + VC, length and bytes still to come. -/
  matched : Option (Nat × Nat × Nat × Nat)
  immValid : Bool
  data : W64
  /-- Timebase at which its doorbell arrived (R229). -/
  rungAt : W64
  /-- Steering tag its payload, record and message carry, fixed when its first payload lands (R254). -/
  steer : Option W16
  deriving DecidableEq, Repr

/-- A QP (R130 to R133, R163, R187). -/
structure Qp where
  fn : Nat
  idx : Nat
  ats : Bool
  nsOk : Bool
  tph : Bool
  vc : BitVec 3
  sqBase : W64
  cqBase : W64
  sqLog2 : Nat
  cqLog2 : Nat
  state : QpState
  /-- Held STOPPED under R187. -/
  held : Bool
  mgrStop : Bool
  cause : Byte
  prod : W16
  cons : W16
  cqProd : W16
  cqCons : W16
  /-- PHASE of the completion ring's pass under way (R166). -/
  phase : Bool
  /-- Doorbells not yet fetched up to: SQ_PROD taken and timebase of arrival (R229). -/
  rings : List (W16 × W64)
  /-- Descriptors whose fetch read is outstanding. -/
  fetching : Nat
  /-- MODEL'S OWN: number of RECOVERs, which tells a read issued before one from later ones (R165). -/
  life : Nat
  descs : List Desc
  lateWrites : W32
  /-- PUT writes failed since the last FENCE (R181). -/
  fenceFails : W32
  /-- LATE_WRITE events during a drain (R132). -/
  drainFails : W32
  residence : Residence
  engine : Nat
  /-- MODEL'S OWN: order of creation among the QPs that live (R348). -/
  made : Nat
  st : W16
  hintRes : Byte
  hintSlv : Byte
  /-- LATENCY hint, 0xFF for none. -/
  hintLat : Byte
  hintNuma : W16
  /-- Smoothed access rate and this epoch's sample (R344). -/
  rate : Nat
  sample : Nat
  /-- Units started and bytes moved this epoch, and the load they made on its engine in the last one (R344, R361). -/
  unitsEp : Nat
  bytesEp : Nat
  load : Nat
  /-- Descriptors fetched this epoch, their bytes, and the smoothed mean bytes of a descriptor in 256ths (R381). -/
  epDescs : Nat
  epBytes : Nat
  meanBytes : Nat
  /-- Flow of the most recently fetched PUT, GET or SEND (R133 SLEEVE). -/
  lastFlow : Option (Nat × Nat)
  /-- Flows on which it has sent a SEND, with the tag (R314). -/
  sendFlows : List (Nat × Nat × W32)
  /-- Spill record index while spilled (R353). -/
  record : Option Nat
  /-- Latest doorbell kept for a spilled or switching QP (R351). -/
  keptDoorbell : Option W16
  /-- Latest CQ doorbell kept for it. -/
  keptCq : Option W16
  /-- A read of its spill record has been asked for and has not been used (R351, R358). -/
  loading : Bool
  serviceLoaded : Bool
  deriving DecidableEq, Repr

/-- An egress slice (R20). -/
abbrev Slice := Arb

/-- What a transfer unit carries. -/
inductive UnitKind where
  | put | sendMsg | getData | recvData | aptWrite | inWrite | readRsp | collectRsp
  deriving DecidableEq, Repr

/-- The class of a grant (R262). -/
inductive GrantClass where
  | owned | background
  deriving DecidableEq, Repr

/-- What a packet of ours belongs to: a unit or a read request of a QP's descriptor, an aperture write, a piece of an
aperture read, or nothing that waits for its outcome. -/
inductive Owner where
  | unit (qp : Nat) (sqi : W16) (no : Nat)
  | get (qp : Nat) (sqi : W16) (no : Nat)
  | aptWrite (apt : Nat)
  | aptRead (id piece : Nat)
  /-- A unit of a QP that RECOVER has since reset, or a reset marker behind such units (R132, R179). -/
  | past (qp : Nat)
  | other
  deriving DecidableEq, Repr

/-- A transfer unit in an egress slice, from its first landed byte to its end (R21, R183, R258). -/
structure XUnit where
  kind : UnitKind
  fn : Nat
  group : Nat
  slice : Slice
  /-- Global QP number, aperture or window, by kind. -/
  obj : Nat
  sqi : W16
  unitNo : Nat
  len : Nat
  landed : Nat
  committed : Bool
  granted : Option (GrantClass × Nat)
  emitted : Bool
  stamp : Nat
  /-- Local count at which its first byte landed, or its resend became due (R266). -/
  arrived : Nat
  /-- Host address (host-bound) or fabric offset (fabric-bound). -/
  addr : Nat
  data : Bytes
  /-- The packet a fabric-bound unit becomes, and for an inbound write the packet it came from. -/
  pkt : Option Packet
  owner : Owner
  /-- Host-bound: translated when the function's ATS is on, No Snoop asked, steering tag. -/
  ats : Bool
  noSnoop : Bool
  st : Option W16
  /-- A resent packet's unit requests again (R258, R317). -/
  resend : Bool
  /-- MODEL'S OWN: order of commit at its port (R184, R256). -/
  commitNo : Nat
  /-- Window units it still holds in grant space, 0 once its data is in its group's share (R310). -/
  grantUnits : Nat
  /-- A PUT unit of an ACKED descriptor (R171). -/
  acked : Bool
  /-- An inbound write whose use of the translation has been permitted, so that it may commit (R210). -/
  xlated : Bool
  /-- Window data under the data-invariant rule (R214). -/
  rule : Bool
  /-- MODEL'S OWN: held under R192 and to be emitted before what arose after it. -/
  heldBack : Bool
  /-- Its emission waits for a translation that has been asked for (R236, R241). -/
  xasked : Bool
  /-- It has been reported as starved (R266). -/
  starved : Bool
  /-- The receive state of the flow that brought it has gone: nothing of it counts there (R308, R309). -/
  cutOff : Bool
  deriving DecidableEq, Repr

/-- State of a request tag (R193, R196, R452). -/
inductive TagState where
  | outstanding | quarantined | timedOut
  deriving DecidableEq, Repr

/-- A request tag in use: who holds it, what the read is for and where its data goes. -/
structure Tag where
  fn : Nat
  state : TagState
  role : RdRole
  /-- QP, window slot or session concerned. -/
  obj : Nat
  addr : Nat
  len : Nat
  /-- Unit fed, if any, and the byte offset within it. -/
  xunit : Nat
  off : Nat
  translated : Bool
  deriving DecidableEq, Repr

/-- A host read waiting for a tag or for a translation (R195, R236). -/
structure Wait where
  fn : Nat
  role : RdRole
  obj : Nat
  addr : Nat
  len : Nat
  xunit : Nat
  off : Nat
  ats : Bool
  /-- Its translation has been asked for (R236). -/
  asked : Bool
  deriving DecidableEq, Repr

/-- A host-bound write decided and not yet emitted: a record of a QP's descriptor or a spill write, one event entry, or one
MSI-X message with the value read at its decision (R192, R241, R251, R252). -/
inductive HKind where
  | write (addr : Nat) (data : Bytes) (ats : Bool) (st : Option W16) (role : WrRole) (obj : Nat) (sqi : Option W16)
  | event (ev : Event) (final : Bool)
  | msg (addr : W64) (data : W32) (st : Option W16)
  deriving DecidableEq, Repr

/-- A host-bound item in the order in which it arose. -/
structure HItem where
  stamp : Nat
  fn : Nat
  kind : HKind
  asked : Bool
  deriving DecidableEq, Repr

/-! ## Windows -/

/-- WIN_APT_CFG.STATE and WIN_IWIN_CFG.STATE. -/
inductive WinState where
  | closed | opened | closing
  deriving DecidableEq, Repr

/-- An outbound aperture (R134, R205, R207). -/
structure Apt where
  state : WinState
  alloc : Bool
  owner : Nat
  rule : Bool
  vc : BitVec 3
  readLimit : Nat
  bar2 : Nat
  size : Nat
  node : Nat
  tag : W32
  fbase : Nat
  late : W32
  rdca : W32
  unack : W32
  /-- Write flush (R205): pending, FAILED, and covered packets not yet ended. -/
  flushPending : Bool
  flushFailed : W16
  /-- The flush covers the writes staged below this unit number (R205). -/
  flushAt : Nat
  /-- Failed packets not yet covered by a completed flush. -/
  failsOpen : Nat
  /-- Writes failed during the drain of APT_CLOSE (R119). -/
  drainFails : W32
  deriving DecidableEq, Repr

/-- An aperture read in progress (R202, R204): aperture, owner, host request tag, length, the runs under the rule it was
accepted with (offset within the access, fabric offset, length), and the read requests (fabric offset, length, data if
answered). -/
structure AptRead where
  apt : Nat
  fn : Nat
  htag : Nat
  len : Nat
  rule : Bool
  runs : List (Nat × Nat × Nat)
  pieces : List (Nat × Nat × Option Bytes)
  deriving DecidableEq, Repr

/-- An inbound window (R135, R213). -/
structure Iwin where
  state : WinState
  alloc : Bool
  owner : Nat
  rule : Bool
  access : BitVec 3
  tag : W32
  foff : Nat
  size : Nat
  iova : Nat
  source : Nat
  pfd : W64
  deny : W32
  /-- Slots discarded during the drain of IWIN_CLOSE (R119). -/
  drainDiscards : W32
  deriving DecidableEq, Repr

/-- A delayed-read slot (R216). -/
structure DrSlot where
  win : Nat
  node : Nat
  vc : Nat
  sl : Sleeve
  seq : BitVec 24
  off : Nat
  len : Nat
  /-- Bytes staged before the first one named, which complete its element under the data-invariant rule (R214). -/
  lead : Nat
  landed : Nat
  ready : Bool
  /-- The host's bytes, as they stand in host memory. -/
  data : Bytes
  collected : List (Nat × Nat)
  sequential : Bool
  /-- MODEL'S OWN: the unit number at its start, which orders it after earlier inbound writes (R211). -/
  order : Nat
  deriving DecidableEq, Repr

/-- Prefetched bytes of a window for one node (R219). -/
structure Prefetch where
  win : Nat
  node : Nat
  vc : Nat
  off : Nat
  len : Nat
  /-- As in the slot. -/
  lead : Nat
  /-- As in the slot. -/
  order : Nat
  landed : Nat
  data : Bytes
  deriving DecidableEq, Repr

/-- The window unit (R199 to R221). -/
structure Win where
  apts : Table Apt
  iwins : Table Iwin
  reads : Table AptRead
  slots : Table DrSlot
  prefetch : List Prefetch
  /-- End of the previous delayed read by (window, node) (R219). -/
  lastEnd : List (Nat × Nat × Nat)
  drDiscard : BitVec 14
  drDiscardCnt : W32
  noWin : W32
  noMap : W32
  nextRead : Nat
  /-- The aperture write that waits at the host port for room in its share, which withholds posted credits (R201): function,
  BAR2 offset, data. -/
  held : Option (Nat × Nat × Bytes)
  deriving DecidableEq, Repr

/-- A valid Stitch map entry as loaded (R223), with its run-time values (R140). -/
structure Stitch where
  kind : Byte
  flags : Byte
  frame : W16
  node : Nat
  srcBit : Nat
  srcWidth : Nat
  shift : Nat
  mul : W32
  add : W64
  dst : Nat
  dstBit : Nat
  dstWidth : Nat
  uom : Byte
  modifier : Byte
  lastIn : W64
  lastOut : W64
  updates : W32
  /-- Sensor has been updated and is not stale (R228). -/
  fresh : Bool
  /-- Output frame body (KIND 0x05), bit 0 of the frame first, as a number of 8 x LEN bits. -/
  body : Nat
  deriving DecidableEq, Repr

/-- The Stitch engine (R222 to R230). -/
structure Sti where
  map : Table Stitch
  staleMs : W16
  /-- Status frames that await unpacking, with their source nodes (R312). -/
  awaiting : List (Nat × Bytes)
  /-- Output frames due that wait for a Sleeve (R227, R283). -/
  due : List Packet
  frames : W32
  unmatched : W32
  fieldErr : W32
  sat : W32
  oframes : W32
  deriving DecidableEq, Repr

/-! ## Translation -/

/-- A translation cache entry (R234). -/
structure XEntry where
  fn : Nat
  base : Nat
  len : Nat
  pa : Nat
  r : Bool
  w : Bool
  noSnoop : Bool
  deriving DecidableEq, Repr

/-- An outstanding Translation Request (R236, R240). -/
structure XReq where
  tag : Nat
  fn : Nat
  base : Nat
  len : Nat
  write : Bool
  stale : Bool
  deriving DecidableEq, Repr

/-- The translation unit (R231 to R247). The cache is a list, least recently used first. -/
structure Xlt where
  cache : List XEntry
  reqs : List XReq
  fnSel : BitVec 11
  hits : W64
  misses : W64
  invRcvd : W32
  invOvf : W32
  staleTc : W32
  deriving DecidableEq, Repr

/-! ## Pleat arbiters -/

/-- One arbiter (R255 to R267). An entry of the table is the nine bits OPEN and GROUP; bit 9, which no register shows,
marks an entry whose group has been destroyed since it was written (R64). -/
structure Arbiter where
  entries : Table (BitVec 10)
  /-- Pleats begun and neither consumed nor lapsed, in start order (absolute pleat numbers). -/
  pendings : List Nat
  /-- The transmit queue: granted units, oldest grant first. -/
  queue : List Nat
  /-- The latest pleat that an owned grant has consumed (R263). -/
  ownedAt : Option Nat
  starved : Bool
  lastGroup : Byte
  owned : W64
  background : W64
  revoked : W64
  lapsed : W64
  starveCnt : W32
  deriving DecidableEq, Repr

/-- The three arbiters and what they share. -/
structure Plt where
  host : Arbiter
  sla : Arbiter
  slb : Arbiter
  starveLimit : BitVec 14
  /-- Absolute number of the pleat in force. -/
  current : Nat
  /-- MODEL'S OWN: units whose first byte has landed in the command under way (R263). -/
  arrivals : List Nat
  deriving DecidableEq, Repr

/-! ## Sleeves -/

/-- SLA_LINK.STATE. -/
inductive SlvState where
  | disabled | down | detect | train | align | param | up | retrain | quiet | fray
  deriving DecidableEq, Repr

/-- A sequenced flit in the replay buffer (R283): its sequence, KIND, VC, bypass slot and payload as sent. -/
structure LinkFlit where
  seq : BitVec 12
  kind : Nat
  vc : Nat
  body : Bytes
  payload : Bytes
  /-- Local count at its emission (RTT of SLA_ACK). -/
  sentAt : Nat
  deriving DecidableEq, Repr

/-- One Sleeve: link layer state and registers (R268 to R297). -/
structure Slv where
  state : SlvState
  enable : Bool
  maxRate : BitVec 2
  encMode : BitVec 2
  encOn : Bool
  rate : BitVec 2
  /-- Rate proposed in TRAIN (R280). -/
  tryRate : BitVec 2
  /-- Highest rate both sides offer, 0 while unknown (R291). -/
  bestRate : BitVec 2
  rxLanes : Nat
  txLanes : Nat
  /-- Widest width available to either direction (R291). -/
  rxAvail : Nat
  txAvail : Nat
  retiredRx : Byte
  retiredTx : Byte
  /-- Active transmit and receive lanes, by the Y7's physical numbers (R279, R289, R291). -/
  txMask : Byte
  rxMask : Byte
  /-- Transmit and receive lanes of the last training: those to which SHED may widen again (R279, R289). -/
  txSet : Byte
  rxSet : Byte
  /-- Local count when a packet or a transport message other than EPOCH last crossed the Sleeve (R399). -/
  crossedAt : Nat
  unretire : Bool
  /-- HELLO exchange (R277, R280). -/
  helloRcvd : Bool
  nodeOk : Bool
  /-- Node that the peer assigned in this PARAM (R281). -/
  assigned : Nat
  peerCap : Byte
  peerDepth : Nat
  /-- RATES of the peer's training words (R278, R280). -/
  peerRates : BitVec 3
  /-- By physical receive lane: the peer's transmit lane it carries, and those whose polarity is inverted (R278). -/
  rxMap : List (Option Nat)
  rxInv : Byte
  keysIn : Bool
  replayTimer : Byte
  /-- SLA_EVT bits [7:0]. -/
  evt : Byte
  /-- Receiver: expected sequence, NAK-pending, anything accepted (R282). -/
  expect : BitVec 12
  nakPending : Bool
  accepted : Bool
  /-- Sender: oldest outstanding, next sequence, last NAK and ACK seen, timer replays since the last ACK advance. -/
  oldest : BitVec 12
  nextSeq : BitVec 12
  lastNak : Bool
  lastAck : BitVec 12
  timerReplays : Nat
  /-- Lanes named by a pending SHED of ours, mask 0 for none (R289). -/
  shedMask : Byte
  shedWide : Bool
  /-- A SHED REQUEST that waits for a change of ours to end (R289). -/
  shedAsk : Option Byte
  quietAsked : Bool
  /-- A retrain that began in PARAM returns there (R287). -/
  inParam : Bool
  txKey : Byte
  rxKey : Byte
  /-- Each direction's encryption is in force; a key announced and the COUNTER where it begins (R294, R295). -/
  txOn : Bool
  rxOn : Bool
  /-- An encrypted group has been sent whose tag has not (R294). -/
  groupOpen : Bool
  txNext : Option (Byte × W64)
  rxNext : Option (Byte × W64)
  /-- COUNTER: sequenced flits sent, and accepted, since keying. -/
  keyCounter : W64
  rxCounter : W64
  /-- Local counts of the failed tags of the last 1 ms (R295). -/
  macTimes : List Nat
  /-- Flits accepted of groups that have not verified: neither acknowledged nor delivered (R295). -/
  rxGroup : List Bytes
  /-- The packet under assembly, none before a PKT_FIRST (R271). -/
  rxPkt : Option Bytes
  /-- The SPDM session's MCTP packet under assembly and the next fragment's sequence, and the packets received (R277, R294). -/
  mgmt : Bytes
  mgmtNext : Nat
  session : List Bytes
  /-- Packets of the session that arrived after PARAM. -/
  sessionUp : List Bytes
  fecCorr : W64
  fecUncorr : W64
  seqMismatch : W32
  nakSent : W32
  nakRcvd : W32
  tmrReplay : W32
  retrainCnt : W32
  downCnt : W32
  macFail : W32
  bypUnknown : W32
  stall : W64
  /-- The sender is stalled at the outstanding limit (R283). -/
  stalling : Bool
  /-- Time stalled that makes no whole flit time yet, in thirds of a ps (R283). -/
  stallFrac : Nat
  rtt : W16
  laneCorr : List W64
  eye : List W16
  /-- The replay buffer: every sequenced flit not yet acknowledged, oldest first (R283). -/
  buffer : List LinkFlit
  /-- Bypass messages waiting for a flit (R276). -/
  bypassQ : List Bytes
  /-- Health in this placement epoch (R344, R362): flits sent, NAK edges and timer replays, retrained; and the verdict
  of the last epoch. -/
  flitsEp : Nat
  replaysEp : Nat
  retrainEp : Bool
  unfit : Bool
  deriving DecidableEq, Repr

/-- A packet emitted, or waiting to be emitted, on a transport flow (R299). -/
structure TxPkt where
  seq : BitVec 24
  pkt : Packet
  /-- Window units of R307. -/
  units : Nat
  /-- Timebase at its last emission (R325). -/
  sentAt : W64
  /-- Local count from which its write timeout runs: its first emission, or its decision (R318). -/
  firstAt : Nat
  /-- The staged unit that holds its payload. -/
  xunit : Option Nat
  owner : Owner
  /-- Function charged. -/
  fn : Nat
  resent : Bool
  /-- Waits to be resent (R317, R319). -/
  again : Bool
  /-- Its delay sample has been taken (R325). -/
  sampled : Bool
  /-- MODEL'S OWN: place among the units and packets of its QP (R185). -/
  order : Nat
  deriving DecidableEq, Repr

/-- Send state of one flow (R299, R307, R309, R325). -/
structure TxFlow where
  next : BitVec 24
  unacked : List TxPkt
  sent : W32
  limit : W32
  granted : Bool
  /-- CWND in 1/256 of a window unit. -/
  cwnd : Nat
  sleeve : Sleeve
  /-- Function that opened it, to which its WANT is charged (R372). -/
  fn : Option Nat
  /-- Packets not yet emitted, oldest first. -/
  queue : List TxPkt
  /-- Packets kept across a RETIRE, which the new incarnation emits first and in this order (R309). -/
  kept : List TxPkt
  /-- Sequence of the oldest packet that a write timeout has ended, and their number: an answer for one is late (R316). -/
  ended : Option (BitVec 24 × Nat)
  /-- Silent until a new incarnation (R309, R318). -/
  silent : Bool
  /-- Waits for one of the 16,384 send states to be free (R300). -/
  wait : Bool
  /-- A hold for a flowlet boundary (R321). -/
  hold : Option Sleeve
  lastCut : W64
  deriving DecidableEq, Repr

/-- A refusal record (R315). -/
structure Refused where
  seq : BitVec 24
  status : Byte
  deriving DecidableEq, Repr

/-- A packet accepted and not yet answered: its commit is awaited, or its status awaits its NAK; the Sleeve it arrived on
(R306, R315). -/
structure Unanswered where
  seq : BitVec 24
  status : Option Byte
  sleeve : Sleeve
  deriving DecidableEq, Repr

/-- Receive state of one flow (R299, R310, R315). -/
structure RxFlow where
  expect : BitVec 24
  drained : W32
  /-- LIMIT as it stands, and the last one sent, none before the first GRANT (R308, R310). -/
  limit : W32
  lastLimit : Option W32
  /-- Highest sequence an ACK may carry, none before any (R315). -/
  acked : Option (BitVec 24)
  /-- Packets accepted and not yet answered, in order. -/
  waiting : List Unanswered
  refused : List Refused
  /-- Sleeve of the flow's last packet or WANT (R306). -/
  sleeve : Sleeve
  /-- Function served by its last packet, to which its messages are charged (R372). -/
  fn : Option Nat
  /-- Local count at the last packet accepted, and at the last packet received. -/
  lastAt : Nat
  seenAt : Nat
  deriving DecidableEq, Repr

/-- A request of ours whose answer is awaited (R313): its flow and sequence, its owner and the bytes asked for. -/
structure Await where
  node : Nat
  vc : Nat
  seq : BitVec 24
  owner : Owner
  len : Nat
  /-- Local count at its emission (R176). -/
  sentAt : Nat
  deriving DecidableEq, Repr

/-- A refused message: its destination QP, source node and source QP, and the status. lasting: a QP refused it, and refuses
every later message of that source QP as well (R179, R314). -/
structure SendRefusal where
  target : Nat
  node : Nat
  from_ : Nat
  status : Byte
  lasting : Bool
  deriving DecidableEq, Repr

/-- The transport (R298 to R325). Flows are keyed node * 8 + vc. -/
structure Tp where
  tx : Table TxFlow
  rx : Table RxFlow
  retired : List (Nat × BitVec 24)
  awaits : List Await
  epoch : W16
  known : Table W16
  rto : Byte
  grantMax : Byte
  wto : W16
  target : W16
  resent : W64
  reroute : W32
  dup : W32
  ahead : W32
  stale : W32
  late : W32
  noState : W32
  malformed : W32
  frameDrop : W32
  ccCut : W32
  hold : W32
  node : Nat
  nodeFixed : Bool
  /-- Flows whose LIMIT has stopped for want of room, in the order it stopped (R310). -/
  stalled : List Nat
  refusing : List SendRefusal
  /-- Packets accepted for a spilled QP, waiting in grant space for its load: QP, whether the receive state that accepted
  it has gone, packet (R310, R351). -/
  held : List (Nat × Bool × Packet)
  /-- Local count at the last RETIRE of a flow (R309) and the last EPOCH toward a node (R312). -/
  lastRetire : Table Nat
  lastEpochTo : Table Nat
  deriving DecidableEq, Repr

/-! ## Belt -/

/-- The Belt port (R326 to R342). -/
structure Belt where
  enable : Bool
  sleepOk : Bool
  summary : Byte
  bypassOpen : Bool
  rxLock : Bool
  txReady : Bool
  overHops : Bool
  enumId : W16
  position : Byte
  wireNs : W16
  crcRun : Nat
  goodRun : Nat
  txQueue : List (Bytes × Bytes)
  crcErr : W32
  lockLoss : W32
  dropHops : W32
  txDrop : W32
  bypUnknown : W32
  bypassClose : W32
  timeStep : W32
  deriving DecidableEq, Repr

/-! ## Placement -/

/-- The kinds of move (R346). -/
inductive Move where
  | promote | demote | engine (e : Nat)
  deriving DecidableEq, Repr

/-- The placement engine (R343 to R369). -/
structure Plc where
  maxMig : BitVec 9
  engineMask : W16
  sleeveMask : BitVec 2
  /-- Migrations in flight: QP, move, in phase 2. -/
  moves : List (Nat × Move × Bool)
  retBanks : W32
  retained : Bool
  /-- A plan is under way and not complete (R368). -/
  planning : Bool
  stgSel : Byte
  /-- Shares above the floor per (group, slice): units. -/
  shareHost : Table Nat
  shareSla : Table Nat
  shareSlb : Table Nat
  /-- Smoothed staging demand in 256ths of a byte, and the bytes staged in this epoch, by group and slice: key
  4 x group + arbiter number (R365). -/
  demand : Table Nat
  staged : Table Nat
  /-- Steering tags by NUMA node (R147). -/
  numa : Table W16
  /-- Engines the planner keeps active. -/
  engActive : W16
  freeRecords : List Nat
  nextRecord : Nat
  /-- Write count of each record (R353). -/
  writeCounts : Table W64
  /-- QPs whose spill access failed and is tried again at the next epoch (R356). -/
  retry : List Nat
  epochs : W64
  promote : W32
  demote : W32
  engMove : W32
  slvMove : W32
  migAbort : W32
  spillLoad : W32
  spillFail : W32
  quiesceMax : W16
  deriving DecidableEq, Repr

/-! ## Energy and power -/

/-- Ledger and planner (R370 to R384, R401). Accounts in nJ unless said. -/
structure El where
  throttle : Bool
  oversub : Bool
  /-- PF0 cap and window, operator cap and window; 0 for none. -/
  pfCap : Nat
  pfWindow : Nat
  opCap : Nat
  opWindow : Nat
  /-- Window W in force, ms. -/
  window : Nat
  /-- Local count at the start of the window under way. -/
  windowAt : Nat
  coefGen : W16
  coefPending : Bool
  coefSet : Nat
  fnSel : BitVec 11
  coefSel : BitVec 6
  devWindow : Nat
  devTotal : Nat
  /-- Device energy so far and budget in uJ of the window that has ended and whose last epoch is not closed yet (R380). -/
  closing : Option (Nat × Nat)
  railTotal : List Nat
  domTotal : List Nat
  reserve : W64
  /-- Reserve in force, scaled while OVERSUB (R376). -/
  reserveForce : W64
  borrowMax : W64
  reserveLeft : W64
  target : W32
  /-- k of R381. -/
  k : Rat
  /-- Forecast of the epoch under way, in uJ; admitted energy. -/
  forecast : Nat
  admitted : Nat
  epochInWindow : Nat
  /-- Planner levers: host lanes, Sleeve transmit lanes, engines, core clock code. -/
  hostW : Nat
  slaW : Nat
  slbW : Nat
  engines : Nat
  coreClk : BitVec 2
  /-- Epochs for which the narrower value of each lever would have met need (R384). -/
  narrowRun : List Nat
  /-- Inbound bytes of the last and of this epoch, on Sleeve A and on Sleeve B (R381). -/
  inboundPrev : Nat × Nat
  inboundNow : Nat × Nat
  windows : W32
  throttled : W32
  pauses : W32
  overrun : W64
  /-- Charge of each function in this epoch, in fJ (R382). -/
  epochCharge : Table Nat
  /-- Energy by function forecast for this epoch, in uJ. -/
  fnForecast : Table Nat
  deriving DecidableEq, Repr

/-- Domain states (R385), encoded as in R151. -/
inductive PwrState where
  | run | idle | sleep | deepSleep | off
  deriving DecidableEq, Repr

/-- One power domain: its state, the entry under way, a wake noted during it, and a wake under way. -/
structure Dom where
  state : PwrState
  entering : Option PwrState
  wakeNoted : Bool
  waking : Bool
  refuse : W32
  /-- Floors set by VOTE_SET of PF0 and PF1 (R150). -/
  pf0Floor : Nat
  pf1Floor : Nat
  deriving DecidableEq, Repr

/-- A refusal history entry (R389). -/
structure Refuse where
  time : W64
  target : Byte
  domain : Byte
  client : Byte
  deriving DecidableEq, Repr

/-- Power controller (R385 to R402). -/
structure Pwr where
  doms : List Dom
  dlyDs : Byte
  dlySleep : Byte
  dlyIdle : Byte
  brownout : Bool
  wakeSrc : Byte
  aonLoad : Byte
  pmeEn : BitVec 4
  lastValid : Bool
  lastDomain : BitVec 4
  lastClient : BitVec 4
  hist : List Refuse
  deriving DecidableEq, Repr

/-! ## Faults -/

/-- The block log of one source (R440). -/
structure FaultLog where
  count : W32
  first : W64
  last : W64
  detail : FaultRec
  deriving DecidableEq, Repr

/-- The fault collector (R438 to R450). -/
structure Fc where
  sticky : Table Bool
  logs : Table FaultLog
  /-- Reaction codes that differ from their reset value (R441). -/
  react : Table Byte
  lock : Bool
  errLow : Bool
  pulse : Bool
  hold : Bool
  releaseDue : Bool
  lastSafeValid : Bool
  lastSafe : BitVec 11
  rises : W32
  blockResets : W32
  /-- Traps delivered and not yet acknowledged (R445). -/
  traps : List Nat
  /-- Block resets taken: block number of R447 and local count. -/
  recentResets : List (Nat × Nat)
  /-- A chip-reset reaction waits for Lining's command (R448). -/
  chipResetDue : Bool
  /-- Error lines raised by the command under way, not yet handled by the collector: source and record. -/
  asserted : List (Nat × FaultRec)
  deriving DecidableEq, Repr

/-! ## Lining -/

/-- One event log record (R460). -/
structure LogRec where
  seq : W32
  type : Byte
  flags : Byte
  code : W16
  time : W64
  data : Bytes
  deriving DecidableEq, Repr

/-- The update session (R155, R472). -/
structure Session where
  id : W16
  isOpen : Bool
  pldm : Bool
  slot : Slot
  imageLen : Nat
  written : Nat
  /-- PLDM: the binding of its update agent, the component has been named, maximum transfer size, bytes taken and
  transfer complete. -/
  via : Binding
  named : Bool
  maxXfer : Nat
  got : Nat
  transferred : Bool
  deriving DecidableEq, Repr

/-- What the wear ledger gathers over a ledger day (R478, R479): minutes in the sixteen bands of 10 degrees C of the
highest die temperature, the VDD setpoint summed over minutes, minutes counted, equivalent stress in us, and the counts
of retrains, lane retirements and brown-outs. -/
structure DayWear where
  bands : List Nat
  vddSum : Nat
  minutes : Nat
  stress : Nat
  retrains : Nat
  retired : Nat
  brownouts : Nat
  deriving DecidableEq, Repr

/-- A daily record of the wear ledger (R478). -/
structure DayRec where
  day : Nat
  drift : List W16
  wear : DayWear
  deriving DecidableEq, Repr

/-- Lining: sensors, log, MCTP, update, ageing (R455 to R484). -/
structure Lin where
  /-- The configuration region of MRAM that the manual names (R456). -/
  subsysId : W16
  reactOverrides : Table Byte
  anchorA : Bool
  anchorB : Bool
  firmware : Bool
  tempC : List Int
  volts : List Nat
  amps : List Nat
  power : Nat
  droops : List Nat
  /-- A temperature sensor is at its upper warning or above (R459). -/
  warn : Bool
  /-- EIDs: Lining's on its four bindings, and Buttonhole's (R464, R494). -/
  eids : List Byte
  i3cAddr : Option (BitVec 7)
  log : List LogRec
  nextSeq : W32
  logQueue : List LogRec
  logLost : W32
  session : Session
  /-- SMBus or I3C, fixed by the first transaction after power-on reset (R464). -/
  bus : Option Binding
  /-- Ageing monitor pairs still to be measured (R477). -/
  toMeasure : List Nat
  /-- Deferred actions of R482 by Sleeve: action and lane. -/
  deferA : List (Nat × Nat)
  deferB : List (Nat × Nat)
  /-- Ledger days recorded (R478). -/
  days : Nat
  lifeDays : W16
  limiter : Byte
  /-- Equivalent stress time in us (R479). -/
  stressUs : Nat
  poweredSec : Nat
  ageSel : BitVec 6
  drift : List W16
  /-- poweredSec at each pair's last measurement. -/
  ageAt : List Nat
  vddMv : BitVec 10
  autoRetire : Bool
  autoDerate : Bool
  host128 : Bool
  slaRate : BitVec 2
  slbRate : BitVec 2
  /-- CLEAR_DERATE written and not yet met by a link-up, for each Sleeve and the host port (R481). -/
  clearA : Bool
  clearB : Bool
  clearHost : Bool
  meas : W32
  actions : W32
  /-- Whole percents crossed at the last margin plan, by pair (R477). -/
  planned : List Nat
  /-- Consecutive daily measurements of EYE below 12.0 mV by lane, and of the host margin below 0.05 UI (R481). -/
  eyeLowA : List Nat
  eyeLowB : List Nat
  hostLow : Nat
  /-- Fewer than 6 lanes of the Sleeve were unretired in a direction at the last evaluation (R481). -/
  fewA : Bool
  fewB : Bool
  /-- Action 0x01 fell due with the setpoint at 0.85 V: the forecast stays 0 days (R482). -/
  worn : Bool
  /-- Ledger days on which a re-fit is due after action 0x01 (R481). -/
  refitDays : List Nat
  /-- Start coefficients stored by action 0x02: port (0 host, 1 Sleeve A, 2 Sleeve B) x 1,024 + rate x 64 + lane. -/
  eq : Table W32
  /-- The wear ledger of 12,288 daily records, oldest first, and the day under way (R478). -/
  ledger : List DayRec
  today : DayWear
  deriving DecidableEq, Repr

/-! ## Buttonhole -/

/-- A counter selection (R491). -/
structure BhSel where
  event : W16
  kind : BitVec 2
  filter : BitVec 11
  deriving DecidableEq, Repr

/-- Buttonhole (R485 to R497). -/
structure Bh where
  sel : Table BhSel
  count : Table (BitVec 48)
  snap : Table (BitVec 48)
  snapTime : W64
  traceEn : Bool
  running : Bool
  lost : Bool
  filter : W32
  cntTrace : W32
  intEn : Bool
  intVec : BitVec 4
  lostCnt : W32
  lostSince : W32
  /-- Messages waiting in the buffer, and those sent since the last SYNC. -/
  buffer : List Bytes
  sinceSync : Nat
  sampleRun : Nat
  /-- LOST went from 0 to 1 and its interrupt (BH_INT) is still to be decided. -/
  intDue : Bool
  deriving DecidableEq, Repr

/-! ## The whole block -/

/-- The block: every register, table, queue and pin of the spec, and the model's own three fields. -/
structure State where
  boot : Boot
  clk : Clocks
  link : HostLink
  fns : Table Fn
  prov : Prov
  qps : Table Qp
  units : Table XUnit
  nextUnit : Nat
  tags : Table Tag
  waits : List Wait
  /-- Host-bound items decided and not yet emitted, oldest first. -/
  hostq : List HItem
  /-- The configuration shadow of the safe state (R51). -/
  shadow : Option Shadow
  /-- MODEL'S OWN: the next order stamp. -/
  stamp : Nat
  win : Win
  sti : Sti
  xlt : Xlt
  plt : Plt
  slvA : Slv
  slvB : Slv
  tp : Tp
  belt : Belt
  plc : Plc
  el : El
  pwr : Pwr
  fc : Fc
  lin : Lin
  bh : Bh
  /-- MODEL'S OWN: everything handed to a port since power-on, oldest first. -/
  out : List Emission
  /-- MODEL'S OWN: index of the next free value (Config.freeValue). -/
  freeIdx : Nat
  /-- Commands waiting, first in first out. -/
  pending : List Instr
  deriving DecidableEq, Repr

/-! ## Reset values. A field to which the spec gives no value has the one that log entry 2 names. -/

/-- Slot knowledge before any check. -/
def SlotInfo.init : SlotInfo := { valid := false, erased := false, secVer := 0, build := 0 }

/-- No key has been derived. -/
def Identity.init : Identity := { deviceId := none, aliasKey := none, spillRoot := none }

/-- The boot record, straps and GLB registers after power-on reset (R414, GLB_BOOT, GLB_RESET_CAUSE). -/
def Boot.init : Boot :=
  { mode := .off, stage := .none, vaon := true, vdd := false, perst := true, addrSel := 0, bootSel := false,
    fieldLock := true, fuses := 0, bootFuses := 0, next := .a, prev := .b, pendingBoot := false, attempts := 0, recordBad := false,
    fallback := false, reject := 0, running := .a, slotA := SlotInfo.init, slotB := SlotInfo.init,
    slotR := SlotInfo.init, resetCause := 0x01, degHost := false, reloading := false, cfgReady := false,
    committed := false, sectionsOk := false, no128 := false, ident := Identity.init }

/-- Clocks after power-on reset (R404, GLB_CLK_STATUS). -/
def Clocks.init : Clocks :=
  { timebase := 0, localCount := 0, srefOk := false, xtalOk := false, pllLock := 0, timeSet := false,
    timeLocked := false, offset := 0, slew := 0, ratePpm := 0, frac := 0 }

/-- No host link. -/
def HostLink.init : HostLink :=
  { state := .down, lanes := 0, trained := 0, rate := 0, flit := false, ltr := none, clkreq := true,
    pewake := false, reversed := false, inverted := 0, tx := [], equalized := [] }

/-- An empty mailbox. -/
def Doe.init : Doe := { written := [], answer := [], busy := false, intStatus := false }

/-- Nothing provisioned; BAR2 at its reset size of 256 GiB (R46). -/
def Prov.init : Prov :=
  { numVFs := 0, vfEnable := false, vfMse := false, bar2Log := 8, ideSel := 0, groups := [], floorsHeld := 0, tenants := [],
    spill := false, spillBase := 0, spillSize := 0, keyGenAll := 0, genAll := 0, ide := [], linkIdeSecure := false, spdm := [], doe := Doe.init }

/-- No aperture, window, slot or prefetch; the discard timer at 200 us (WIN_CTRL). -/
def Win.init : Win :=
  { apts := [], iwins := [], reads := [], slots := [], prefetch := [], lastEnd := [], drDiscard := 0x00C8,
    drDiscardCnt := 0, noWin := 0, noMap := 0, nextRead := 0, held := none }

/-- An empty Stitch map (STI_CTRL reset 1,000 ms). -/
def Sti.init : Sti :=
  { map := [], staleMs := 0x03E8, awaiting := [], due := [], frames := 0, unmatched := 0, fieldErr := 0, sat := 0, oframes := 0 }

/-- An empty translation cache. -/
def Xlt.init : Xlt :=
  { cache := [], reqs := [], fnSel := 0, hits := 0, misses := 0, invRcvd := 0, invOvf := 0, staleTc := 0 }

/-- An arbiter whose entries are all OPEN (PLT_ENTRY reset). -/
def Arbiter.init : Arbiter :=
  { entries := [], pendings := [], queue := [], ownedAt := none, starved := false, lastGroup := 0, owned := 0,
    background := 0, revoked := 0, lapsed := 0, starveCnt := 0 }

/-- The three arbiters; starvation limit 100 us. -/
def Plt.init : Plt :=
  { host := Arbiter.init, sla := Arbiter.init, slb := Arbiter.init, starveLimit := 0x0064, current := 0, arrivals := [] }

/-- A Sleeve after power-on: DISABLED until the epoch is raised (R280), enabled, offering every rate. -/
def Slv.init : Slv :=
  { state := .disabled, enable := true, maxRate := 3, encMode := 0, encOn := false, rate := 0, tryRate := 0,
    bestRate := 0, rxLanes := 0, txLanes := 0, rxAvail := 8, txAvail := 8, retiredRx := 0, retiredTx := 0,
    txMask := 0, rxMask := 0, txSet := 0, rxSet := 0, crossedAt := 0, unretire := false, helloRcvd := false, nodeOk := false, assigned := 0, peerCap := 0, peerDepth := 0,
    peerRates := 0, rxMap := List.replicate 8 none, rxInv := 0, inParam := false, txOn := false, rxOn := false, txNext := none, rxNext := none, rxCounter := 0,
    rxGroup := [], rxPkt := none, mgmtNext := 0, session := [], sessionUp := [], stallFrac := 0, keysIn := false,
    replayTimer := 0x14, evt := 0, expect := 0, nakPending := false, accepted := false, oldest := 0, nextSeq := 0,
    lastNak := false, lastAck := 0, timerReplays := 0, shedMask := 0, shedWide := false, shedAsk := none, quietAsked := false,
    txKey := 0, rxKey := 0, keyCounter := 0, macTimes := [], mgmt := [], fecCorr := 0, fecUncorr := 0,
    seqMismatch := 0, nakSent := 0, nakRcvd := 0, tmrReplay := 0, retrainCnt := 0, downCnt := 0, macFail := 0,
    bypUnknown := 0, stall := 0, rtt := 0, laneCorr := List.replicate 8 0, eye := List.replicate 8 0,
    buffer := [], groupOpen := false, stalling := false, bypassQ := [], flitsEp := 0, replaysEp := 0, retrainEp := false, unfit := false }

/-- The transport with no flow (SLA_TP_CTRL, SLA_TP_CC reset values). -/
def Tp.init : Tp :=
  { tx := [], rx := [], retired := [], awaits := [], epoch := 0, known := [], rto := 0x0A, grantMax := 0x10,
    wto := 0x03E8, target := 0x0FA0, resent := 0, reroute := 0, dup := 0, ahead := 0, stale := 0, late := 0,
    noState := 0, malformed := 0, frameDrop := 0, ccCut := 0, hold := 0, node := 0, nodeFixed := false,
    stalled := [], refusing := [], held := [], lastRetire := [], lastEpochTo := [] }

/-- The Belt port: enabled, bypass closed, position 0xFE. -/
def Belt.init : Belt :=
  { enable := true, sleepOk := false, summary := 0x0A, bypassOpen := false, rxLock := false, txReady := false,
    overHops := false, enumId := 0, position := 0xFE, wireNs := 0, crcRun := 0, goodRun := 0, txQueue := [], crcErr := 0,
    lockLoss := 0, dropHops := 0, txDrop := 0, bypUnknown := 0, bypassClose := 0, timeStep := 0 }

/-- The placement engine with its default limits (PLC_LIMITS). -/
def Plc.init : Plc :=
  { maxMig := 0x040, engineMask := 0xFFFF, sleeveMask := 3, moves := [], retBanks := 0, retained := false,
    planning := false, stgSel := 0, shareHost := [], shareSla := [], shareSlb := [], demand := [], staged := [], numa := [],
    engActive := 0xFFFF, freeRecords := [], nextRecord := 0, writeCounts := [], retry := [], epochs := 0, promote := 0, demote := 0, engMove := 0,
    slvMove := 0, migAbort := 0, spillLoad := 0, spillFail := 0, quiesceMax := 0 }

/-- Ledger and planner: no cap, window 100 ms, k 1, 16 engines (EL_* reset values). -/
def El.init : El :=
  { throttle := false, oversub := false, pfCap := 0, pfWindow := 0, opCap := 0, opWindow := 0, window := 100, windowAt := 0,
    coefGen := 0, coefPending := false, coefSet := 0, fnSel := 0, coefSel := 0, devWindow := 0, devTotal := 0, closing := none,
    railTotal := List.replicate 8 0, domTotal := List.replicate 11 0, reserve := 0, reserveForce := 0, borrowMax := 0, reserveLeft := 0,
    target := 0, k := 1, forecast := 0, admitted := 0, epochInWindow := 0, hostW := 0, slaW := 0, slbW := 0,
    engines := 16, coreClk := 0, narrowRun := [0, 0, 0, 0, 0], inboundPrev := (0, 0), inboundNow := (0, 0), windows := 0,
    throttled := 0, pauses := 0, overrun := 0, epochCharge := [], fnForecast := [] }

/-- A domain that is Off, with the floors of VOTE_SET at reset. DESIGN CHOICE: PWR_VOTE.FLOOR resets to 0x4 and the spec does
not say whose floor that is: PF0's floor is Run and PF1 has none (log entry 70). -/
def Dom.off : Dom :=
  { state := .off, entering := none, wakeNoted := false, waking := false, refuse := 0, pf0Floor := 4, pf1Floor := 0 }

/-- Power controller: AON in Run, the rest Off (R16, R414); delays and PME enables at reset. -/
def Pwr.init : Pwr :=
  { doms := { Dom.off with state := .run } :: List.replicate 10 Dom.off, dlyDs := 0x01, dlySleep := 0x0A,
    dlyIdle := 0x04, brownout := false, wakeSrc := 0, aonLoad := 0, pmeEn := 4, lastValid := false, lastDomain := 0,
    lastClient := 0, hist := [] }

/-- The fault collector with nothing recorded; HOLD 1. -/
def Fc.init : Fc :=
  { sticky := [], logs := [], react := [], lock := false, errLow := false, pulse := false, hold := true,
    releaseDue := false, lastSafeValid := false, lastSafe := 0, rises := 0, blockResets := 0, traps := [],
    recentResets := [], chipResetDue := false, asserted := [] }

/-- No update session. -/
def Session.none : Session :=
  { id := 0, isOpen := false, pldm := false, slot := .a, imageLen := 0, written := 0, maxXfer := 0,
    via := .smbus, named := false, got := 0, transferred := false }

/-- A ledger day with nothing gathered. -/
def DayWear.none : DayWear :=
  { bands := List.replicate 16 0, vddSum := 0, minutes := 0, stress := 0, retrains := 0, retired := 0, brownouts := 0 }

/-- Lining at a first power-on: MRAM configuration unset, nothing logged, no wear recorded. -/
def Lin.init : Lin :=
  { subsysId := 0, reactOverrides := [], anchorA := false, anchorB := false, firmware := false,
    tempC := List.replicate 32 0, volts := List.replicate 16 0, amps := List.replicate 8 0, power := 0,
    droops := List.replicate 64 0, warn := false, eids := [0, 0, 0, 0, 0], i3cAddr := none, log := [], nextSeq := 0,
    logQueue := [], logLost := 0, session := Session.none, bus := none, toMeasure := [], deferA := [], deferB := [],
    days := 0, lifeDays := 0xFFFF, limiter := 0xFF, stressUs := 0, poweredSec := 0, ageSel := 0,
    drift := List.replicate 48 0, ageAt := List.replicate 48 0, vddMv := 750, autoRetire := true,
    autoDerate := true, host128 := false, slaRate := 3, slbRate := 3, clearA := false, clearB := false,
    clearHost := false, meas := 0, actions := 0, planned := List.replicate 48 0, eyeLowA := List.replicate 8 0,
    eyeLowB := List.replicate 8 0, hostLow := 0, fewA := false, fewB := false, worn := false, refitDays := [], eq := [], ledger := [], today := DayWear.none }

/-- Buttonhole at rest (BH_* reset values). -/
def Bh.init : Bh :=
  { sel := [], count := [], snap := [], snapTime := 0, traceEn := false, running := false, lost := false, filter := 0,
    cntTrace := 0, intEn := false, intVec := 1, lostCnt := 0, lostSince := 0, buffer := [], sinceSync := 0,
    sampleRun := 0, intDue := false }

/-- The block right after power-on reset (R414, R416): VAON valid, mode OFF, AON out of reset, PERST_N asserted, and
every field at the reset value of its register's table. -/
def State.reset : State :=
  { boot := Boot.init, clk := Clocks.init, link := HostLink.init, fns := [], prov := Prov.init, qps := [], units := [],
    nextUnit := 0, tags := [], waits := [], hostq := [], shadow := none, stamp := 0, win := Win.init, sti := Sti.init, xlt := Xlt.init, plt := Plt.init,
    slvA := Slv.init, slvB := Slv.init, tp := Tp.init, belt := Belt.init, plc := Plc.init, el := El.init,
    pwr := Pwr.init, fc := Fc.init, lin := Lin.init, bh := Bh.init, out := [], freeIdx := 0, pending := [] }

end Sys2Proof.Machine
end

