-- ==== Sys2Proof/Machine/Ops.lean ====
section
/-! DEFINITION. The named operations every block uses: sparse tables, access to a function, QP, Sleeve, arbiter or
domain of the state, what is handed to a port, and free values. -/
namespace Sys2Proof

/-- The other Sleeve. -/
def Sleeve.other : Sleeve → Sleeve
  | .a => .b
  | .b => .a

/-- The arbiter of a Sleeve. -/
def Sleeve.arb : Sleeve → Arb
  | .a => .sla
  | .b => .slb

/-- The power domain of a Sleeve. -/
def Sleeve.domain : Sleeve → Domain
  | .a => .sla
  | .b => .slb

/-- Sleeve number, 0 A and 1 B, as in SYNDROME and BODY fields. -/
def Sleeve.num : Sleeve → Nat
  | .a => 0
  | .b => 1

/-- Arbiter number of R260. -/
def Arb.num : Arb → Nat
  | .host => 0
  | .sla => 1
  | .slb => 2

/-- Domain number in the order of R150. -/
def Domain.num : Domain → Nat
  | .aon => 0
  | .lin => 1
  | .hst => 2
  | .ctl => 3
  | .dp => 4
  | .ctx => 5
  | .xlt => 6
  | .sla => 7
  | .slb => 8
  | .blt => 9
  | .bh => 10

/-- The domain with a number of R150. -/
def Domain.ofNum? : Nat → Option Domain
  | 0 => some .aon
  | 1 => some .lin
  | 2 => some .hst
  | 3 => some .ctl
  | 4 => some .dp
  | 5 => some .ctx
  | 6 => some .xlt
  | 7 => some .sla
  | 8 => some .slb
  | 9 => some .blt
  | 10 => some .bh
  | _ => none

end Sys2Proof

namespace Sys2Proof.Machine

/-! ## Tables -/

/-- The entry under key k. -/
def tget {α : Type} : Table α → Nat → Option α
  | [], _ => none
  | (k', v) :: r, k => if k' = k then some v else tget r k

/-- Insert or overwrite the entry under key k, keeping the keys rising. -/
def tput {α : Type} : Table α → Nat → α → Table α
  | [], k, v => [(k, v)]
  | (k', v') :: r, k, v =>
    if k < k' then (k, v) :: (k', v') :: r
    else if k = k' then (k, v) :: r
    else (k', v') :: tput r k v

/-- Remove the entry under key k. -/
def tdel {α : Type} : Table α → Nat → Table α
  | [], _ => []
  | (k', v') :: r, k => if k' = k then tdel r k else (k', v') :: tdel r k

/-- Change the entry under key k if there is one. -/
def tmod {α : Type} : Table α → Nat → (α → α) → Table α
  | [], _, _ => []
  | (k', v') :: r, k, f => if k' = k then (k', f v') :: tmod r k f else (k', v') :: tmod r k f

/-- The entry under key k, or d where none is listed. -/
def tgetD {α : Type} (t : Table α) (k : Nat) (d : α) : α := (tget t k).getD d

/-- Change every entry, keeping the keys. -/
def tmap {α β : Type} (t : Table α) (f : Nat → α → β) : Table β := t.map fun p => (p.1, f p.1 p.2)

/-- Keep the entries that satisfy p. -/
def tkeep {α : Type} (t : Table α) (p : Nat → α → Bool) : Table α := t.filter fun e => p e.1 e.2

/-- The keys, rising. -/
def tkeys {α : Type} (t : Table α) : List Nat := t.map (·.1)

/-- The canonical form of a table: its keys rise strictly. -/
def tsorted {α : Type} : Table α → Bool
  | [] => true
  | [_] => true
  | (k, _) :: (k', v') :: r => decide (k < k') && tsorted ((k', v') :: r)

/-- Change element i of a list if it has one. -/
def lmod {α : Type} (l : List α) (i : Nat) (f : α → α) : List α :=
  match l, i with
  | [], _ => []
  | x :: r, 0 => f x :: r
  | x :: r, i + 1 => x :: lmod r i f

/-- Element i of a list, or d. -/
def lget {α : Type} (l : List α) (i : Nat) (d : α) : α :=
  match l, i with
  | [], _ => d
  | x :: _, 0 => x
  | _ :: r, i + 1 => lget r i d

/-- The smallest number not in the list, found within its length. -/
def smallestFree (used : List Nat) : Nat :=
  ((List.range (used.length + 1)).find? fun n => !used.contains n).getD used.length

/-! ## Saturating and wrapping counters -/

/-- Add one, staying at the largest value of the width (the manual's saturating counts). -/
def satInc {w : Nat} (x : BitVec w) : BitVec w := if x = BitVec.allOnes w then x else x + 1

/-- Add n, staying at the largest value of the width. -/
def satAdd {w : Nat} (x : BitVec w) (n : Nat) : BitVec w := BitVec.ofNat w (min (x.toNat + n) (2 ^ w - 1))

/-- A natural number cut to the largest value of the width. -/
def satOfNat (w : Nat) (n : Nat) : BitVec w := BitVec.ofNat w (min n (2 ^ w - 1))

/-! ## Access to parts of the state -/

/-- Function n (numbers of R56). -/
def State.fn (s : State) (n : Nat) : Fn := (tget s.fns n).getD (Fn.init n)

/-- Replace function n. -/
def State.setFn (s : State) (n : Nat) (f : Fn) : State := { s with fns := tput s.fns n f }

/-- Change function n. -/
def State.modFn (s : State) (n : Nat) (g : Fn → Fn) : State := s.setFn n (g (s.fn n))

/-- Change the Pocket of function n. -/
def State.modPocket (s : State) (n : Nat) (g : Pocket → Pocket) : State :=
  s.modFn n fun f => { f with pocket := g f.pocket }

/-- Change the configuration fields of function n. -/
def State.modCfg (s : State) (n : Nat) (g : FnCfg → FnCfg) : State := s.modFn n fun f => { f with cfg := g f.cfg }

/-- The QP with global number n. -/
def State.qp (s : State) (n : Nat) : Option Qp := tget s.qps n

/-- Change QP n if it exists. -/
def State.modQp (s : State) (n : Nat) (g : Qp → Qp) : State := { s with qps := tmod s.qps n g }

/-- Change queue set q of function n if it exists. -/
def State.modQset (s : State) (n q : Nat) (g : QSet → QSet) : State :=
  s.modFn n fun f => { f with qsets := tmod f.qsets q g }

/-- Change unit u if it exists. -/
def State.modUnit (s : State) (u : Nat) (g : XUnit → XUnit) : State := { s with units := tmod s.units u g }

/-- The tenant of VF number vf (1 to 1,024). -/
def State.tenant (s : State) (vf : Nat) : Option Tenant := tget s.prov.tenants vf

/-- Change the tenant of VF vf if there is one. -/
def State.modTenant (s : State) (vf : Nat) (g : Tenant → Tenant) : State :=
  { s with prov := { s.prov with tenants := tmod s.prov.tenants vf g } }

/-- A Sleeve. -/
def State.slv (s : State) : Sleeve → Slv
  | .a => s.slvA
  | .b => s.slvB

/-- Replace Buttonhole. -/
def State.setBh (s : State) (b : Bh) : State := { s with bh := b }

/-- Replace a Sleeve. -/
def State.setSlv (s : State) (sl : Sleeve) (v : Slv) : State :=
  match sl with
  | .a => { s with slvA := v }
  | .b => { s with slvB := v }

/-- Change a Sleeve. -/
def State.modSlv (s : State) (sl : Sleeve) (g : Slv → Slv) : State := s.setSlv sl (g (s.slv sl))

/-- One of the three arbiters. -/
def State.arb (s : State) : Arb → Arbiter
  | .host => s.plt.host
  | .sla => s.plt.sla
  | .slb => s.plt.slb

/-- Replace an arbiter. -/
def State.setArb (s : State) (a : Arb) (v : Arbiter) : State :=
  match a with
  | .host => { s with plt := { s.plt with host := v } }
  | .sla => { s with plt := { s.plt with sla := v } }
  | .slb => { s with plt := { s.plt with slb := v } }

/-- Change an arbiter. -/
def State.modArb (s : State) (a : Arb) (g : Arbiter → Arbiter) : State := s.setArb a (g (s.arb a))

/-- A power domain. -/
def State.dom (s : State) (d : Domain) : Dom := lget s.pwr.doms d.num Dom.off

/-- Change a power domain. -/
def State.modDom (s : State) (d : Domain) (g : Dom → Dom) : State :=
  { s with pwr := { s.pwr with doms := lmod s.pwr.doms d.num g } }

/-! ## Function numbers (R56) -/

/-- VF number of a function number, 0 for PF0 and PF1. -/
def vfOf (fn : Nat) : Nat := fn - 1

/-- Function number of VFn. -/
def fnOfVf (vf : Nat) : Nat := vf + 1

/-- The function number names a VF. -/
def isVf (fn : Nat) : Bool := decide (2 ≤ fn) && decide (fn ≤ 1025)

/-- The VF exists: VF Enable is 1 and its number is at most NumVFs (R57). -/
def State.vfExists (s : State) (vf : Nat) : Bool :=
  s.prov.vfEnable && decide (1 ≤ vf) && decide (vf ≤ s.prov.numVFs.toNat)

/-- The function exists (R56). -/
def State.fnExists (s : State) (fn : Nat) : Bool := decide (fn ≤ 1) || s.vfExists (vfOf fn)

/-- Posted credits are withheld: an aperture write waits at the host port (R201). What else the host posts meanwhile is not
accepted; it is a later command (log entry 69). -/
def State.postedHeld (s : State) : Bool := s.win.held.isSome

/-- 256 non-posted host requests are held, and no non-posted credit is left (R202). -/
def State.nonPostedFull (s : State) : Bool := decide (s.win.reads.length ≥ 256)

/-- A function decodes its memory BARs: Memory Space Enable, for a VF that of PF0's SR-IOV capability. -/
def State.memSpace (s : State) (fn : Nat) : Bool := if isVf fn then s.prov.vfMse else (s.fn fn).cfg.mse

/-- The function is a VF whose tenant exists and is READY, or is PF0 (R62, R67). -/
def State.fnReady (s : State) (fn : Nat) : Bool :=
  fn == 0 || (isVf fn && ((s.tenant (vfOf fn)).map (·.state) == some .ready))

/-- Tenant group of a function: 0 for PF0 and where there is no tenant (R5, R65). -/
def State.groupOf (s : State) (fn : Nat) : Nat :=
  if isVf fn then ((s.tenant (vfOf fn)).map (·.group)).getD 0 else 0

/-! ## What leaves the block, and free values -/

/-- Hand one item to its port. -/
def State.emit (s : State) (e : Emission) : State := { s with out := s.out ++ [e] }

/-- IDE stream of a function's TLPs (R430): the Secure selective stream bound to its group, else the Secure Link IDE
stream, else none. PF1 uses the Link IDE stream rule. -/
def State.ideOf (s : State) (fn : Nat) : Ide :=
  let g := s.groupOf fn
  let own := if fn = 1 then none else s.prov.ide.find? fun p => p.2.valid && p.2.secure && !p.2.void && p.2.group.toNat == g
  match own with
  | some p => .stream p.1
  | none => if s.prov.linkIdeSecure then .link else .none

/-- The VF is in a TDISP state (R431). -/
def State.tdispIs (s : State) (fn : Nat) (t : Tdisp) : Bool :=
  isVf fn && ((s.tenant (vfOf fn)).map (·.tdisp)) == some t

/-- Hand over a TLP of a function; the T bit is 1 only for a VF in RUN (R430). -/
def State.emitTlp (s : State) (fn : Nat) (x : Tlp) : State := s.emit (.tlp fn (s.ideOf fn) (s.tdispIs fn .run) x)

/-- Answer a host request to a function. -/
def State.reply (s : State) (fn : Nat) (st : CplStatus) (data : Bytes) : State := s.emitTlp fn (.cpl st data)

/-- Hand several items over, in order. -/
def State.emits (s : State) (es : List Emission) : State := { s with out := s.out ++ es }

/-- The next free value (log entry 3), and the state that has used it. -/
def State.takeFree (s : State) : W64 × State := (Config.freeValue s.freeIdx, { s with freeIdx := s.freeIdx + 1 })

/-- A message cut into packets of at most 64 B of payload (R464); the first argument bounds their number. -/
def packetsOf : Nat → Bytes → List Bytes
  | 0, _ => []
  | n + 1, m => if m.length ≤ 64 then [m] else m.take 64 :: packetsOf n (m.drop 64)

/-- What leaves on a binding for an MCTP message: its packets, in order, with SOM, EOM and the packet sequence (R464). -/
def mctpOut (b : Binding) (m : Bytes) : List Emission :=
  let l := packetsOf (m.length / 64 + 1) m
  l.mapIdx fun i p => .mctp b (i == 0) (i + 1 == l.length) (BitVec.ofNat 2 i) p

/-- The block has power: nothing happens to a block without VAON (R414). -/
def State.powered (s : State) : Bool := s.boot.mode != .noPower

/-- Apply one operation after another. -/
def State.forEach {α : Type} (s : State) (l : List α) (f : α → State → State) : State :=
  l.foldl (fun s x => f x s) s

/-- Apply an operation where a condition holds. -/
def State.when (s : State) (c : Bool) (f : State → State) : State := if c then f s else s

end Sys2Proof.Machine
end

