-- ==== Sys2Proof/Machine/Flags.lean ====
section
/-! DEFINITION. Status codes and every condition, mode and status word that the spec derives from the rest of the
state. -/
namespace Sys2Proof.Machine

/-! ## Status codes of Jalid commands and events (R116) -/

def stDone : Nat := 0x0000
def stAccepted : Nat := 0x0001
def stAborted : Nat := 0x0002
def stAbortTooLate : Nat := 0x0003
def stBadArgument : Nat := 0x0010
def stNotPermitted : Nat := 0x0011
def stNoResource : Nat := 0x0012
def stBusy : Nat := 0x0013
def stWrongState : Nat := 0x0014
def stUnsupportedVersion : Nat := 0x0015
def stAllowanceExhausted : Nat := 0x0016
def stFabricNak : Nat := 0x0020
def stFabricTimeout : Nat := 0x0021
def stVerifyFailed : Nat := 0x0030
def stRollbackRefused : Nat := 0x0031
def stFlashError : Nat := 0x0032
def stInternalError : Nat := 0x0040

/-! ## Degradation and modes (R41, R291, R416, R417) -/

/-- A Sleeve's DEG_CAUSE bit (R291): a width below 8 for want of lanes, a rate below the best both offer, or an enabled
Sleeve in DOWN, DETECT, TRAIN, ALIGN or PARAM. -/
def Slv.degraded (v : Slv) : Bool :=
  match v.state with
  | .down | .detect | .train | .align | .param => v.enable
  | .disabled | .fray => false
  | .up | .retrain | .quiet =>
    decide (v.rxAvail < 8) || decide (v.txAvail < 8) || decide (v.rate.toNat < v.bestRate.toNat)

/-- The margin plan has derated a Sleeve's rate or the host port (R481). -/
def Lin.derated (l : Lin) : Bool := l.host128 || l.slaRate != 3 || l.slbRate != 3

/-- GLB_MODE.DEG_CAUSE: host link, Sleeve A, Sleeve B, margin plan. -/
def State.degCause (s : State) : Nat :=
  maskOf [s.boot.degHost, s.slvA.degraded, s.slvB.degraded, s.lin.derated]

/-- The host sees operation: PROVISION, RUN and the conditions beside them (R416). -/
def State.operating (s : State) : Bool := s.boot.mode == .oper

/-- The condition with a mode code holds (R31, R417). DEDUCED: Jalid counts as ready from configuration-ready on, and PROVISION
and RUN keep holding during a Jalid reload, which leaves the data path running (log entry 21). -/
def State.condition (s : State) (code : Nat) : Bool :=
  match code with
  | 0x0 => s.boot.mode == .off
  | 0x1 => s.boot.mode == .standby
  | 0x2 => s.boot.mode == .boot
  | 0x3 => s.operating && !s.prov.vfEnable
  | 0x4 => s.operating && s.prov.vfEnable
  | 0x5 => s.operating && (s.dom .dp).state == .idle
  | 0x6 => s.operating && (s.dom .dp).state == .sleep
  | 0x7 => s.operating && (s.dom .dp).state == .deepSleep
  | 0x8 => (s.operating || s.boot.mode == .boot) && s.degCause != 0
  | 0x9 => s.operating && s.lin.session.isOpen
  | 0xA => s.boot.mode == .safe
  | 0xB => s.boot.mode == .factory
  | _ => false

/-- GLB_MODE.MODE: the first condition that holds in the order of R33; OFF and STANDBY before any of them. -/
def State.modeCode (s : State) : Nat :=
  ([0x0, 0x1, 0xA, 0xB, 0x2, 0x9, 0x8, 0x7, 0x6, 0x5, 0x4, 0x3].find? s.condition).getD 0

/-- GLB_MODE as the host port reads it (R32: bits 16 and 17 read 0). -/
def State.glbMode (s : State) : Nat :=
  let cond := maskOf ((List.range 12).map fun c => decide (2 ≤ c) && s.condition c)
  cond <<< 16 ||| s.degCause <<< 8 ||| s.modeCode

/-- Slot code of GLB_BOOT. -/
def slotCode : Slot → Nat
  | .a => 0
  | .b => 1
  | .recovery => 2

/-- GLB_BOOT. -/
def State.glbBoot (s : State) : Nat :=
  s.boot.reject.toNat <<< 16 ||| b2n s.boot.bootSel <<< 12 ||| b2n s.boot.fallback <<< 11 |||
    b2n s.boot.pendingBoot <<< 10 ||| s.boot.attempts % 4 <<< 8 ||| slotCode s.boot.next <<< 4 |||
    slotCode s.boot.running

/-- What Lining knows of a slot. -/
def Boot.slot (b : Boot) : Slot → SlotInfo
  | .a => b.slotA
  | .b => b.slotB
  | .recovery => b.slotR

/-- Replace what Lining knows of a slot. -/
def Boot.setSlot (b : Boot) (x : Slot) (i : SlotInfo) : Boot :=
  match x with
  | .a => { b with slotA := i }
  | .b => { b with slotB := i }
  | .recovery => { b with slotR := i }

/-- Build number of the running image. -/
def State.runningBuild (s : State) : W64 := (s.boot.slot s.boot.running).build

/-! ## Pocket status word (R86) -/

/-- PKT_STATUS.STATE. -/
def pktStateCode : PktState → Nat
  | .idle => 0
  | .working => 1
  | .responded => 2
  | .offline => 3
  | .reset => 4

/-- PKT_STATUS. -/
def Pocket.status (p : Pocket) : Nat :=
  p.token.toNat <<< 16 ||| p.longs.length % 256 <<< 8 ||| b2n p.headErr <<< 6 ||| b2n p.ovf <<< 5 |||
    b2n p.evqFault <<< 4 ||| b2n p.drop <<< 3 ||| pktStateCode p.state

/-! ## Power domains -/

/-- Domain state code of R151. -/
def pwrCode : PwrState → Nat
  | .run => 0
  | .idle => 1
  | .sleep => 2
  | .deepSleep => 3
  | .off => 4

/-- The domain is at or above a state. -/
def PwrState.atLeast (x y : PwrState) : Bool := decide (pwrCode x ≤ pwrCode y)

/-- SLA_LINK.STATE code. -/
def slvStateCode : SlvState → Nat
  | .disabled => 0
  | .down => 1
  | .detect => 2
  | .train => 3
  | .align => 4
  | .param => 5
  | .up => 6
  | .retrain => 7
  | .quiet => 8
  | .fray => 9

end Sys2Proof.Machine
end

