-- ==== Sys2Proof/Machine/Observe.lean ====
section
/-! DEFINITION. What every block does beside its own effect: charge the energy ledger (R372), let Buttonhole count and
trace (R489, R495), queue a record for Lining's event log (R460 to R462), and raise an error line (R438). -/
namespace Sys2Proof.Machine

/-! ## Energy charges -/

/-- Coefficient index in the set in force (R372, R373), in fJ per unit. -/
def State.coef (s : State) (i : Nat) : Nat :=
  (if s.el.coefSet = 0 then Config.coefCalibrated i else Config.coefRefit s.el.coefSet i).toNat

/-- Charge n units of a coefficient to a function, at the instant of the activity (R372); nothing is charged while LIN
is below Run (R374). -/
def State.charge (s : State) (fn idx n : Nat) : State :=
  if (s.dom .lin).state = .run then
    let e := s.coef idx * n
    let s := s.modFn fn fun f => { f with consumed := f.consumed + e, total := f.total + e }
    { s with el := { s.el with epochCharge := tput s.el.epochCharge fn (tgetD s.el.epochCharge fn 0 + e) } }
  else s

/-- Charge a queue set beside its function: R377 compares the set's own charge with SUB_ALLOWANCE. -/
def State.chargeQset (s : State) (fn q idx n : Nat) : State :=
  if (s.dom .lin).state = .run then
    s.modQset fn q fun x => { x with charged := x.charged + s.coef idx * n }
  else s

/-- Index of HOST_BYTE at the host rate in force (R372). -/
def State.hostByteIdx (s : State) : Nat := s.link.rate - 1

/-- Index of FLIT for a Sleeve's rate and a width (R372). -/
def flitIdx (rate : BitVec 2) (lanes : Nat) : Nat :=
  0x08 + 4 * (3 - rate.toNat) + (8 - lanes) / 2

/-! ## Buttonhole -/

/-- A filter kind that an event allows (R489). -/
def bhAllows (code kind : Nat) : Bool :=
  let cls := code / 256
  let item := code % 256
  if kind = 0 then true
  else if cls = 0x01 || cls = 0x02 || cls = 0x07 || cls = 0x08 then decide (kind ≤ 2)
  else if cls = 0x05 then decide (kind ≤ 2) && (item == 0x10 || item == 0x11)
  else if cls = 0x06 then kind == 2 && item % 4 != 3
  else if cls = 0x09 then decide (kind ≤ 2) && item == 0x00
  else false

/-- The event codes that are not reserved (R489). -/
def bhExists (code : Nat) : Bool :=
  let item := code % 256
  match code / 256 with
  | 0x00 => code == 0
  | 0x01 => decide (item ≤ 0x06)
  | 0x02 => decide (item ≤ 0x05) || (decide (0x10 ≤ item) && decide (item ≤ 0x1F))
  | 0x03 | 0x04 => decide (item ≤ 0x0A) || item == 0x10 || item == 0x11
  | 0x05 => decide (item ≤ 0x0A) || item == 0x10 || item == 0x11
  | 0x06 => decide (item ≤ 0x0B)
  | 0x07 => decide (item ≤ 0x03)
  | 0x08 => decide (item ≤ 0x04)
  | 0x09 => decide (item ≤ 0x0C)
  | 0x0A => item == 0
  | _ => false

/-- The function is under R487: a VF in CONFIG_LOCKED, RUN or ERROR. -/
def State.hidden (s : State) (fn : Nat) : Bool :=
  isVf fn && ((s.tenant (vfOf fn)).map fun t => t.tdisp != .unlocked).getD false

/-- An occurrence of a function (or none) and group (or none) passes a filter. -/
def State.bhMatch (s : State) (kind filter : Nat) (fn grp : Option Nat) : Bool :=
  match kind with
  | 1 => (fn == some filter) && !s.hidden filter
  | 2 => grp == some filter
  | _ => true

/-- A 16 B trace message (R495). -/
def traceMsg (b0 b1 : Nat) (time : W64) (tail : Nat) : Bytes :=
  beBytes 1 b0 ++ beBytes 1 b1 ++ beBytes 6 (time.toNat % 2 ^ 48) ++ beBytes 8 tail

/-- The SYNC message (R495). -/
def traceSync (time : W64) : Bytes := (0x01 : Byte) :: List.replicate 7 (0xA5 : Byte) ++ beBytes 8 time.toNat

/-- Put a message into the trace buffer of 4,096; a message that finds it full is dropped and counted (R496). -/
def State.tracePush (s : State) (m : Bytes) : State :=
  let b := s.bh
  if b.buffer.length ≥ 4096 then
    { s with bh := { b with lost := true, lostCnt := satInc b.lostCnt, lostSince := satInc b.lostSince,
                            intDue := b.intDue || (b.intEn && !b.lost) },
             fc := { s.fc with asserted := s.fc.asserted ++ [(961, ⟨0, 0xFFFFFFFF, 0, 0⟩)] } }
  else { s with bh := { b with buffer := b.buffer ++ [m] } }

/-- Trace one occurrence that matches BH_FILTER, one in every 2^SAMPLE (R496). -/
def State.traceOcc (s : State) (code amount : Nat) (fn grp : Option Nat) : State :=
  let f := s.bh.filter.toNat
  let kind := bits f 31 30
  let k := if bhAllows code kind then kind else 0
  if s.bh.traceEn && code / 256 != 0 && bitAt (f % 2048) (code / 256) && s.bhMatch k (bits f 26 16) fn grp then
    let run := s.bh.sampleRun + 1
    if run ≥ 2 ^ bits f 15 12 then
      let shown := match fn with
        | some n => if s.hidden n then 0x7FF else n
        | none => 0x7FF
      let tail := code <<< 48 ||| shown <<< 37 ||| amount % 2 ^ 32
      ({ s with bh := { s.bh with sampleRun := 0 } }).tracePush (traceMsg 0x03 0x00 s.clk.timebase tail)
    else { s with bh := { s.bh with sampleRun := run } }
  else s

/-- One occurrence of an event: it adds its amount to every counter that selects it (R489, R491) and may be traced. -/
def State.occ (s : State) (code amount : Nat) (fn grp : Option Nat) : State :=
  let hit (x : BhSel) : Bool :=
    x.event.toNat == code && code != 0 && s.bhMatch x.kind.toNat x.filter.toNat fn grp
  let cnt := s.bh.sel.foldl (fun c p =>
    if hit p.2 then tput c p.1 (tgetD c p.1 0 + BitVec.ofNat 48 amount) else c) s.bh.count
  ({ s with bh := { s.bh with count := cnt } }).traceOcc code amount fn grp

/-- An occurrence of a function, with its group. -/
def State.occFn (s : State) (code amount fn : Nat) : State := s.occ code amount (some fn) (some (s.groupOf fn))

/-! ## Lining's event log queue -/

/-- Queue an event log record; a record that finds the queue of 1,024 full is lost and counted (R462). SEQ is given
when the record is written. -/
def State.log (s : State) (type code : Nat) (data : Bytes) (cont : Bool := false) : State :=
  if s.lin.logQueue.length ≥ 1024 then { s with lin := { s.lin with logLost := satInc s.lin.logLost } }
  else
    let r : LogRec := { seq := 0, type := BitVec.ofNat 8 type, flags := if cont then 1 else 0,
                        code := BitVec.ofNat 16 code, time := s.clk.timebase, data := fit 16 data }
    { s with lin := { s.lin with logQueue := s.lin.logQueue ++ [r] } }

/-! ## Error lines -/

/-- No detail: CODE 0, INSTANCE none (R440). -/
def faultPlain : FaultRec := { code := 0, inst := 0xFFFFFFFF, addr := 0, syndrome := 0 }

/-- Detail naming an instance. -/
def faultAt (n : Nat) : FaultRec := { faultPlain with inst := BitVec.ofNat 32 n }

/-- A block's error line asserts; the collector handles it before the command ends (R438, R439). -/
def State.raise (s : State) (src : Nat) (r : FaultRec) : State :=
  { s with fc := { s.fc with asserted := s.fc.asserted ++ [(src, r)] } }

end Sys2Proof.Machine
end

