-- ==== Sys2Proof/Machine/HostOut.lean ====
section
/-! DEFINITION. What the host port sends: which configuration field rules a function (R37), request tags (R36, R195),
translation lookups and Translation Requests (R234 to R236), host-bound items and MSI-X messages (R248 to R254). -/
namespace Sys2Proof.Machine

/-! ## Programmed values (R37) -/

/-- The configuration fields that rule a function for the fields SR-IOV reserves in a VF: PF0's for a VF. -/
def State.sharedCfg (s : State) (fn : Nat) : FnCfg := if isVf fn then (s.fn 0).cfg else (s.fn fn).cfg

/-- Max Payload Size in force, at most 4,096 B. -/
def State.mps (s : State) (fn : Nat) : Nat := min 4096 (128 <<< (s.sharedCfg fn).mps.toNat)

/-- Max Read Request Size in force, at most 4,096 B; a VF's own. -/
def State.mrrs (s : State) (fn : Nat) : Nat := min 4096 (128 <<< (s.fn fn).cfg.mrrs.toNat)

/-- A VF in CONFIG_LOCKED or ERROR is held as under R192 (R432). -/
def State.tdispHeld (s : State) (fn : Nat) : Bool := s.tdispIs fn .locked || s.tdispIs fn .error

/-- The function may issue no request: Bus Master Enable 0, D3hot, FLR, or held by its TDISP state (R48, R192, R194,
R432). -/
def State.busBlocked (s : State) (fn : Nat) : Bool :=
  !(s.fn fn).cfg.bme || (s.fn fn).cfg.d3hot || (s.fn fn).flr || s.tdispHeld fn

/-- Length of the first piece of a transfer: not above the limit and not across a 4 KiB boundary. -/
def pieceLen (addr len limit : Nat) : Nat := min (min len limit) (4096 - addr % 4096)

/-- The pieces (offset, length) of a transfer, each at most limit and within one 4 KiB page. The first argument bounds
their number. -/
def piecesOf : Nat → Nat → Nat → Nat → Nat → List (Nat × Nat)
  | 0, _, _, _, _ => []
  | n + 1, addr, off, len, limit =>
    if len = 0 then [] else
      let k := pieceLen addr len limit
      if k = 0 then [] else (off, k) :: piecesOf n (addr + k) (off + k) (len - k) limit

/-- The pieces of a transfer of at most 1 GiB in pieces of at least 128 B, with room for the cut ends. -/
def pieces (addr len limit : Nat) : List (Nat × Nat) := piecesOf (len / 128 + len / 4096 + 3) addr 0 len limit

/-! ## Request tags -/

/-- Key of a request tag: transaction IDs are per function (R193, R451). -/
def tagKey (fn tag : Nat) : Nat := fn * 16384 + tag

/-- First tag value and number of tags a function may use (R36). -/
def State.tagRange (s : State) (fn : Nat) : Nat × Nat :=
  let c := (s.fn fn).cfg
  if s.link.flit then (if c.tag14 then (0, 8192) else (0, 256))
  else if (s.fn (if isVf fn then 0 else fn)).cfg.tag10 then (256, 768) else (0, 256)

/-- Tags a function holds, outstanding, timed out or quarantined (R36, R193). -/
def State.tagsOf (s : State) (fn : Nat) : List Nat :=
  (s.tags.filter fun p => p.2.fn == fn).map fun p => p.1 - fn * 16384

/-- The function holds work (R388): a QP with a descriptor posted or fetched without its record, a unit in staging, or a
packet unacknowledged. -/
def State.holdsWork (s : State) (fn : Nat) : Bool :=
  s.qps.any (fun p => p.2.fn == fn && (p.2.prod != p.2.cons || !p.2.descs.isEmpty)) ||
  s.units.any (fun p => p.2.fn == fn) ||
  s.tp.tx.any (fun p => p.2.unacked.any fun t =>
      match t.owner with
      | .unit q _ _ | .get q _ _ => ((s.qp q).map (·.fn)) == some fn
      | _ => false)

/-! ## Translation (R231 to R236) -/

/-- A use's translation, as far as it is known now. -/
inductive XUse where
  | untranslated
  | hit (pa : Nat) (noSnoop : Bool)
  | fault (cause : Nat)
  | miss
  deriving DecidableEq, Repr

/-- ATS Enable of a function; PF1 has no ATS (R42). -/
def State.atsOn (s : State) (fn : Nat) : Bool := fn != 1 && (s.fn fn).cfg.atsEn

/-- Cache entries a function may hold (R234, R235). -/
def State.xltCapacity (s : State) (fn : Nat) : Nat :=
  if fn = 0 then 65536 - (s.prov.tenants.map (·.2.ats)).foldl (· + ·) 0
  else ((s.tenant (vfOf fn)).map (·.ats)).getD 0

/-- The entry covers the use. -/
def XEntry.covers (e : XEntry) (fn addr len : Nat) : Bool :=
  e.fn == fn && decide (e.base ≤ addr) && decide (addr + len ≤ e.base + e.len)

/-- Look a use up: untranslated off the ATS path, the cached translation and its permission (R244) on it. -/
def State.xlook (s : State) (fn addr len : Nat) (ats write : Bool) : XUse :=
  if !(ats && s.atsOn fn) then .untranslated
  else
    match s.xlt.cache.find? (·.covers fn addr len) with
    | none => .miss
    | some e =>
      if write && !e.w || !write && !e.r then .fault 2 else .hit (e.pa + (addr - e.base)) e.noSnoop

/-- Where the next event entry of a function goes (R95). -/
def State.eventAddr (s : State) (fn : Nat) : Nat :=
  let p := (s.fn fn).pocket
  p.base.toNat + 32 * p.tail.toNat

/-- A host-bound item on the ATS path without its translation: a Translation Request of its function is asked for, or waits
for a tag. -/
def State.itemMisses (s : State) (i : HItem) : Bool :=
  match i.kind with
  | .write addr data ats _ _ _ _ => s.xlook i.fn addr data.length ats true == .miss
  | .event _ _ => s.xlook i.fn (s.eventAddr i.fn) 32 true true == .miss
  | .msg _ _ _ => false

/-- N of R195: functions with work, a tag or a request waiting for one. -/
def State.tagFunctions (s : State) : Nat :=
  let held := (s.hostq.filter s.itemMisses).map (·.fn)
  let fns := s.qps.map (·.2.fn) ++ s.units.map (·.2.fn) ++ s.tags.map (·.2.fn) ++ s.waits.map (·.fn) ++ held
  (fns.eraseDups.filter fun f =>
    s.holdsWork f || s.tags.any (fun p => p.2.fn == f) || s.waits.any (fun w => w.fn == f) || held.contains f).length

/-- The function may take one more tag (R36, R195). -/
def State.tagAllowed (s : State) (fn : Nat) : Bool :=
  let held := (s.tagsOf fn).length
  let total := s.tags.length
  decide (held < (s.tagRange fn).2) && decide (total < 8192) &&
    (decide (held < 7) || decide (total + 1 ≤ 8192 - 7 * s.tagFunctions))

/-- The tag value taken next: the smallest free one of the range (log entry 12). -/
def State.nextTag (s : State) (fn : Nat) : Nat :=
  let base := (s.tagRange fn).1
  base + smallestFree ((s.tagsOf fn).map (· - base))

/-- A use takes its translation: the entry becomes the most recently used (R234), or goes where its function caches nothing
(R235). A lookup that hit at once is counted (R247). -/
def State.xtouch (s : State) (fn addr len : Nat) (missed : Bool) : State :=
  match s.xlt.cache.find? (·.covers fn addr len) with
  | none => s
  | some e =>
    let rest := s.xlt.cache.erase e
    let s := { s with xlt := { s.xlt with cache := if s.xltCapacity fn = 0 then rest else rest ++ [e] } }
    if missed then s else ({ s with xlt := { s.xlt with hits := s.xlt.hits + 1 } }).occFn 0x0700 1 fn

/-- Put a translation into the cache: a range above 1 GiB is cut to the aligned GiB around the address asked for; the
function's least recently used entry goes when its partition is full (R234). -/
def State.xinsert (s : State) (fn asked : Nat) (x : Xlation) : State :=
  let gib := 2 ^ 30
  let e : XEntry :=
    if x.len > gib then
      { fn := fn, base := asked / gib * gib, len := gib, pa := x.pa + (asked / gib * gib - x.base), r := x.r, w := x.w,
        noSnoop := x.noSnoop }
    else { fn := fn, base := x.base, len := x.len, pa := x.pa, r := x.r, w := x.w, noSnoop := x.noSnoop }
  let held := s.xlt.cache.filter (·.fn == fn)
  let cache := if held.length ≥ s.xltCapacity fn then
      match held with
      | [] => s.xlt.cache
      | old :: _ => s.xlt.cache.erase old
    else s.xlt.cache
  { s with xlt := { s.xlt with cache := cache ++ [e] } }

/-- Two ranges share a byte. -/
def overlap (a la b lb : Nat) : Bool := decide (a < b + lb) && decide (b < a + la)

/-- Drop the entries of a function beyond its partition, oldest first (R235), but for those of a unit whose emission waits
for another translation. -/
def State.xtrim (s : State) (fn : Nat) : State :=
  let kept (e : XEntry) : Bool := s.units.any fun u => u.2.fn == fn && u.2.xasked && overlap u.2.addr u.2.len e.base e.len
  let held := s.xlt.cache.filter (·.fn == fn)
  let gone := (held.filter fun e => !kept e).take (held.length - s.xltCapacity fn)
  { s with xlt := { s.xlt with cache := s.xlt.cache.filter (fun e => !gone.contains e) } }

/-- Remove the entries of a function that overlap a range, and make its overlapping Translation Requests stale (R239). -/
def State.xinvalidate (s : State) (fn base len : Nat) (global : Bool) : State :=
  let hitE (e : XEntry) : Bool := e.fn == fn && (global || overlap e.base e.len base len)
  let hitR (r : XReq) : Bool := r.fn == fn && (global || overlap r.base r.len base len)
  { s with xlt := { s.xlt with cache := s.xlt.cache.filter (fun e => !hitE e),
                               reqs := s.xlt.reqs.map (fun r => if hitR r then { r with stale := true } else r) } }

/-- The unit goes toward the host. -/
def XUnit.hostBound (u : XUnit) : Bool :=
  match u.kind with
  | .getData | .recvData | .inWrite => true
  | _ => false

/-- The uses that a function's engines are about to make on the ATS path: address, length (R236). -/
def State.usesAhead (s : State) (fn : Nat) (write : Bool) : List (Nat × Nat) :=
  let waits := s.waits.filter fun w => w.fn == fn && w.ats && (w.role == RdRole.translation) == write
  let units := s.units.filter fun u => write && u.2.fn == fn && u.2.ats && u.2.hostBound
  waits.map (fun w => (w.addr, w.len)) ++ units.map (fun u => (u.2.addr, u.2.len))

/-- End of the range of the next Translation Request: the uses next to each other, up to 64 KiB from the page of the first,
and below a page that another request has asked for (R236). -/
def State.xreach (s : State) (fn addr len : Nat) (write : Bool) : Nat :=
  let base := addr / 4096 * 4096
  let up (a : Nat) : Nat := (a + 4095) / 4096 * 4096
  let e := (s.usesAhead fn write).foldl (fun e w =>
    if decide (w.1 ≤ e) && decide (base ≤ w.1) then max e (min (base + 65536) (up (w.1 + w.2))) else e) (up (addr + len))
  s.xlt.reqs.foldl (fun e r => if r.fn == fn && decide (base < r.base) then min e r.base else e) e

/-- Send the Translation Request that a use needs, or join one outstanding for its page; nothing is sent at the limits of
R236 or without a tag. The answer says whether one was sent or joined. -/
def State.xask (s : State) (fn addr len : Nat) (write : Bool) : Bool × State :=
  let base := addr / 4096 * 4096
  let joined := s.xlt.reqs.any fun r => r.fn == fn && overlap r.base r.len base 4096
  let mine := (s.xlt.reqs.filter (·.fn == fn)).length
  if joined then (true, s)
  else if mine ≥ 64 || s.xlt.reqs.length ≥ 1024 || !s.tagAllowed fn then (false, s)
  else
    let t := s.nextTag fn
    let n := s.xreach fn addr len write - base
    let tg : Tag := { fn := fn, state := .outstanding, role := .translation, obj := 0, addr := base, len := n,
                      xunit := 0, off := 0, translated := false }
    let rq : XReq := { tag := t, fn := fn, base := base, len := n, write := write, stale := false }
    let s := { s with tags := tput s.tags (tagKey fn t) tg, xlt := { s.xlt with reqs := s.xlt.reqs ++ [rq] } }
    (true, ((s.emitTlp fn (.xlateReq t base n write)).occFn 0x0101 1 fn).charge fn 0x18 1)

/-- A use whose translation misses asks for it; the lookup counts once, when it sends or joins a request (R247). missed tells
that it has before. The answer says whether a request stands for it. -/
def State.xmiss (s : State) (fn addr len : Nat) (write missed : Bool) : Bool × State :=
  match s.xask fn addr len write with
  | (true, s) =>
    (true, if missed then s else ({ s with xlt := { s.xlt with misses := s.xlt.misses + 1 } }).occFn 0x0701 1 fn)
  | (false, s) => (false, s)

/-! ## Host-bound items -/

/-- Queue a host-bound item in the order in which it arises. -/
def State.pushItem (s : State) (fn : Nat) (k : HKind) : State :=
  { s with hostq := s.hostq ++ [{ stamp := s.stamp, fn := fn, kind := k, asked := false }], stamp := s.stamp + 1 }

/-- Steering tag of a write under R253: none for no TPH. vec is the announcing vector, dev the tag the placement engine
chose. -/
def State.tphTag (s : State) (fn vec : Nat) (dev : Option W16) (msi : Bool) : Option W16 :=
  let f := s.fn fn
  let fits (st : W16) : Option W16 := if f.cfg.tphEn = 1 && decide (st.toNat ≥ 256) then none else some st
  if f.cfg.tphEn = 1 || f.cfg.tphEn = 3 then
    match f.cfg.tphMode.toNat with
    | 0 => if msi then none else some 0
    | 1 => fits (BitVec.ofNat 16 (bits (tgetD f.msix vec MsixEntry.masked).ctl.toNat 31 16))
    | 2 => dev.bind fits
    | _ => none
  else none

/-- Vectors a function has (R249). -/
def State.vectorCount (s : State) (fn : Nat) : Nat :=
  if fn = 0 then 2048 else if fn = 1 then 16
  else ((s.tenant (vfOf fn)).map fun t => if t.state = .absent then 0 else t.vectors).getD 0

/-- Count and charge a TLP sent with n payload bytes (R372, R489). -/
def State.tlpSent (s : State) (fn n : Nat) : State :=
  let s := s.occFn 0x0101 1 fn
  if n = 0 then s else (s.occFn 0x0103 n fn).charge fn s.hostByteIdx n

/-- Count and charge a TLP received with n payload bytes. -/
def State.tlpRcvd (s : State) (fn n : Nat) : State :=
  let s := s.occFn 0x0100 1 fn
  if n = 0 then s else (s.occFn 0x0102 n fn).charge fn s.hostByteIdx n

/-- A memory write of the host to a register of a function is counted and charged (R372, R489). -/
def State.written (s : State) (fn n : Nat) : State := if s.link.state = .down || s.postedHeld then s else s.tlpRcvd fn n

/-- Answer a host request with a completion, counted and charged as a TLP sent (R372, R489). -/
def State.complete (s : State) (fn : Nat) (st : CplStatus) (data : Bytes) : State :=
  (s.reply fn st data).tlpSent fn data.length

/-- Send a message toward the host. -/
def State.sendMsg (s : State) (fn : Nat) (m : HostMsg) : State := (s.emit (.hostMsg fn m)).tlpSent fn 0

/-! ## MSI-X -/

/-- A condition of R250 withholds the messages of a vector; while the function recovers, its messages come last (R192). -/
def State.msixBlocked (s : State) (fn vec : Nat) : Bool :=
  let f := s.fn fn
  bitAt (tgetD f.msix vec MsixEntry.masked).ctl.toNat 0 || f.cfg.msixMask || !f.cfg.msixEn || !f.cfg.bme || f.cfg.d3hot ||
    s.tdispHeld fn || (s.fn fn).recovering.isSome

/-- Send the message of a vector: the entry's value as read now (R251, R252). -/
def State.msixSend (s : State) (fn vec : Nat) (dev : Option W16) : State :=
  let e := tgetD (s.fn fn).msix vec MsixEntry.masked
  let st := s.tphTag fn vec dev true
  ((s.pushItem fn (.msg e.addr e.data st)).charge fn 0x17 1).occFn 0x0105 1 fn

/-- A trigger of a vector (R250): a message, or its pending bit. A vector the function lacks triggers nothing; in the safe
state neither happens (R450). -/
def State.msixTrigger (s : State) (fn vec : Nat) (dev : Option W16) : State :=
  if s.boot.mode = .safe || decide (vec ≥ s.vectorCount fn) then s
  else if s.msixBlocked fn vec then
    let keep (t : Table W16) : Table W16 := (dev.map fun st => tput t vec st).getD (tdel t vec)
    (s.modFn fn fun f => { f with pba := tput f.pba vec true, pendSt := keep f.pendSt }).occFn 0x0106 1 fn
  else s.msixSend fn vec dev

/-- Send the messages of every pending vector whose conditions have all cleared (R250), each with the steering tag of the
latest trigger it stands for (R254). -/
def State.msixRelease (s : State) (fn : Nat) : State :=
  (tkeys (s.fn fn).pba).foldl (fun s vec =>
    if tgetD (s.fn fn).pba vec false && !s.msixBlocked fn vec && s.boot.mode != .safe then
      (s.modFn fn fun f => { f with pba := tdel f.pba vec, pendSt := tdel f.pendSt vec }).msixSend fn vec
        (tget (s.fn fn).pendSt vec)
    else s) s

end Sys2Proof.Machine
end

