-- ==== Sys2Proof/Machine/Events.lean ====
section
/-! DEFINITION. The event queue of a function: the 32 B entry, the conditions that hold an event, the holdback and its
loss (R91 to R101). -/
namespace Sys2Proof.Machine

/-- Entries in a function's ring: 2^LOG2, LOG2 outside 6 to 12 acting as 6 (PKT_EVQ_SIZE). -/
def Pocket.ringSize (p : Pocket) : Nat :=
  2 ^ (if 6 ≤ p.log2.toNat && p.log2.toNat ≤ 12 then p.log2.toNat else 6)

/-- An event entry as its 32 B (R91). -/
def eventBytes (e : Event) (phase : Bool) : Bytes :=
  [e.type, if phase then 1 else 0] ++ leBytes 2 e.token.toNat ++ leBytes 2 e.status.toNat ++ leBytes 2 e.object.toNat ++
    leBytes 8 e.detail.toNat ++ leBytes 3 e.seq.toNat ++ [e.kind] ++ leBytes 4 e.count.toNat ++ leBytes 8 e.time.toNat

/-- An event with the fields most events leave 0. -/
def State.mkEvent (s : State) (type : Nat) (object kind : Nat) (detail : Nat) : Event :=
  { type := BitVec.ofNat 8 type, token := 0, status := 0, object := BitVec.ofNat 16 object,
    detail := BitVec.ofNat 64 detail, seq := 0, kind := BitVec.ofNat 8 kind, count := 1, time := s.clk.timebase }

/-- A condition of R98 other than a full queue holds the function's events. -/
def State.eventsHeld (s : State) (fn : Nat) : Bool :=
  let p := (s.fn fn).pocket
  !p.enable || p.evqFault || s.busBlocked fn

/-- Event entries of a function decided and not yet emitted. -/
def State.eventsQueued (s : State) (fn : Nat) : Nat :=
  (s.hostq.filter fun i => i.fn == fn && match i.kind with | .event _ _ => true | _ => false).length

/-- Entries that may still be written before the queue is full: one always stays unused (R95). -/
def State.eventRoom (s : State) (fn : Nat) : Nat :=
  let p := (s.fn fn).pocket
  let n := p.ringSize
  n - 1 - (p.tail.toNat + n - p.head.toNat % n) % n - s.eventsQueued fn

/-- Size of the other-events part of the holdback (R98). -/
def holdLimit (fn : Nat) : Nat := if fn = 0 then 256 else if fn = 1 then 16 else 32

/-- The event queue's vector: one at or above the function's count acts as 0 (PKT_EVQ_SIZE). -/
def State.evqVector (s : State) (fn : Nat) : Nat :=
  let v := (s.fn fn).pocket.vector.toNat
  if v ≥ s.vectorCount fn then 0 else v

/-- An event arises: it is written at once, held, or lost (R98 to R101). final marks the CMD_FINAL entry of a long
command, which is never lost (R99). A function in FLR and the safe state report nothing (R104, R106). -/
def State.event (s : State) (fn : Nat) (e : Event) (final : Bool := false) : State :=
  let p := (s.fn fn).pocket
  if s.boot.mode = .safe || (s.fn fn).flr then s
  else if !s.eventsHeld fn && p.held.isEmpty && p.lostNow == 0 && decide (s.eventRoom fn > 0) then
    s.pushItem fn (.event e final)
  else if !final && decide ((p.held.filter fun h => !h.final).length ≥ holdLimit fn) then
    s.modPocket fn fun p => { p with ovf := true, lost := satInc p.lost, lostNow := satInc p.lostNow,
                                     lostTime := if p.lostNow = 0 then e.time else p.lostTime }
  else
    let s := s.modPocket fn fun p => { p with held := p.held ++ [{ ev := e, final := final, stamp := s.stamp }] }
    { s with stamp := s.stamp + 1 }

/-- Insert an item before the first of a later stamp. -/
def insertItem (i : HItem) : List HItem → List HItem
  | [] => [i]
  | j :: r => if i.stamp < j.stamp then i :: j :: r else j :: insertItem i r

/-- Move held events to the host port, in order, while nothing holds them and the queue has room; then one OVERFLOW entry,
whose COUNT and TIME are those of the moment it is written (R99, R101). The first argument bounds the moves. -/
def State.releaseN : Nat → State → Nat → State
  | 0, s, _ => s
  | n + 1, s, fn =>
    let p := (s.fn fn).pocket
    if s.eventsHeld fn || s.eventRoom fn == 0 then s
    else
      match p.held with
      | h :: r =>
        let s := s.modPocket fn fun p => { p with held := r }
        let i : HItem := { stamp := h.stamp, fn := fn, kind := .event h.ev h.final, asked := false }
        State.releaseN n { s with hostq := insertItem i s.hostq } fn
      | [] =>
        let asked := s.hostq.any fun i => i.fn == fn && match i.kind with | .event e _ => e.type == 0x0F | _ => false
        if p.lostNow = 0 || asked then s else s.pushItem fn (.event (s.mkEvent 0x0F 0 0 0) false)

/-- R99: everything held that may now be written. -/
def State.releaseEvents (s : State) (fn : Nat) : State :=
  State.releaseN ((s.fn fn).pocket.held.length + 1) s fn

/-- A CMD_FINAL entry (R93). DESIGN CHOICE: R91 names no object for it, so OBJECT is 0 of kind none (log entry 68). -/
def State.cmdFinal (s : State) (fn : Nat) (token : W16) (status detail : Nat) (long : Bool) : State :=
  s.event fn { s.mkEvent 0x01 0 0 detail with token := token, status := BitVec.ofNat 16 status } long

/-- A long command of a function ends: it leaves the Pocket and its CMD_FINAL entry is written or held (R93, R99). -/
def State.finishLong (s : State) (fn : Nat) (token : W16) (status detail : Nat) : State :=
  (s.modPocket fn fun p => { p with longs := p.longs.filter (fun c => c.token != token) }).cmdFinal fn token status detail
    true

end Sys2Proof.Machine
end

