-- ==== Sys2Proof/Machine/Link.lean ====
section
/-! DEFINITION. Sending on a Sleeve: sequenced flits and the outstanding limit (R283), bypass messages (R275, R276), the
message bodies of R277, R305 and R329, and the event bits of SLA_EVT with their fault sources (R441). -/
namespace Sys2Proof.Machine

/-- Class of a Sleeve's events in R489. -/
def slvClass : Sleeve → Nat
  | .a => 0x0300
  | .b => 0x0400

/-- First fault source of a Sleeve (R441). -/
def slvSource : Sleeve → Nat
  | .a => 736
  | .b => 832

/-- Flits outstanding (R283). -/
def Slv.outstanding (v : Slv) : Nat := (v.nextSeq - v.oldest).toNat

/-- Set a bit of SLA_EVT; bits 0 to 6 are fault sources 744 to 750, or 840 to 846 (R441). -/
def State.slvEvent (s : State) (sl : Sleeve) (bit : Nat) : State :=
  let s := s.modSlv sl fun v => { v with evt := v.evt ||| BitVec.ofNat 8 (2 ^ bit) }
  if bit ≤ 6 then s.raise (slvSource sl + 8 + bit) faultPlain else s

/-- The Sleeve sends: it is UP, and no QUIET REQUEST of ours awaits its answer (R292). -/
def State.slvSends (s : State) (sl : Sleeve) : Bool := (s.slv sl).state == .up && !(s.slv sl).quietAsked

/-- n sequenced flits may be sent now: the Sleeve sends and stays within 1,536 outstanding (R283). -/
def State.slvReady (s : State) (sl : Sleeve) (n : Nat) : Bool :=
  s.slvSends sl && decide ((s.slv sl).outstanding + n ≤ 1536)

/-- n sequenced flits are held back by the outstanding limit alone (R283). -/
def State.slvLimited (s : State) (sl : Sleeve) (n : Nat) : Bool :=
  s.slvSends sl && decide ((s.slv sl).outstanding + n > 1536)

/-- A 16 B bypass slot: TYPE, then 15 body bytes (R275). -/
def slot16 (type : Nat) (body : Bytes) : Bytes := BitVec.ofNat 8 type :: fit 15 body

/-- The 4 B header of a flit (R271). -/
def flitHeader (ack : BitVec 12) (nak : Bool) (kind vc : Nat) : Nat :=
  ack.toNat <<< 20 ||| b2n nak <<< 19 ||| (kind % 16) <<< 15 ||| (vc % 8) <<< 12

/-- The 256 B of a flit under a sequence (R271, R273). -/
def flitBytes (header : Nat) (seq : BitVec 12) (body payload : Bytes) : Bytes :=
  let b := beBytes 4 header ++ fit 16 body ++ fit 224 payload ++ zeros 4
  b ++ beBytes 8 (crc64 b seq.toNat)

/-- Sequence that a header or training word acknowledges: the last one accepted, less an encryption group that has not
verified (R282, R287, R295). -/
def Slv.ackSeq (v : Slv) : BitVec 12 := v.expect - 1 - BitVec.ofNat 12 v.rxGroup.length

/-- A flit of the replay buffer as it leaves now: its own contents and sequence, the ACK and NAK of the moment (R282, R284). -/
def Slv.wire (v : Slv) (f : LinkFlit) : Bytes := flitBytes (flitHeader v.ackSeq v.nakPending f.kind f.vc) f.seq f.body f.payload

/-- An IDLE flit with a bypass slot: its CRC uses the number of the next sequenced flit (R272). -/
def Slv.idleFlit (v : Slv) (body : Bytes) : Bytes := flitBytes (flitHeader v.ackSeq v.nakPending 0 0) v.nextSeq body []

/-! ## Sequenced flits (R272, R276, R283, R289, R294) -/

/-- The MAC message of the group that the next flit follows, where one is due: it takes the slot of the first flit of the
next group (R294). -/
def Slv.macNow (v : Slv) : Option Bytes :=
  if v.groupOpen && v.nextSeq.toNat % 64 == 0 then
    let group := v.buffer.filter fun f => decide ((v.nextSeq - f.seq).toNat ≤ 64)
    some (slot16 0x08 (Config.linkTag v.session v.txKey.toNat (v.keyCounter.toNat - 64) (group.map v.wire)))
  else none

/-- The key announced for this COUNTER comes into force (R295). -/
def Slv.keyed (v : Slv) : Slv :=
  match v.txNext with
  | some (k, c) => if c = v.keyCounter then { v with txKey := k, txOn := true, txNext := none } else v
  | none => v

/-- A SHED SWITCH has been sent: the transmitter switches after its flit (R289). -/
def Slv.switched (v : Slv) (body : Bytes) : Slv :=
  if leAt 0 2 body = 0x0303 then
    let mask : Byte := (body.drop 2).headD 0
    { v with txMask := mask, txLanes := popcount mask.toNat 8, shedMask := 0, shedWide := false }
  else v

/-- A transport message other than EPOCH (R305, R399). -/
def crossing (body : Bytes) : Bool :=
  let t := (body.headD 0).toNat
  decide (0x20 ≤ t) && decide (t ≤ 0x25) && t != 0x23

/-- Send one sequenced flit of a KIND: it takes the next sequence and carries the MAC that is due, else the oldest waiting
bypass message, else EMPTY; it waits in the replay buffer for its acknowledgement (R272, R276, R283). -/
def State.sendFlit (s : State) (sl : Sleeve) (kind vc : Nat) (payload : Bytes) : State :=
  let v := s.slv sl
  let (body, rest) := match v.macNow, v.bypassQ with
    | some m, q => (m, q)
    | none, m :: q => (m, q)
    | none, [] => (zeros 16, [])
  let v := v.keyed
  let p := fit 224 payload
  let f : LinkFlit :=
    { seq := v.nextSeq, kind := kind, vc := vc, body := body, sentAt := s.clk.localCount,
      payload := if v.txOn then Config.linkCipher v.session v.txKey.toNat v.keyCounter.toNat p else p }
  let v := { v with bypassQ := rest, buffer := v.buffer ++ [f], nextSeq := v.nextSeq + 1, flitsEp := v.flitsEp + 1,
                    keyCounter := if v.encOn then v.keyCounter + 1 else v.keyCounter, groupOpen := v.txOn,
                    crossedAt := if kind ≥ 2 || crossing body then s.clk.localCount else v.crossedAt }
  let named := if body.headD 0 = 0 then [] else [Emission.bypass sl body]
  ((s.setSlv sl (v.switched body)).emits (named ++ [.flit sl (v.wire f)])).occ (slvClass sl + 0x10) 1 none none

/-- A committed unit in the Sleeve's transmit queue: packet flits are due (R256, R259). -/
def State.packetDue (s : State) (sl : Sleeve) : Bool :=
  (s.arb sl.arb).queue.any fun n => ((tget s.units n).map (·.committed)).getD false

/-- Send waiting bypass messages in CTRL flits while no packet flit is due and the outstanding limit allows (R259, R276).
The first argument bounds their number. -/
def State.bypassDrainN : Nat → State → Sleeve → State
  | 0, s, _ => s
  | n + 1, s, sl =>
    if (s.slv sl).bypassQ.isEmpty || s.packetDue sl || !s.slvReady sl 1 then s
    else State.bypassDrainN n (s.sendFlit sl 1 0 []) sl

/-- Send every waiting bypass message that may go in a CTRL flit; a MAC takes one slot of each 64. -/
def State.bypassDrain (s : State) (sl : Sleeve) : State :=
  State.bypassDrainN ((s.slv sl).bypassQ.length + (s.slv sl).bypassQ.length / 63 + 1) s sl

/-- Queue a bypass message, first in, first out: it rides the next sequenced flit (R276). -/
def State.bypass (s : State) (sl : Sleeve) (body : Bytes) : State :=
  (s.modSlv sl fun v => { v with bypassQ := v.bypassQ ++ [body] }).bypassDrain sl

/-- Send a bypass message in a CTRL flit at once, ahead of any that waits: the messages of PARAM (R277). -/
def State.bypassNow (s : State) (sl : Sleeve) (body : Bytes) : State :=
  (s.modSlv sl fun v => { v with bypassQ := body :: v.bypassQ }).sendFlit sl 1 0 []

/-- The group sent last, closed or not, holds more than the tag of the one before and has not been followed by its own tag. -/
def Slv.groupDue (v : Slv) : Bool :=
  let last := v.nextSeq - 1
  v.groupOpen && v.buffer.any fun f =>
    f.seq.toNat / 64 == last.toNat / 64 && (f.kind != 1 || (f.body.headD 0 != 0 && f.body.headD 0 != 0x08))

/-- A transmitter with nothing to send closes an open group with CTRL flits, and sends its tag (R295). The first argument
bounds them. -/
def State.closeGroupN : Nat → State → Sleeve → State
  | 0, s, _ => s
  | n + 1, s, sl =>
    if !(s.slv sl).groupDue || s.packetDue sl || !s.slvReady sl 1 then s
    else State.closeGroupN n (s.sendFlit sl 1 0 []) sl

/-- Replay from a sequence on: the flits leave again with their original contents and sequences (R284). -/
def State.replayFrom (s : State) (sl : Sleeve) (a : BitVec 12) : State :=
  let v := s.slv sl
  let fs := v.buffer.filter fun f => decide ((f.seq - v.oldest).toNat ≥ (a - v.oldest).toNat)
  s.emits (.replay sl a :: fs.map fun f => .flit sl (v.wire f))

/-- FRAY or LINK_DOWN in an IDLE flit (R277, R288, R296). -/
def State.idleSend (s : State) (sl : Sleeve) (body : Bytes) : State :=
  s.emits [.idleMsg sl body, .flit sl ((s.slv sl).idleFlit body)]

/-- A 3 B node field (R275). -/
def node3 (n : Nat) : Bytes := beBytes 3 (n % 2 ^ 20)

/-- HELLO (R277). -/
def helloMsg (cap node : Nat) : Bytes :=
  slot16 0x01 (beBytes 1 0x01 ++ beBytes 1 cap ++ [0] ++ node3 node ++ beBytes 2 1536)

/-- SHED with SUB and MASK (R277). -/
def shedMsg (sub : Nat) (mask : Byte) : Bytes := slot16 0x03 (beBytes 1 sub ++ [mask])

/-- QUIET with SUB (R277). -/
def quietMsg (sub : Nat) : Bytes := slot16 0x04 (beBytes 1 sub)

/-- FRAY (R277). -/
def frayMsg (reason node : Nat) : Bytes := slot16 0x05 (beBytes 1 reason ++ [0, 0] ++ node3 node)

/-- LINK_DOWN (R277). -/
def linkDownMsg (reason : Nat) : Bytes := slot16 0x06 (beBytes 1 reason)

/-- KEY SWITCH (R277). -/
def keyMsg (keyId : Byte) (counter : Nat) : Bytes := slot16 0x07 ([1, keyId, 0] ++ beBytes 8 counter)

/-- GRANT (R305). -/
def grantMsg (src dst vc limit srcE dstE : Nat) : Bytes :=
  slot16 0x20 (node3 src ++ node3 dst ++ beBytes 1 vc ++ beBytes 4 limit ++ beBytes 2 srcE ++ beBytes 2 dstE)

/-- ACK (R305). -/
def ackMsg (src dst vc seq srcE dstE : Nat) : Bytes :=
  slot16 0x21 (node3 src ++ node3 dst ++ beBytes 1 vc ++ beBytes 3 seq ++ [0] ++ beBytes 2 srcE ++ beBytes 2 dstE)

/-- NAK (R305). -/
def nakMsg (src dst vc seq status srcE dstE : Nat) : Bytes :=
  slot16 0x22 (node3 src ++ node3 dst ++ beBytes 1 vc ++ beBytes 3 seq ++ beBytes 1 status ++ beBytes 2 srcE ++
    beBytes 2 dstE)

/-- EPOCH (R305). -/
def epochBody (src epoch : Nat) : Bytes := slot16 0x23 (node3 src ++ zeros 4 ++ beBytes 2 epoch)

/-- WANT (R305). -/
def wantMsg (src dst vc srcE : Nat) : Bytes :=
  slot16 0x24 (node3 src ++ node3 dst ++ beBytes 1 vc ++ zeros 4 ++ beBytes 2 srcE)

/-- RETIRE (R305). -/
def retireMsg (src dst vc e srcE dstE : Nat) : Bytes :=
  slot16 0x25 (node3 src ++ node3 dst ++ beBytes 1 vc ++ beBytes 3 e ++ [0] ++ beBytes 2 srcE ++ beBytes 2 dstE)

/-- A packet or a transport message other than EPOCH crosses a Sleeve now (R399). -/
def State.crossed (s : State) (sl : Sleeve) : State := s.modSlv sl fun v => { v with crossedAt := s.clk.localCount }

/-- The Sleeve is UP. -/
def State.slvUp (s : State) (sl : Sleeve) : Bool := (s.slv sl).state == .up

/-- Send a transport message on a Sleeve, on the other where that one is not UP, and nowhere where neither is (R306). -/
def State.tpMsg (s : State) (sl : Sleeve) (fn : Option Nat) (body : Bytes) : State :=
  let s := match fn with
    | some f => s.charge f 0x17 1
    | none => s
  if s.slvUp sl then s.bypass sl body
  else if s.slvUp sl.other then s.bypass sl.other body
  else s

end Sys2Proof.Machine
end

