-- ==== Sys2Proof/Machine/Clock.lean ====
section
/-! DEFINITION. The passage of time on an empty command queue: a step of the local count and of the timebase, the flit times
that a Sleeve stalls (R283), and one message of the trace port for every 10 ns (R495). -/
namespace Sys2Proof.Machine

/-- Nanoseconds by which the timebase advances in a step of the local count: the step at the nominal rate, adjusted by ratePpm,
or less half a nanosecond each while it counts at half rate (R338). -/
def Clocks.advance (c : Clocks) (step : Nat) : Nat :=
  if c.slew > 0 then step - min c.slew (step / 2) else ((c.frac + step * (1000000 + c.ratePpm)) / 1000000).toNat

/-- The clocks after a step of the local count, which is never disciplined (R338). -/
def Clocks.tick (c : Clocks) (step : Nat) : Clocks :=
  { c with localCount := c.localCount + step, timebase := c.timebase + BitVec.ofNat 64 (c.advance step),
           frac := if c.slew > 0 then c.frac else (c.frac + step * (1000000 + c.ratePpm)) % 1000000,
           slew := c.slew - min c.slew (step / 2) }

/-- The step of the clocks in ns: 2 while CK_TIME runs, 125 of AON while LIN is not in Run (R255, R404). -/
def State.clockStep (s : State) : Nat := if (s.dom .lin).state = .run then 2 else 125

/-- A flit time in thirds of a ps, by width and rate (R269). -/
def flitTime (lanes : Nat) (rate : BitVec 2) : Nat := 30720 / max lanes 1 * 2 ^ (3 - rate.toNat)

/-- A Sleeve stalled for a time counts the flit times in SLA_STALL (R283). -/
def State.stallFor (s : State) (sl : Sleeve) (ns : Nat) : State :=
  let v := s.slv sl
  if !v.stalling then s
  else
    let t := v.stallFrac + 3000 * ns
    let ft := flitTime v.txLanes v.rate
    let s := s.modSlv sl fun v => { v with stall := v.stall + BitVec.ofNat 64 (t / ft), stallFrac := t % ft }
    if t / ft = 0 then s else s.occ (slvClass sl + 0x0A) (t / ft) none none

/-- A LOST message goes in as soon as the buffer has room (R496). -/
def State.traceRoom (s : State) : State :=
  if s.bh.lostSince ≠ 0 && s.bh.buffer.length < 4096 then
    let m := traceMsg 0x04 0x00 s.clk.timebase (s.bh.lostSince.toNat <<< 32)
    { s with bh := { s.bh with buffer := s.bh.buffer ++ [m], lostSince := 0 } }
  else s

/-- One 10 ns slot of the trace port (R495 to R497): every 1,024th message is SYNC, else the oldest waiting message leaves,
else IDLE while TRACE_EN is 1; the port stops once TRACE_EN is 0 and the buffer has drained. -/
def State.traceSlot (s : State) : State :=
  if !s.bh.running then s
  else if s.bh.sinceSync ≥ 1023 then
    (s.emit (.trace (traceSync s.clk.timebase))).setBh { s.bh with sinceSync := 0 }
  else
    match s.bh.buffer with
    | m :: r => ((s.emit (.trace m)).setBh { s.bh with buffer := r, sinceSync := s.bh.sinceSync + 1 }).traceRoom
    | [] =>
      if s.bh.traceEn then (s.emit (.trace (zeros 16))).setBh { s.bh with sinceSync := s.bh.sinceSync + 1 }
      else s.setBh { s.bh with running := false }

/-- Slots of the trace port that pass. -/
def State.traceSlots : Nat → State → State
  | 0, s => s
  | n + 1, s => State.traceSlots n s.traceSlot

/-- One tick (R255, R404): the clocks advance by a step, stalled Sleeves count, and every 10 ns the trace port sends one
message. Nothing counts without VAON. Log entry 1. -/
def State.tick (s : State) : State :=
  if s.boot.mode = .noPower then s
  else
    let step := s.clockStep
    let was := s.clk.localCount
    let s := (({ s with clk := s.clk.tick step }).stallFor .a step).stallFor .b step
    State.traceSlots (s.clk.localCount / 10 - was / 10) s

end Sys2Proof.Machine
end

