-- ==== Sys2Proof/Machine/Aer.lean ====
section
/-! DEFINITION. PCI Express error reporting (R451): AER status, masking and severity, and the message to the root. The
register offsets and bit positions are those of PCI Express Base Specification 7.0 (R42; log entry 4). -/
namespace Sys2Proof.Machine

/-- Reset value of a writable dword of the configuration space that is not one of the named fields: the base
specification's defaults for the AER severity and correctable mask registers, the target link speed and the system page
size, 0 elsewhere. -/
def cfgDefault (dw : Nat) : W32 :=
  match dw with
  | 32 => 0x00000007
  | 66 => 0x00400000
  | 67 => 0x00462030
  | 69 => 0x00006000
  | 0xF4 => 0x00000001
  | _ => 0

/-- A writable dword of a function's configuration space. -/
def State.cfgRaw (s : State) (fn dw : Nat) : W32 := tgetD (s.fn fn).cfg.raw dw (cfgDefault dw)

/-- The error reporting enables of Device Control that rule a function (R37). -/
def State.errEnables (s : State) (fn : Nat) : Nat := (s.cfgRaw (if isVf fn then 0 else fn) 22).toNat % 16

/-- Bits of the Uncorrectable Error Status register. -/
def aerPoisoned : Nat := 12
def aerCompletionTimeout : Nat := 14
def aerCompleterAbort : Nat := 15
def aerUnexpectedCompletion : Nat := 16
def aerUnsupportedRequest : Nat := 20
def aerUncorrectableInternal : Nat := 22
def aerIdeCheckFailed : Nat := 28
def aerMisroutedIde : Nat := 29

/-- The function whose AER mask and severity registers rule a function's errors: SR-IOV reserves a VF's own (R37). -/
def aerRuler (fn : Nat) : Nat := if isVf fn then 0 else fn

/-- The error was found in a TLP received, whose header the Header Log takes. -/
def aerHasHeader (bit : Nat) : Bool :=
  [aerPoisoned, aerCompleterAbort, aerUnexpectedCompletion, aerUnsupportedRequest, aerIdeCheckFailed, aerMisroutedIde].contains bit

/-- An unmasked error while none waits under the First Error Pointer: the pointer names it, and the Header Log (dwords 71 to
74) takes the header of its TLP, which no row carries: four free values, or 0 where there is no TLP. -/
def State.aerFirst (s : State) (fn bit : Nat) : State :=
  let c := (s.fn fn).cfg
  if bitAt c.aerUnc.toNat ((s.cfgRaw fn 70).toNat % 32) then s
  else
    let put (s : State) (dw : Nat) (v : W32) : State := s.modCfg fn fun c => { c with raw := tput c.raw dw v }
    let s := put s 70 (BitVec.ofNat 32 bit)
    if aerHasHeader bit then
      let a := s.takeFree
      let b := a.2.takeFree
      put (put (put (put b.2 71 (a.1.truncate 32)) 72 ((a.1 >>> 32).truncate 32)) 73 (b.1.truncate 32)) 74 ((b.1 >>> 32).truncate 32)
    else put (put (put (put s 71 0) 72 0) 73 0) 74 0

/-- Record an uncorrectable error of a function and send its message where masks and enables permit; an advisory error
is signalled as correctable (R451). Device Status is set beside it. -/
def State.aer (s : State) (fn bit : Nat) (advisory : Bool) : State :=
  let one : W32 := BitVec.ofNat 32 (2 ^ bit)
  let fatal := bitAt (s.cfgRaw (aerRuler fn) 67).toNat bit
  let masked := bitAt (s.cfgRaw (aerRuler fn) 66).toNat bit
  let adv := advisory && !fatal
  let corMasked := bitAt (s.cfgRaw (aerRuler fn) 69).toNat 13
  let en := s.errEnables fn
  let dev := if adv then 0x00010000 else if fatal then 0x00040000 else 0x00020000
  let dev := if bit = aerUnsupportedRequest then dev ||| 0x00080000 else dev
  let dc := s.cfgRaw fn 22
  let s := if masked then s else s.aerFirst fn bit
  let s := s.modCfg fn fun c => { c with aerUnc := c.aerUnc ||| one,
                                         aerCor := if adv then c.aerCor ||| 0x2000 else c.aerCor,
                                         raw := tput c.raw 22 (dc ||| BitVec.ofNat 32 dev) }
  if masked || s.link.state == .down then s
  else if adv then
    (if !corMasked && bitAt en 0 then s.sendMsg fn .errCor else s)
  else if fatal then (if bitAt en 2 then s.sendMsg fn .errFatal else s)
  else (if bitAt en 1 then s.sendMsg fn .errNonfatal else s)

end Sys2Proof.Machine
end

