-- ==== Sys2Proof/Machine/Transport.lean ====
section
/-! DEFINITION. Staging shares and transfer units (R20, R21, R365); the send side of a transport flow (R298 to R303,
R307, R321, R325); what the receive side sends back (R306, R310, R315). -/
namespace Sys2Proof.Machine

/-! ## Staging -/

/-- Floor of a group in units of 64 KiB: its GROUP_CREATE floor; 4 for the manager's group 0 (R63, PLC_STG_SHARE). -/
def State.floorOf (s : State) (g : Nat) : Nat := if g = 0 then 4 else tgetD s.prov.groups g 0

/-- Units of a group above its floor in a slice, as the last epoch set them (R365). -/
def State.extraOf (s : State) (a : Arb) (g : Nat) : Nat :=
  match a with
  | .host => tgetD s.plc.shareHost g 0
  | .sla => tgetD s.plc.shareSla g 0
  | .slb => tgetD s.plc.shareSlb g 0

/-- Group of an inbound window's owner. -/
def State.iwinGroup (s : State) (w : Nat) : Nat := s.groupOf (((tget s.win.iwins w).map (·.owner)).getD 0)

/-- The unit's data lies in the staging of a delayed-read slot that lives. -/
def State.inSlot (s : State) (u : XUnit) : Bool := u.kind == UnitKind.collectRsp && (tget s.win.slots u.unitNo).isSome

/-- Bytes of a group staged in a slice: its units out of grant space and its delayed-read
slots. -/
def State.stagedBytes (s : State) (a : Arb) (g : Nat) : Nat :=
  (s.units.filter fun p => p.2.group == g && p.2.slice == a && p.2.grantUnits == 0 && !s.inSlot p.2).foldl
    (fun n p => n + p.2.len) 0 +
  (s.win.slots.filter fun p => p.2.sl.arb == a && s.iwinGroup p.2.win == g).foldl (fun n p => n + p.2.len) 0

/-- Units of a slice that groups still hold beyond their shares: a share that shrank gives its units up as they drain
(R365). -/
def State.overhang (s : State) (a : Arb) : Nat :=
  (0 :: tkeys s.prov.groups).foldl (fun n g => n + ((s.stagedBytes a g + 65535) / 65536 - (s.floorOf g + s.extraOf a g))) 0

/-- Share of a group in a slice, in bytes: its floor, and what it has gained above it that others have given up. -/
def State.shareBytes (s : State) (a : Arb) (g : Nat) : Nat :=
  (s.floorOf g + (s.extraOf a g - if s.extraOf a g = 0 then 0 else s.overhang a)) * 65536

/-- A group's share of a slice has room for n bytes more (R365). -/
def State.shareRoom (s : State) (a : Arb) (g n : Nat) : Bool := decide (s.stagedBytes a g + n ≤ s.shareBytes a g)

/-- Key of a group's demand in a slice. -/
def demandKey (a : Arb) (g : Nat) : Nat := 4 * g + a.num

/-- A unit with nothing landed. -/
def blankUnit (kind : UnitKind) (fn group : Nat) (slice : Arb) (len : Nat) : XUnit :=
  { kind := kind, fn := fn, group := group, slice := slice, obj := 0, sqi := 0, unitNo := 0, len := len, landed := 0,
    committed := false, granted := none, emitted := false, stamp := 0, arrived := 0, addr := 0, data := zeros len, pkt := none,
    owner := .other, ats := false, noSnoop := false, st := none, resend := false, commitNo := 0,
    grantUnits := 0, acked := false, xlated := true, rule := false, heldBack := false, xasked := false, starved := false,
    cutOff := false }

/-- Stage a unit under the next unit number. -/
def State.addUnit (s : State) (u : XUnit) : State :=
  { s with units := tput s.units s.nextUnit u, nextUnit := s.nextUnit + 1 }

/-- Take a unit out of every transmit queue. -/
def State.unqueue (s : State) (n : Nat) : State :=
  let cut (a : Arbiter) : Arbiter := { a with queue := a.queue.filter (· != n) }
  { s with plt := { s.plt with host := cut s.plt.host, sla := cut s.plt.sla, slb := cut s.plt.slb } }

/-- Remove a unit from staging and from every transmit queue. -/
def State.dropUnit (s : State) (n : Nat) : State := { s.unqueue n with units := tdel s.units n }

/-- A unit loses its grant, if it has one. -/
def State.ungrant (s : State) (n : Nat) : State := (s.unqueue n).modUnit n fun u => { u with granted := none }

/-- The arrival stamp of a unit that starts to request now: units that do so in one command have arrived together (R258,
R262). -/
def State.arrivalStamp (s : State) : Nat :=
  match s.plt.arrivals.head?.bind (tget s.units) with
  | some u => u.stamp
  | none => s.stamp

/-- A unit starts to request: its arrival stamp, the start of its wait, and the trigger it may be (R258, R263, R266). -/
def State.arriveUnit (s : State) (n : Nat) : State :=
  let at_ := s.arrivalStamp
  let s := s.modUnit n fun u => { u with stamp := at_, arrived := s.clk.localCount, starved := false }
  { s with stamp := s.stamp + 1, plt := { s.plt with arrivals := s.plt.arrivals ++ [n] } }

/-- Land bytes of a unit at an offset (R21). The first byte sets its arrival stamp (R258). -/
def State.landBytes (s : State) (n off : Nat) (d : Bytes) : State :=
  match tget s.units n with
  | none => s
  | some u =>
    let first := u.landed == 0
    let k := demandKey u.slice u.group
    let plc := { s.plc with staged := tput s.plc.staged k (tgetD s.plc.staged k 0 + d.length) }
    let s := { s.modUnit n (fun u => { u with data := splice off d u.data, landed := u.landed + d.length }) with plc := plc }
    (if first then s.arriveUnit n else s).charge u.fn 0x14 d.length

/-! ## Flows -/

/-- Key of the flow to or from a node on a VC (R298). -/
def flowKey (node vc : Nat) : Nat := node * 8 + vc % 8

/-- Window units of a packet (R307). -/
def windowUnits (len : Nat) : Nat := (32 + len + 255) / 256

/-- Flits of a packet (R271). -/
def packetFlits (len : Nat) : Nat := (32 + len + 223) / 224

/-- A packet of ours with the fields every kind shares left to emission (R302). -/
def mkPacket (kind node vc len : Nat) (tag offset : Nat) : Packet :=
  { kind := BitVec.ofNat 8 kind, flags := 0, len := len, src := 0, vc := BitVec.ofNat 8 vc, dst := node, status := 0,
    srcEpoch := 0, dstEpoch := 0, seq := 0, rsv := 0, tag := BitVec.ofNat 32 tag, offset := BitVec.ofNat 64 offset,
    payload := [] }

/-- Bytes queued for a Sleeve. -/
def State.queuedOn (s : State) (sl : Sleeve) : Nat :=
  (s.units.filter fun p => p.2.slice == sl.arb).foldl (fun n p => n + p.2.len) 0

/-- A Sleeve is fit for choice (R362): UP, in SLEEVE_MASK, and not marked by the last epoch. -/
def State.slvFit (s : State) (sl : Sleeve) : Bool :=
  s.slvUp sl && bitAt s.plc.sleeveMask.toNat sl.num && !(s.slv sl).unfit

/-- Bytes of a flow queued for a Sleeve. -/
def State.queuedOf (s : State) (k : Nat) (sl : Sleeve) : Nat :=
  (s.units.filter fun p => p.2.slice == sl.arb && (p.2.pkt.map fun x => flowKey x.dst x.vc.toNat) == some k).foldl
    (fun n p => n + p.2.len) 0

/-- Flit payload that a Sleeve delivers in B per ms (R23). -/
def slvCap (rate : BitVec 2) (lanes : Nat) : Nat := if rate = 0 then 0 else 175000000 * lanes / 8 / 2 ^ (3 - rate.toNat)

/-- Cost of a Sleeve for a flow (R23, R362). -/
def State.slvCost (s : State) (k : Nat) (sl : Sleeve) : Nat :=
  let v := s.slv sl
  Config.sleeveCost (s.coef (flitIdx v.rate v.txLanes)) (slvCap v.rate v.txLanes) (s.queuedOf k sl) (s.queuedOn sl)

/-- The Sleeve placement chooses for a flow, under a hint 1 for A and 2 for B (R146, R321, R362, R363). -/
def State.pickSleeve (s : State) (k hint : Nat) : Sleeve :=
  match s.slvFit .a, s.slvFit .b with
  | true, false => .a
  | false, true => .b
  | true, true =>
    if hint = 1 then .a else if hint = 2 then .b
    else if s.slvCost k .b < s.slvCost k .a then .b else .a
  | false, false => if s.slvUp .b && !s.slvUp .a then .b else .a

/-- Sleeve hint of a QP: its own, else its queue set's (R146). -/
def State.sleeveHint (s : State) (q : Option Nat) : Nat :=
  match q.bind s.qp with
  | none => 0
  | some p =>
    if p.hintSlv ≠ 0 then p.hintSlv.toNat
    else ((tget (s.fn p.fn).qsets (p.idx / 64)).map (·.hintSlv.toNat)).getD 0

/-- A flow without state (R299). -/
def TxFlow.fresh (sl : Sleeve) (fn : Option Nat) : TxFlow :=
  { next := 0, unacked := [], sent := 0, limit := 0, granted := false, cwnd := 256 * 256, sleeve := sl, fn := fn, queue := [],
    kept := [], ended := none, silent := false, wait := false, hold := none, lastCut := 0 }

/-- Send WANT on a flow (R307). -/
def State.sendWant (s : State) (k : Nat) (f : TxFlow) : State :=
  s.tpMsg f.sleeve f.fn (wantMsg s.tp.node (k / 8) (k % 8) s.tp.epoch.toNat)

/-- The flow holds send state (SLA_TP_FLOWS.TX). -/
def TxFlow.live (f : TxFlow) : Bool := !f.silent

/-- Count a transport event: its register field by f, its Buttonhole item of class 0x05. -/
def State.tpCount (s : State) (item : Nat) (f : Tp → Tp) : State := ({ s with tp := f s.tp }).occ (0x0500 + item) 1 none none

/-- SLA_TP_NOSTATE counts. -/
def State.tpNoState (s : State) : State := s.tpCount 0x06 fun t => { t with noState := satInc t.noState }

/-- SLA_TP_LATE counts. -/
def State.tpLate (s : State) : State := s.tpCount 0x05 fun t => { t with late := satInc t.late }

/-- SLA_TP_STALE counts. -/
def State.tpStale (s : State) : State := s.tpCount 0x04 fun t => { t with stale := satInc t.stale }

/-- This node holds transport state with a node (R323). -/
def State.holdsState (s : State) (node : Nat) : Bool :=
  s.tp.tx.any (fun p => p.1 / 8 == node && p.2.live) || s.tp.rx.any (fun p => p.1 / 8 == node)

/-- A send state is free (R300). -/
def State.txRoom (s : State) : Bool := decide ((s.tp.tx.filter fun p => p.2.live).length < 16384)

/-- Send state for a flow begins: WANT goes out, and the epoch of a node with which none was held is learned anew (R299,
R307, R323). -/
def State.openFlow (s : State) (k : Nat) (f : TxFlow) : State :=
  let known := if s.holdsState (k / 8) then s.tp.known else tdel s.tp.known (k / 8)
  ({ s with tp := { s.tp with tx := tput s.tp.tx k f, known := known } }).sendWant k f

/-- Create send state for a flow that needs it and send WANT (R300, R307); with all 16,384 in use, what needs it waits and
is counted. fn is the function served, q the QP whose hint applies. -/
def State.ensureFlow (s : State) (node vc : Nat) (q : Option Nat) (fn : Nat) : State :=
  let k := flowKey node vc
  match tget s.tp.tx k with
  | some f => if f.wait then s.tpNoState else s
  | none =>
    let f := TxFlow.fresh (s.pickSleeve (flowKey node vc) (s.sleeveHint q)) (some fn)
    if !s.txRoom then
      ({ s with tp := { s.tp with tx := tput s.tp.tx k { f with silent := true, wait := true } } }).tpNoState
    else s.openFlow k f

/-- Change a flow if it has state. -/
def State.modFlow (s : State) (k : Nat) (g : TxFlow → TxFlow) : State :=
  { s with tp := { s.tp with tx := tmod s.tp.tx k g } }

/-- Window units in UNACKED. -/
def TxFlow.inFlight (f : TxFlow) : Nat := f.unacked.foldl (fun n t => n + t.units) 0

/-- Window and congestion window let out a new packet of u units behind others of r units; a held flow and one with packets
to resend let out none (R307, R317, R321, R325). -/
def TxFlow.admitsBehind (f : TxFlow) (r u : Nat) : Bool :=
  f.granted && !f.silent && f.hold.isNone && !f.unacked.any (·.again) &&
    decide ((f.sent + BitVec.ofNat 32 (r + u) - f.limit).toInt ≤ 0) &&
    (decide (f.inFlight + r + u ≤ f.cwnd / 256) || (f.unacked.isEmpty && r == 0))

/-- The flow lets out a new packet of u units now. -/
def TxFlow.admits (f : TxFlow) (u : Nat) : Bool := f.admitsBehind 0 u

/-- Flow of a fabric-bound unit. -/
def XUnit.flow (u : XUnit) : Nat := ((u.pkt.map fun p => flowKey p.dst p.vc.toNat)).getD 0

/-- Window units of the flow's units that have a grant and are still to be emitted. -/
def State.reserved (s : State) (k : Nat) : Nat :=
  (s.units.filter fun x => x.2.granted.isSome && !x.2.emitted && !x.2.resend && !x.2.hostBound && x.2.flow == k).foldl
    (fun n x => n + ((x.2.pkt.map fun p => windowUnits p.len)).getD 0) 0

/-- The packet that a flow has kept across a RETIRE and emits next (R309); one whose unit has gone is passed over. -/
def State.keptHead (s : State) (f : TxFlow) : Option TxPkt :=
  f.kept.find? fun t => t.xunit.all fun n => (tget s.units n).isSome

/-- The flow drops the kept packets up to and including the one just emitted. -/
def TxFlow.keptDone (f : TxFlow) (order : Nat) : TxFlow := { f with kept := (f.kept.dropWhile fun t => t.order != order).drop 1 }

/-- It is the turn of unit n of a flow, or of a packet without a unit: kept packets go first, in their order (R309). -/
def State.keptTurn (s : State) (f : TxFlow) (n : Option Nat) : Bool :=
  match s.keptHead f with
  | none => true
  | some t => t.xunit == n && n.isSome

/-- The 32 B header and the payload of a packet (R302). -/
def packetBytes (p : Packet) : Bytes :=
  [p.kind, p.flags] ++ beBytes 2 p.len ++ beBytes 3 p.src ++ [p.vc] ++ beBytes 3 p.dst ++ [p.status] ++
    beBytes 2 p.srcEpoch.toNat ++ beBytes 2 p.dstEpoch.toNat ++ beBytes 3 p.seq.toNat ++ [p.rsv] ++ beBytes 4 p.tag.toNat ++
    beBytes 8 p.offset.toNat ++ p.payload

/-- Read a packet from its bytes, cut to its LENGTH (R271, R302). -/
def parsePacket (b : Bytes) : Packet :=
  let len := beAt 2 2 b
  { kind := BitVec.ofNat 8 (beAt 0 1 b), flags := BitVec.ofNat 8 (beAt 1 1 b), len := len, src := beAt 4 3 b,
    vc := BitVec.ofNat 8 (beAt 7 1 b), dst := beAt 8 3 b, status := BitVec.ofNat 8 (beAt 11 1 b),
    srcEpoch := BitVec.ofNat 16 (beAt 12 2 b), dstEpoch := BitVec.ofNat 16 (beAt 14 2 b), seq := BitVec.ofNat 24 (beAt 16 3 b),
    rsv := BitVec.ofNat 8 (beAt 19 1 b), tag := BitVec.ofNat 32 (beAt 20 4 b), offset := BitVec.ofNat 64 (beAt 24 8 b),
    payload := (b.drop 32).take len }

/-- KIND of the flit that carries piece i of n of a packet (R271). -/
def pieceKind (i n : Nat) : Nat := if n = 1 then 5 else if i = 0 then 2 else if i + 1 = n then 4 else 3

/-- Put a packet on a Sleeve: it is cut into consecutive flits that carry its VC, and charged to its function (R271, R302,
R372). -/
def State.packetOut (s : State) (sl : Sleeve) (fn : Nat) (p : Packet) : State :=
  let n := packetFlits p.len
  let v := s.slv sl
  let b := packetBytes p
  let s := (List.range n).foldl (fun s i => s.sendFlit sl (pieceKind i n) p.vc.toNat (slice (224 * i) 224 b))
    (s.emit (.packet sl p))
  let s := s.modFn fn fun f => { f with bytesOut := f.bytesOut + BitVec.ofNat 64 p.len }
  (s.charge fn (flitIdx v.rate v.txLanes) n).occFn 0x0510 1 fn

/-- The header fields that emission fills in. -/
def State.fillPacket (s : State) (p : Packet) (seq : BitVec 24) : Packet :=
  { p with src := s.tp.node, srcEpoch := s.tp.epoch, dstEpoch := tgetD s.tp.known p.dst 0, seq := seq }

/-- Emit a new packet on its flow under the next sequence (R299, R307). -/
def State.emitNew (s : State) (k : Nat) (t : TxPkt) : State :=
  match tget s.tp.tx k with
  | none => s
  | some f =>
    let p := s.fillPacket t.pkt f.next
    let t := { t with seq := f.next, pkt := p, sentAt := s.clk.timebase }
    let s := s.modFlow k fun f => { f with next := f.next + 1, sent := f.sent + BitVec.ofNat 32 t.units,
                                           unacked := f.unacked ++ [t] }
    let s := if p.kind = 0x02 then
        let a : Await := { node := p.dst, vc := p.vc.toNat % 8, seq := f.next, owner := t.owner, len := beNat p.payload,
                           sentAt := s.clk.localCount }
        { s with tp := { s.tp with awaits := s.tp.awaits ++ [a] } }
      else s
    s.packetOut f.sleeve t.fn p

/-- QP of an owner. -/
def Owner.qp? : Owner → Option Nat
  | .unit q _ _ | .get q _ _ | .past q => some q
  | _ => none

/-- A packet without unit payload waits for the earlier units of its QP on its flow (R185). -/
def State.orderBlocked (s : State) (k : Nat) (t : TxPkt) : Bool :=
  match t.owner.qp? with
  | none => false
  | some q => s.units.any fun p =>
      decide (p.1 < t.order) && p.2.owner.qp? == some q && !p.2.emitted &&
        (p.2.pkt.map fun x => flowKey x.dst x.vc.toNat) == some k

/-- Mark the packet with a sequence in UNACKED. -/
def State.modUnacked (s : State) (k : Nat) (seq : BitVec 24) (g : TxPkt → TxPkt) : State :=
  s.modFlow k fun f => { f with unacked := f.unacked.map fun t => if t.seq == seq then g t else t }

/-- A copy of an earlier emission: RESENT set, every other field unchanged (R302). -/
def packetAgain (p : Packet) : Packet := { p with flags := p.flags ||| 0x80 }

/-- Emit a copy of a packet of UNACKED on its flow's Sleeve (R317). -/
def State.emitAgain (s : State) (k : Nat) (sl : Sleeve) (t : TxPkt) : State :=
  let s := s.modUnacked k t.seq fun t => { t with again := false, resent := true, sentAt := s.clk.timebase }
  (({ s with tp := { s.tp with resent := s.tp.resent + 1 } }).occ 0x0500 1 none none).packetOut sl t.fn (packetAgain t.pkt)

/-- Resend the packets of a flow that wait for it, in sequence order, up to the first that carries unit payload: that
one requests at the arbiter again (R317). The first argument bounds their number. -/
def State.pumpAgainN : Nat → State → Nat → State
  | 0, s, _ => s
  | n + 1, s, k =>
    match tget s.tp.tx k with
    | none => s
    | some f =>
      match f.unacked.find? (·.again) with
      | none => s
      | some t =>
        if t.xunit.isSome || !s.slvReady f.sleeve (packetFlits t.pkt.len) then s
        else State.pumpAgainN n (s.emitAgain k f.sleeve t) k

/-- The packet without unit payload that a flow emits next: one kept across a RETIRE, else the oldest that no earlier unit
of its QP holds back (R185, R309). -/
def State.nextPlain (s : State) (k : Nat) (f : TxFlow) : Option TxPkt :=
  match s.keptHead f with
  | some t => if t.xunit.isNone then some t else none
  | none => f.queue.find? fun t => !s.orderBlocked k t

/-- A packet without unit payload leaves its flow's waiting ones. -/
def TxFlow.unqueued (f : TxFlow) (t : TxPkt) : TxFlow :=
  if f.kept.contains t then f.keptDone t.order else { f with queue := f.queue.erase t }

/-- Emit the waiting packets of a flow that may go, oldest first, within what its granted units leave of the window. The
first argument bounds their number. -/
def State.pumpFlowN : Nat → State → Nat → State
  | 0, s, _ => s
  | n + 1, s, k =>
    match tget s.tp.tx k with
    | none => s
    | some f =>
      match s.nextPlain k f with
      | none => s
      | some t =>
        if !f.admitsBehind (s.reserved k) t.units || !s.slvReady f.sleeve (packetFlits t.pkt.len) then s
        else
          let again := f.kept.contains t
          State.pumpFlowN n ((s.modFlow k (·.unqueued t)).emitNew k (if again then t else { t with firstAt := s.clk.localCount })) k

/-- Emit the waiting packets of a flow that may go: those to be resent, then new ones (R317). -/
def State.pumpFlow (s : State) (k : Nat) : State :=
  let s := State.pumpAgainN (((tget s.tp.tx k).map (·.unacked.length)).getD 0) s k
  State.pumpFlowN (((tget s.tp.tx k).map fun f => f.queue.length + f.kept.length).getD 0) s k

/-- Every flow of a Sleeve. -/
def State.pumpSleeve (s : State) (sl : Sleeve) : State :=
  (tkeys s.tp.tx).foldl (fun s k =>
    if (tget s.tp.tx k).map (·.sleeve) == some sl then s.pumpFlow k else s) (s.bypassDrain sl)

/-- Send a packet that carries no unit payload (R259). It waits at its flow until the window admits it. -/
def State.sendPkt (s : State) (p : Packet) (owner : Owner) (fn : Nat) : State :=
  let k := flowKey p.dst p.vc.toNat
  let s := s.ensureFlow p.dst p.vc.toNat owner.qp? fn
  let t : TxPkt := { seq := 0, pkt := p, units := windowUnits p.len, sentAt := 0, firstAt := s.clk.localCount, xunit := none,
                     owner := owner, fn := fn,
                     resent := false, again := false, sampled := false, order := s.nextUnit }
  let s := { s with nextUnit := s.nextUnit + 1 }
  (s.modFlow k fun f => { f with queue := f.queue ++ [t] }).pumpFlow k

/-- The arbiter at which a unit requests: the host port's, or that of its flow's SLEEVE (R258, R321). -/
def State.unitArb (s : State) (u : XUnit) : Arb :=
  match u.pkt with
  | some p =>
    if u.hostBound then .host
    else ((tget s.tp.tx (flowKey p.dst p.vc.toNat)).map (·.sleeve.arb)).getD u.slice
  | none => .host

/-! ## Answers of the receive side -/

/-- This node and the epochs that a message to a node carries. -/
def State.epochs (s : State) (node : Nat) : Nat × Nat := (s.tp.epoch.toNat, (tgetD s.tp.known node 0).toNat)

/-- Change receive state if there is any. -/
def State.modRx (s : State) (k : Nat) (g : RxFlow → RxFlow) : State :=
  { s with tp := { s.tp with rx := tmod s.tp.rx k g } }

/-- GRANT_MAX in window units. -/
def State.grantMax (s : State) : Nat := s.tp.grantMax.toNat * 16

/-- The flows' LIMIT − DRAINED values together (R310). -/
def State.grantedOut (s : State) : Nat := s.tp.rx.foldl (fun n p => n + (p.2.limit - p.2.drained).toNat) 0

/-- Unreserved 64 KiB units of the HOST slice (R366). -/
def State.unreservedHost (s : State) : Nat := 128 - 4 - s.prov.groups.foldl (fun n p => n + p.2) 0

/-- Cap on grant space in window units (R310, R366). -/
def State.grantCap (s : State) : Nat := if s.unreservedHost < 64 then s.unreservedHost * 256 else 16384

/-- Accepted READs that await service on the device (R310): responses not committed and delayed reads not ready. -/
def State.readsAwaiting (s : State) : Nat :=
  (s.units.filter fun p => p.2.kind == .readRsp && !p.2.committed).length +
  (s.win.slots.filter fun p => !p.2.ready).length

/-- By how much LIMITs may rise together now (R310). -/
def State.grantRoom (s : State) : Nat := if s.readsAwaiting ≥ 1024 then 0 else s.grantCap - s.grantedOut

/-- Send the flow's current GRANT (R308, R310). -/
def State.sendGrant (s : State) (k : Nat) (r : RxFlow) : State :=
  let e := s.epochs (k / 8)
  (s.modRx k fun r => { r with lastLimit := some r.limit }).tpMsg r.sleeve r.fn
    (grantMsg s.tp.node (k / 8) (k % 8) r.limit.toNat e.1 e.2)

/-- A GRANT is due: none has been sent, or LIMIT is 32 units beyond the last one (R308, R310). -/
def RxFlow.grantDue (r : RxFlow) : Bool :=
  match r.lastLimit with
  | none => r.limit != r.drained
  | some l => decide ((r.limit - l).toNat ≥ 32) && decide ((r.limit - l).toNat < 2 ^ 31)

/-- Units by which a flow's LIMIT lies below DRAINED + GRANT_MAX (R310). -/
def State.limitShort (s : State) (r : RxFlow) : Nat :=
  let short := (r.drained + BitVec.ofNat 32 s.grantMax - r.limit).toNat
  if short < 2 ^ 31 then short else 0

/-- LIMIT rises as far as the room allows, and a GRANT goes out where one is due (R310). -/
def State.raiseLimit (s : State) (k : Nat) : State :=
  match tget s.tp.rx k with
  | none => s
  | some r =>
    let r := { r with limit := r.limit + BitVec.ofNat 32 (min (s.limitShort r) s.grantRoom) }
    let s := s.modRx k fun _ => r
    if r.grantDue then s.sendGrant k r else s

/-- A flow's LIMIT is where R310 keeps it. -/
def State.limitMet (s : State) (k : Nat) : Bool := ((tget s.tp.rx k).map fun r => s.limitShort r == 0).getD true

/-- Serve the flows whose LIMIT stopped, in the order it stopped, while room lasts (R310). -/
def State.serveStalled : List Nat → State → State
  | [], s => s
  | k :: r, s =>
    let s := s.raiseLimit k
    if s.limitMet k then State.serveStalled r { s with tp := { s.tp with stalled := s.tp.stalled.filter (· != k) } } else s

/-- Room has freed: the flows whose LIMIT stopped are served (R310). -/
def State.regrantAll (s : State) : State := State.serveStalled s.tp.stalled s

/-- A flow's LIMIT may rise: it goes behind those that have stopped before (R310). -/
def State.regrant (s : State) (k : Nat) : State :=
  if s.limitMet k || s.tp.stalled.contains k then s.regrantAll
  else ({ s with tp := { s.tp with stalled := s.tp.stalled ++ [k] } }).regrantAll

/-- Window units of accepted packets leave grant space (R310). -/
def State.drain (s : State) (node vc units : Nat) : State :=
  (s.modRx (flowKey node vc) fun r => { r with drained := r.drained + BitVec.ofNat 32 units }).regrant (flowKey node vc)

/-- The window units that a host-bound unit holds of grant space leave it; those of a receive state that has gone count
nowhere (R308, R310). -/
def State.drainUnit (s : State) (u : XUnit) : State :=
  match u.pkt with
  | some p => if u.hostBound && u.grantUnits ≠ 0 && !u.cutOff then s.drain p.src p.vc.toNat u.grantUnits else s
  | none => s

/-- The highest sequence an ACK may carry: before the oldest accepted packet still waiting for its commit, else E − 1
(R315). -/
def RxFlow.ackSeq (r : RxFlow) : BitVec 24 :=
  match r.waiting with
  | [] => r.expect - 1
  | w :: _ => w.seq - 1

/-- Send an ACK with the current S (R315). -/
def State.sendAck (s : State) (node vc : Nat) (sl : Sleeve) : State :=
  match tget s.tp.rx (flowKey node vc) with
  | none => s
  | some r =>
    let e := s.epochs node
    let q := match r.acked with
      | some a => a
      | none => 0xFFFFFF#24
    s.tpMsg sl r.fn (ackMsg s.tp.node node vc q.toNat e.1 e.2)

/-- The events that allow an ACK have moved S: record it and send it (R313, R315). -/
def State.allowAck (s : State) (node vc : Nat) (sl : Sleeve) : State :=
  match tget s.tp.rx (flowKey node vc) with
  | none => s
  | some r =>
    if r.acked = some r.ackSeq || (r.acked = none && r.ackSeq + 1 = 0) then s
    else (s.modRx (flowKey node vc) fun r => { r with acked := some r.ackSeq }).sendAck node vc sl

/-- Answer an accepted packet with a NAK that names it, and keep the refusal record (R313, R315). -/
def State.sendNak (s : State) (node vc : Nat) (seq : BitVec 24) (status : Byte) (sl : Sleeve) : State :=
  let e := s.epochs node
  let fn := (tget s.tp.rx (flowKey node vc)).bind (·.fn)
  let s := s.modRx (flowKey node vc) fun r => { r with refused := r.refused ++ [{ seq := seq, status := status }], acked := some seq }
  s.tpMsg sl fn (nakMsg s.tp.node node vc seq.toNat status.toNat e.1 e.2)

/-- Answer what may be answered: refusals whose earlier packets have all been allowed get their NAKs, in order, each on the
Sleeve its packet came on, then one ACK on sl if S has moved (R306, R315). The first argument bounds the NAKs. -/
def State.answerN : Nat → State → Nat → Nat → Sleeve → State
  | 0, s, node, vc, sl => s.allowAck node vc sl
  | n + 1, s, node, vc, sl =>
    match ((tget s.tp.rx (flowKey node vc)).map (·.waiting)).getD [] with
    | [] => s.allowAck node vc sl
    | w :: r =>
      match w.status with
      | none => s.allowAck node vc sl
      | some st =>
        State.answerN n ((s.modRx (flowKey node vc) fun x => { x with waiting := r }).sendNak node vc w.seq st w.sleeve)
          node vc sl

/-- Answer what may be answered on a flow (R315). -/
def State.answer (s : State) (node vc : Nat) (sl : Sleeve) : State :=
  State.answerN (((tget s.tp.rx (flowKey node vc)).map (·.waiting.length)).getD 0) s node vc sl

/-- The Sleeve on which the answer to a received packet goes: that on which it arrived (R306). -/
def State.rxSleeve (s : State) (p : Packet) : Sleeve :=
  match tget s.tp.rx (flowKey p.src p.vc.toNat) with
  | none => .a
  | some r => ((r.waiting.find? (·.seq == p.seq)).map (·.sleeve)).getD r.sleeve

/-- An accepted packet has committed: it no longer withholds the ACK (R313, R315). -/
def State.committedRx (s : State) (p : Packet) : State :=
  let sl := s.rxSleeve p
  (s.modRx (flowKey p.src p.vc.toNat) fun r =>
    { r with waiting := r.waiting.filter fun w => !(w.seq == p.seq && w.status.isNone) }).answer p.src p.vc.toNat sl

/-- The answers awaited after a packet has been refused: in its place where it waits, else behind the others. -/
def refuseIn (l : List Unanswered) (seq : BitVec 24) (st : Byte) (sl : Sleeve) : List Unanswered :=
  if l.any (fun w => w.seq == seq) then l.map fun w => if w.seq == seq then { w with status := some st } else w
  else l ++ [{ seq := seq, status := some st, sleeve := sl }]

/-- Refuse an accepted packet (R313). -/
def State.refuse (s : State) (p : Packet) (status : Nat) : State :=
  let sl := s.rxSleeve p
  (s.modRx (flowKey p.src p.vc.toNat) fun r =>
    { r with waiting := refuseIn r.waiting p.seq (BitVec.ofNat 8 status) sl }).answer p.src p.vc.toNat sl

/-- Send a RETIRE for a flow with the recorded E, all ones where none is recorded (R309). -/
def State.sendRetire (s : State) (node vc : Nat) (sl : Sleeve) (fn : Option Nat) : State :=
  let e := s.epochs node
  let at_ := ((s.tp.retired.find? fun p => p.1 == flowKey node vc).map (·.2.toNat)).getD 0xFFFFFF
  s.tpMsg sl fn (retireMsg s.tp.node node vc at_ e.1 e.2)

end Sys2Proof.Machine
end

