-- ==== Sys2Proof/Machine/QueueOps.lean ====
section
/-! DEFINITION. Queue pairs (R162 to R198, R537, R538): the descriptor and the completion record, fetching, starting
transfer units, completion in order, ERROR, holds, late writes and destruction. -/
namespace Sys2Proof.Machine

/-! ## Completion statuses (R174) -/

def csSuccess : Byte := 0x00
def csFlushed : Byte := 0x01
def csWritesFailed : Byte := 0x02
def csBadDescriptor : Byte := 0x10
def csTranslationFault : Byte := 0x11
def csHostAbort : Byte := 0x12
def csCompletionTimeout : Byte := 0x13
def csRemoteNak : Byte := 0x14
def csRemoteTimeout : Byte := 0x15
def csAccessDenied : Byte := 0x16
def csNoRecv : Byte := 0x17
def csTooLong : Byte := 0x18
def csDoorbellError : Byte := 0x19

/-- Completion status of a QP for an inbound status (R209, R314). -/
def csOfInbound (st : Nat) : Byte :=
  match st with
  | 0x01 | 0x02 => csAccessDenied
  | 0x09 => csNoRecv
  | 0x0A => csTooLong
  | _ => csRemoteNak

/-! ## The descriptor -/

/-- The queue set of a QP (R72: local index = set × 64 + position). -/
def Qp.qset (p : Qp) : Nat := p.idx / 64

/-- The QP's queue set. -/
def State.qsetOf (s : State) (p : Qp) : Option QSet := tget (s.fn p.fn).qsets p.qset

/-- Read a descriptor from its 64 B (R170). -/
def parseDesc (b : Bytes) (sqi : W16) : Desc :=
  { sqi := sqi, opcode := BitVec.ofNat 8 (leAt 0 1 b), flags := BitVec.ofNat 8 (leAt 1 1 b),
    vc := BitVec.ofNat 8 (leAt 2 1 b), len := leAt 4 4 b, iova := leAt 8 8 b, node := leAt 0x10 4 b % 2 ^ 20,
    tag := BitVec.ofNat 32 (leAt 0x14 4 b), off := BitVec.ofNat 64 (leAt 0x18 8 b),
    imm := BitVec.ofNat 64 (leAt 0x20 8 b), cookie := BitVec.ofNat 64 (leAt 0x28 8 b), started := false, nextByte := 0,
    units := [], status := none, matched := none, immValid := false, data := 0, rungAt := 0,
    steer := none }

/-- A descriptor never read: OPCODE 0 and COOKIE 0 (R188). -/
def unreadDesc (sqi : W16) : Desc := parseDesc [] sqi

/-- The checks of R172 on a descriptor's 64 B, at a bridge with this node. -/
def descOk (b : Bytes) (node : Nat) : Bool :=
  let op := leAt 0 1 b
  let flags := leAt 1 1 b
  let len := leAt 4 4 b
  let nd := leAt 0x10 4 b
  let off := leAt 0x18 8 b
  let data := op == 1 || op == 2 || op == 3 || op == 4
  let remote := op == 1 || op == 2 || op == 3
  decide (1 ≤ op) && decide (op ≤ 6) && flags / 8 == 0 && (!bitAt flags 0 || op == 1) &&
    bits (leAt 2 1 b) 6 3 == 0 && leAt 3 1 b == 0 && leNat (slice 0x30 16 b) == 0 && nd / 2 ^ 20 == 0 &&
    (if data then decide (1 ≤ len) && decide (len ≤ 2 ^ 30) else len == 0 && leAt 8 8 b == 0) &&
    (if remote then nd != 0 && nd != node else nd == 0) &&
    (if op == 3 then off / 2 ^ 16 == 0 else (op == 1 || op == 2) || off == 0) &&
    (op == 3 || leAt 0x20 8 b == 0)

/-- The VC of a descriptor: its own under VC_SET, else the QP's default (R171). -/
def Desc.vcOf (d : Desc) (p : Qp) : Nat := if bitAt d.vc.toNat 7 then d.vc.toNat % 8 else p.vc.toNat

/-- ACKED (R171). -/
def Desc.acked (d : Desc) : Bool := bitAt d.flags.toNat 0

/-- SOLICIT (R171). -/
def Desc.solicit (d : Desc) : Bool := bitAt d.flags.toNat 1

/-- Bytes of the leading units completed (R538). -/
def leadingBytes : List (Nat × Bool) → Nat
  | [] => 0
  | (n, true) :: r => n + leadingBytes r
  | (_, false) :: _ => 0

/-- The unit that starts at byte n of a descriptor: cut at 4 KiB of FABRIC_OFFSET for PUT and GET, every 4,096 B for SEND
(R183). -/
def Desc.unitLen (d : Desc) : Nat :=
  let rest := d.len - d.nextByte
  if d.opcode = 0x03 then min 4096 rest
  else min rest (4096 - (d.off.toNat + d.nextByte) % 4096)

/-- The descriptor of a QP with an SQ index. -/
def Qp.desc? (p : Qp) (sqi : W16) : Option Desc := p.descs.find? (·.sqi == sqi)

/-- Change the descriptor with an SQ index. -/
def Qp.modDesc (p : Qp) (sqi : W16) (g : Desc → Desc) : Qp :=
  { p with descs := p.descs.map fun d => if d.sqi == sqi then g d else d }

/-- Change a descriptor of QP q. -/
def State.modDesc (s : State) (q : Nat) (sqi : W16) (g : Desc → Desc) : State := s.modQp q (·.modDesc sqi g)

/-! ## Completion records -/

/-- BYTES of a record (R173, R538). -/
def Desc.bytes (d : Desc) (st : Byte) : Nat :=
  if st = csFlushed then 0
  else if d.opcode = 0x04 then (d.matched.map fun m => m.2.2.1).getD 0
  else leadingBytes d.units

/-- A SEND has completed the RECV: IMM_VALID, and DATA is its IMMEDIATE (R173). -/
def Desc.immShown (d : Desc) (st : Byte) : Bool := d.immValid && st == csSuccess

/-- A completion record as its 32 B (R173). -/
def recordBytes (d : Desc) (st : Byte) (phase : Bool) : Bytes :=
  leBytes 2 d.sqi.toNat ++ [d.opcode, BitVec.ofNat 8 (b2n phase + 2 * b2n (d.immShown st)), st] ++ zeros 3 ++
    leBytes 4 (d.bytes st) ++ leBytes 4 ((d.matched.map (·.1)).getD 0) ++ leBytes 8 d.cookie.toNat ++
    leBytes 8 (if d.opcode = 0x04 && !d.immShown st then 0 else d.data.toNat)

/-- Payload TLPs of a descriptor, reads and writes, carry No Snoop (R171). -/
def State.asksNs (s : State) (p : Qp) (d : Desc) : Bool := bitAt d.flags.toNat 2 && p.nsOk && (s.fn p.fn).cfg.noSnoop

/-- The QP with the steering tag of a descriptor: the tag in force, unless payload of it has landed under another one
(R254). -/
def Qp.steered (p : Qp) (d : Desc) : Qp := { p with st := d.steer.getD p.st }

/-- Steering tag of a QP's writes (R253, R254). -/
def State.qpTph (s : State) (p : Qp) : Option W16 :=
  if p.tph then
    s.tphTag p.fn (((s.qsetOf p).map (·.vector.toNat)).getD 0) (if p.st = 0xFFFF then none else some p.st) false
  else none

/-- Steering tag of a QP's NUMA node, 0xFFFF for none (R364): its hint's node, its queue set's, the node whose tag its
vector's entry names, node 0. -/
def State.steer (s : State) (p : Qp) : W16 :=
  let m := s.plc.numa
  let x := s.qsetOf p
  let vec := (x.map (·.vector.toNat)).getD 0
  let own := BitVec.ofNat 16 (bits (tgetD (s.fn p.fn).msix vec MsixEntry.masked).ctl.toNat 31 16)
  let named := m.any fun e => e.2 == own
  match tget m p.hintNuma.toNat, x.bind fun x => tget m x.hintNuma.toNat with
  | some t, _ => t
  | none, some t => t
  | none, none => if named then own else tgetD m 0 0xFFFF

/-- The tag in force follows the choice between two records (R254). -/
def State.resteer (s : State) (q : Nat) : State :=
  match s.qp q with
  | none => s
  | some p => s.modQp q fun x => { x with st := s.steer p }

/-- A changed hint or map applies at once to a QP between two records. -/
def State.resteerIdle (s : State) (q : Nat) : State :=
  if ((s.qp q).map (·.descs.isEmpty)).getD false then s.resteer q else s

/-- Announce a queue set's records by one message on its vector (R190). -/
def State.announce (s : State) (fn q : Nat) (dev : Option W16) : State :=
  match tget (s.fn fn).qsets q with
  | none => s
  | some x => (s.modQset fn q fun x => { x with unannounced := 0, lastSt := none }).msixTrigger fn x.vector.toNat dev

/-- Announce the records that wait, with the tag of the last of them (R129, R190, R254). DESIGN CHOICE: where records of
several QPs wait, R254 gives the one message a tag per QP: it takes that of the record written last (log entry 43). -/
def State.announceDue (s : State) (fn q : Nat) : State :=
  s.announce fn q ((tget (s.fn fn).qsets q).bind (·.lastSt))

/-- A record of a set has been written: moderation decides (R190). -/
def State.moderate (s : State) (p : Qp) (solicit : Bool) : State :=
  let s := s.modQset p.fn p.qset fun x =>
    { x with unannounced := x.unannounced + 1, lastSt := if p.st = 0xFFFF then none else some p.st }
  match s.qsetOf p with
  | none => s
  | some x =>
    if solicit || (x.modCount = 0 && x.modTime = 0) ||
        (x.modCount ≠ 0 && decide (x.unannounced ≥ x.modCount.toNat)) then
      s.announceDue p.fn p.qset
    else s

/-- The completion ring has room (R164). -/
def Qp.cqRoom (p : Qp) : Bool := decide ((p.cqProd - p.cqCons).toNat < 2 ^ p.cqLog2)

/-- Write one completion record (R164, R166, R173, R186). -/
def State.writeRecord (s : State) (q : Nat) (p : Qp) (d : Desc) (st : Byte) : State :=
  let p := p.steered d
  let depth := 2 ^ p.cqLog2
  let addr := p.cqBase.toNat + (p.cqProd.toNat % depth) * 32
  let wrap := (p.cqProd.toNat + 1) % depth = 0
  let s := s.modQp q fun p => { p with cqProd := p.cqProd + 1, phase := if wrap then !p.phase else p.phase }
  let lat := (s.clk.timebase - d.rungAt).toNat
  let s := s.modFn p.fn fun f => { f with latSum := f.latSum + lat, latMax := max f.latMax lat, latN := f.latN + 1 }
  let s := s.pushItem p.fn (.write addr (recordBytes d st p.phase) p.ats (s.qpTph p) .record q (some d.sqi))
  let s := s.occFn 0x0201 1 p.fn
  let s := if st = csFlushed then s.occFn 0x0204 1 p.fn else s
  (s.moderate p d.solicit).resteer q

/-- Write the records that are due, in descriptor order (R186). The first argument bounds their number. A draining QP
writes none (R132). -/
def State.advanceN : Nat → State → Nat → State
  | 0, s, _ => s
  | n + 1, s, q =>
    match s.qp q with
    | none => s
    | some p =>
      if p.state = .draining || !p.cqRoom then s
      else
        match p.descs with
        | [] => s
        | d :: r =>
          match d.status with
          | none => s
          | some st => State.advanceN n ((s.modQp q fun p => { p with descs := r }).writeRecord q p d st) q

/-- Write the records that are due (R186). -/
def State.advance (s : State) (q : Nat) : State := State.advanceN (((s.qp q).map (·.descs.length)).getD 0) s q

/-! ## Events of a QP -/

/-- QP_STATE (R189). -/
def State.qpStateEvent (s : State) (fn q : Nat) (state : Nat) (cause : Byte) : State :=
  s.event fn (s.mkEvent 0x03 q 0x01 (state + cause.toNat * 256))

/-- LATE_WRITE (R197). -/
def State.lateWriteEvent (s : State) (fn kind obj status : Nat) (off : W64) (seq : BitVec 24) : State :=
  let s := s.occFn 0x0205 1 fn
  s.event fn { s.mkEvent 0x02 obj kind off.toNat with status := BitVec.ofNat 16 status, seq := seq }

/-! ## ERROR -/

/-- Source QP of a SEND or RESET_MARK. -/
def sendFrom (p : Packet) : Nat := bits p.offset.toNat 47 32

/-- Destination QP of a SEND. -/
def sendTo (p : Packet) : Nat := bits p.offset.toNat 63 48

/-- The record names a packet's destination QP and source QP. -/
def SendRefusal.names (r : SendRefusal) (p : Packet) : Bool := r.target == sendTo p && r.node == p.src && r.from_ == sendFrom p

/-- Every later unit of a message is refused with this status, and, where a QP has refused it, every later message of the
source QP (R179, R314). -/
def State.refuseFrom (s : State) (p : Packet) (st : Nat) : State :=
  let rest := s.tp.refusing.filter fun r => !r.names p
  let lasting := (s.qp (sendTo p)).isSome
  let r : SendRefusal := { target := sendTo p, node := p.src, from_ := sendFrom p, status := BitVec.ofNat 8 st, lasting := lasting }
  { s with tp := { s.tp with refusing := if lasting || !bitAt p.flags.toNat 5 then rest ++ [r] else rest } }

/-- The refusals of a QP that goes end with it, but for the units of a message begun (R314). -/
def State.endRefusals (s : State) (q : Nat) : State :=
  { s with tp := { s.tp with refusing := s.tp.refusing.map fun r => if r.target == q then { r with lasting := false } else r } }

/-- Status of the refusal that covers a packet of a message (R314). -/
def State.refusalOf (s : State) (p : Packet) : Option Nat :=
  (s.tp.refusing.find? fun r => r.names p && (r.lasting || !bitAt p.flags.toNat 6)).map (·.status.toNat)

/-- A unit of a QP that ends is discarded; what a host-bound one holds of grant space drains, and a message unit not yet
committed is refused (R310, R313). -/
def State.dropLost (st : Nat) (s : State) (n : Nat) : State :=
  match tget s.units n with
  | none => s
  | some u =>
    let s := (s.dropUnit n).drainUnit u
    match u.pkt with
    | none => s
    | some p =>
      if u.kind == UnitKind.recvData && !u.committed then
        let s := s.refuseFrom p st
        if u.cutOff then s else s.refuse p st
      else s

/-- Discard the uncommitted units and the unsent read requests of the descriptors named. -/
def State.dropDescWork (s : State) (q : Nat) (gone : List W16) : State :=
  let mine (o : Owner) : Bool :=
    match o with
    | .unit q' i _ | .get q' i _ => q' == q && gone.contains i
    | _ => false
  let s := (tkeys (tkeep s.units fun _ u => mine u.owner && !u.committed && !u.emitted)).foldl (State.dropLost 0x09) s
  let s := { s with waits := s.waits.filter (fun w => !(w.role == RdRole.payload && (tget s.units w.xunit).isNone)) }
  { s with tp := { s.tp with tx := tmap s.tp.tx fun _ f => { f with queue := f.queue.filter (fun t => !mine t.owner) } } }

/-- What R188 makes of a descriptor when the QP enters ERROR: before, at or after the failing one. -/
def flushDesc (d : Desc) (pos : Ordering) (cause : Byte) : Desc :=
  if d.status.isSome then d
  else
    match pos with
    | .lt => if !d.units.isEmpty || d.matched.isSome then d else { d with status := some csFlushed }
    | .eq => { d with status := some cause }
    | .gt => { d with status := some csFlushed }

/-- Place of each descriptor relative to the failing one, all before it where none is named. -/
def placeDescs (at_ : Option W16) : Bool → List Desc → List (Desc × Ordering)
  | _, [] => []
  | past, d :: r =>
    if past then (d, .gt) :: placeDescs at_ true r
    else if at_ = some d.sqi then (d, .eq) :: placeDescs at_ true r
    else (d, .lt) :: placeDescs at_ false r

/-- A QP fails with a cause at a descriptor (R188, R189), which every descriptor held follows where its own record was
decided before: it enters ERROR, the descriptors complete as R188 says, and one
QP_STATE event is written. A later failure of an earlier descriptor is reported in its own record only. -/
def State.qpError (s : State) (q : Nat) (at_ : Option W16) (cause : Byte) : State :=
  match s.qp q with
  | none => s
  | some p =>
    match p.state with
    | .draining => s
    | .error =>
      match at_ with
      | none => s
      | some i =>
        ((s.modDesc q i fun d => if d.status.isSome then d else { d with status := some cause }).dropDescWork q [i]).advance q
    | .active | .stopped =>
      let placed := placeDescs at_ (at_.any fun i => (p.desc? i).isNone) p.descs
      let gone := (placed.filter fun x => x.2 != .lt && x.1.status.isNone).map (·.1.sqi)
      let descs := placed.map fun x => flushDesc x.1 x.2 cause
      let s := s.modQp q fun p => { p with state := .error, held := false, cause := cause, descs := descs }
      ((s.dropDescWork q gone).qpStateEvent p.fn q 0x02 cause).advance q

/-! ## Units -/

/-- Every unit of the descriptor has been started and has completed: it ends with SUCCESS. -/
def Desc.settle (d : Desc) : Desc :=
  let all := decide (d.nextByte ≥ d.len) && d.units.all (·.2) && !d.units.isEmpty
  if d.status.isNone && all && (d.opcode != 0x04 || d.matched.isSome) then { d with status := some csSuccess } else d

/-- A unit of a descriptor has completed (R538). -/
def State.unitDone (s : State) (q : Nat) (sqi : W16) (no : Nat) : State :=
  (s.modDesc q sqi fun d => ({ d with units := lmod d.units no fun u => (u.1, true) }).settle).advance q

/-- A PUT or SEND unit has failed beyond the host port: LATE_WRITE where R197 applies, else the descriptor's status
(R175, R177). nak tells a NAK with its inbound status from a timeout. -/
def State.unitFailed (s : State) (q : Nat) (sqi : W16) (no : Nat) (nak : Option Nat) (off : W64) (seq : BitVec 24)
    (put ackedUnit : Bool) : State :=
  match s.qp q with
  | none => s
  | some p =>
    let late := if nak.isSome then stFabricNak else stFabricTimeout
    let cause := match nak with
      | some st => csOfInbound st
      | none => csRemoteTimeout
    if p.state = .draining then
      let s := s.modQp q fun p => { p with lateWrites := satInc p.lateWrites, drainFails := satInc p.drainFails }
      s.lateWriteEvent p.fn 0x01 q late off seq
    else if put && !ackedUnit then
      let s := s.modQp q fun p => { p with lateWrites := satInc p.lateWrites, fenceFails := satInc p.fenceFails }
      (s.lateWriteEvent p.fn 0x01 q late off seq).unitDone q sqi no
    else
      let s := if put then s.modQp q fun p => { p with fenceFails := satInc p.fenceFails } else s
      s.qpError q (some sqi) cause

/-- Depth of the token bucket at a rate in MB/s, in bytes (R191). -/
def bucketDepth (rate : Nat) : Nat := max 65536 (rate * 10)

/-- The bucket up to date: RATE × 10^6 B/s is RATE thousandths of a byte in each ns of the local count (R191). -/
def QSet.filled (x : QSet) (now : Nat) : QSet :=
  { x with bucket := min (1000 * bucketDepth x.rate.toNat) (x.bucket + x.rate.toNat * (now - x.fillAt)), fillAt := now }

/-- The set's token bucket holds at least n bytes by now, or the set has no rate (R191). -/
def QSet.mayDraw (x : QSet) (now n : Nat) : Bool := x.rate = 0 || decide ((x.filled now).bucket ≥ 1000 * n)

/-- A unit of n bytes draws its length (R191). -/
def QSet.draw (x : QSet) (now n : Nat) : QSet :=
  if x.rate = 0 then x else { x.filled now with bucket := (x.filled now).bucket - 1000 * n }

/-- Queue the host reads of a staged unit, in order, within Max Read Request Size (R37, R175). -/
def State.readUnit (s : State) (fn q u addr len : Nat) (ats : Bool) : State :=
  let ws := (pieces addr len (s.mrrs fn)).map fun x =>
    ({ fn := fn, role := .payload, obj := q, addr := addr + x.1, len := x.2, xunit := u, off := x.1, ats := ats,
       asked := false } : Wait)
  { s with waits := s.waits ++ ws }

/-- Packet of the unit that starts now: WRITE of a PUT, SEND with FIRST and LAST (R303). -/
def unitPacket (d : Desc) (p : Qp) (q k no : Nat) : Packet :=
  let vc := d.vcOf p
  if d.opcode = 0x01 then mkPacket 0x01 d.node vc k d.tag.toNat (d.off.toNat + d.nextByte)
  else
    let first := d.nextByte = 0
    let last := d.nextByte + k = d.len
    let low := if first then d.len - 1 else no
    let off := (d.off.toNat % 65536) <<< 48 ||| (q % 65536) <<< 32 ||| low
    { mkPacket 0x07 d.node vc (if last then k + 8 else k) d.tag.toNat off with
      flags := BitVec.ofNat 8 (b2n first * 64 + b2n last * 32),
      payload := if last then leBytes 8 d.imm.toNat else [] }

/-- Start one unit of a descriptor: draw the rate, count it, and read its source or send its read request (R175 to R177,
R183, R191). -/
def State.startUnit (s : State) (q : Nat) (p : Qp) (d : Desc) : State :=
  let k := d.unitLen
  let no := d.units.length
  let s := s.modQset p.fn p.qset fun x => x.draw s.clk.localCount k
  let s := s.modQp q fun p => { p with sample := p.sample + 1, unitsEp := p.unitsEp + 1, bytesEp := p.bytesEp + k }
  let s := s.modDesc q d.sqi fun d => { d with nextByte := d.nextByte + k, units := d.units ++ [(k, false)] }
  let s := ((s.occFn 0x0202 1 p.fn).occFn 0x0203 k p.fn).occFn (0x0210 + p.engine % 16) 1 p.fn
  let vc := d.vcOf p
  if d.opcode = 0x02 then
    let pkt := { mkPacket 0x02 d.node vc 4 d.tag.toNat (d.off.toNat + d.nextByte) with payload := beBytes 4 k }
    s.sendPkt pkt (.get q d.sqi no) p.fn
  else
    let s := s.ensureFlow d.node vc (some q) p.fn
    let slice := ((tget s.tp.tx (flowKey d.node vc)).map (·.sleeve.arb)).getD .sla
    let s := if d.opcode = 0x03 && !(p.sendFlows.any fun f => f.1 == d.node && f.2.1 == vc) then
        s.modQp q fun p => { p with sendFlows := p.sendFlows ++ [(d.node, vc, d.tag)] }
      else s
    let u := { blankUnit (if d.opcode = 0x01 then .put else .sendMsg) p.fn (s.groupOf p.fn) slice k with
               obj := q, sqi := d.sqi, unitNo := no, addr := d.iova + d.nextByte, ats := p.ats,
               pkt := some (unitPacket d p q k no), owner := .unit q d.sqi no, acked := d.acked,
               noSnoop := s.asksNs p d }
    let n := s.nextUnit
    (s.addUnit u).readUnit p.fn q n (d.iova + d.nextByte) k p.ats

/-- The epoch is throttled and the function has had its share of the admitted energy: A times its forecast over F, in µJ
(R382). -/
def State.energyHeld (s : State) (fn : Nat) : Bool :=
  s.el.throttle &&
    decide (tgetD s.el.epochCharge fn 0 * s.el.forecast ≥ s.el.admitted * tgetD s.el.fnForecast fn 0 * 1000000000)

/-- The descriptor whose next unit a QP may start, in descriptor order: ACTIVE runs what has been started; ERROR only
what had begun (R188); a full completion ring, a pause or a hold starts nothing (R164, R191, R192). -/
def State.nextToStart (s : State) (q : Nat) : Option (Qp × Desc) :=
  match s.qp q with
  | none => none
  | some p =>
    let can (d : Desc) : Bool :=
      d.started && d.status.isNone && decide (d.nextByte < d.len) &&
        (d.opcode = 0x01 || d.opcode = 0x02 || d.opcode = 0x03)
    let run := match p.state with
      | .active => true
      | .error => true
      | _ => false
    match s.qsetOf p with
    | none => none
    | some x =>
      if !run || s.busBlocked p.fn || !p.cqRoom || x.paused || (s.fn p.fn).paused || s.energyHeld p.fn then none
      else
        match p.descs.find? can with
        | none => none
        | some d =>
          let k := d.unitLen
          let vc := d.vcOf p
          let slice := ((tget s.tp.tx (flowKey d.node vc)).map (·.sleeve.arb)).getD .sla
          if p.state = .error && d.units.isEmpty then none
          else if !x.mayDraw s.clk.localCount k then none
          else if d.opcode ≠ 0x02 && !s.shareRoom slice (s.groupOf p.fn) k then none
          else some (p, d)

/-- Start the units a QP may start. The first argument bounds their number. -/
def State.startUnitsN : Nat → State → Nat → State
  | 0, s, _ => s
  | n + 1, s, q =>
    match s.nextToStart q with
    | none => s
    | some (p, d) => State.startUnitsN n (s.startUnit q p d) q

/-- Start the units a QP may start now: at most the 128 shares of 64 KiB a slice holds, in 4 KiB units. -/
def State.startUnits (s : State) (q : Nat) : State :=
  match s.qp q with
  | none => s
  | some p => State.startUnitsN (p.descs.foldl (fun n d => n + (d.len - d.nextByte) / 4096 + 2) 0) s q

/-- Let every QP of a function start what it may. -/
def State.kickFn (s : State) (fn : Nat) : State :=
  (tkeys (tkeep s.qps fun _ p => p.fn == fn)).foldl State.startUnits s

/-- Let every QP of a group start what it may: staging has drained. -/
def State.kickGroup (s : State) (g : Nat) : State :=
  (tkeys (tkeep s.qps fun _ p => s.groupOf p.fn == g)).foldl State.startUnits s

/-! ## Fetching -/

/-- The QP's context is in the spill region: spilled and not loaded for service, or being promoted (R351, R358). -/
def State.qpAway (s : State) (q : Nat) (p : Qp) : Bool :=
  !p.serviceLoaded &&
    (p.residence == .spilled || (p.residence == .migrating && s.plc.moves.any fun m => m.1 == q && m.2.1 == .promote))

/-- Descriptors the next read of a QP would cover; 0 where fetching has stopped (R164, R165, R181, R188, R191, R192,
R537). One read per QP is outstanding at a time (log entry 15). -/
def State.fetchCount (s : State) (q : Nat) (p : Qp) : Nat :=
  let idx := p.cons.toNat % 2 ^ p.sqLog2
  let addr := p.sqBase.toNat + idx * 64
  let fence := p.descs.any fun d => d.opcode == 0x05 && d.status.isNone
  let paused := (s.fn p.fn).paused || ((s.qsetOf p).map (·.paused)).getD true
  let stopped := match p.state with
    | .active => fence || paused || !p.cqRoom || s.qpAway q p
    | .error => !p.cqRoom
    | _ => true
  if stopped || s.busBlocked p.fn || p.fetching ≠ 0 then 0
  else
    min (min 8 (p.prod - p.cons).toNat)
      (min (64 - p.descs.length)
        (min (2 ^ p.sqLog2 - idx) (min (s.mrrs p.fn / 64) ((4096 - addr % 4096) / 64))))

/-- What names the QP's descriptor read: SQ_CONS at its issue, and the RECOVERs before it (R165). -/
def Qp.readNo (p : Qp) : Nat := p.cons.toNat + 65536 * p.life

/-- Issue a descriptor read for a QP, where it may fetch (R165, R537). -/
def State.fetch (s : State) (q : Nat) : State :=
  match s.qp q with
  | none => s
  | some p =>
    let n := s.fetchCount q p
    if n = 0 then s
    else
      let addr := p.sqBase.toNat + (p.cons.toNat % 2 ^ p.sqLog2) * 64
      let w : Wait := { fn := p.fn, role := .descriptor, obj := q, addr := addr, len := n * 64, xunit := p.readNo,
                        off := 0, ats := p.ats, asked := false }
      { s.modQp q (fun p => { p with fetching := n }) with waits := s.waits ++ [w] }

/-- SQ_CONS moves past a descriptor, taking its doorbell's time. -/
def Qp.take (p : Qp) (d : Desc) : Qp :=
  let rung := match p.rings with
    | [] => 0
    | r :: _ => r.2
  let cons := p.cons + 1
  { p with cons := cons, descs := p.descs ++ [{ d with rungAt := rung }], sample := p.sample + 1,
           epDescs := p.epDescs + 1, epBytes := p.epBytes + d.len, rings := p.rings.dropWhile fun r => r.1 == cons }

/-- Take one fetched descriptor: count and charge it, check it (R172), or flush it in ERROR (R188). -/
def State.takeDesc (s : State) (q : Nat) (b : Bytes) : State :=
  match s.qp q with
  | none => s
  | some p =>
    let d := parseDesc b p.cons
    let s := (s.occFn 0x0200 1 p.fn).charge p.fn 0x16 1
    let s := s.chargeQset p.fn p.qset 0x16 1
    if p.state = .error then (s.modQp q (·.take { d with status := some csFlushed })).advance q
    else
      let remote := d.opcode = 0x01 || d.opcode = 0x02 || d.opcode = 0x03
      let s := s.modQp q fun p =>
        let p := p.take d
        if remote then { p with lastFlow := some (d.node, d.vcOf p) } else p
      if descOk b s.tp.node then s else s.qpError q (some d.sqi) csBadDescriptor

/-- Take the descriptors of a completed read in order, up to and including a FENCE (R181). -/
def State.takeDescs : List Bytes → State → Nat → State
  | [], s, _ => s
  | b :: r, s, q =>
    let active := (s.qp q).map (·.state) != some .error
    let s := s.takeDesc q b
    if active && leAt 0 1 b = 0x05 && (s.qp q).map (·.state) != some .error then s else State.takeDescs r s q

/-- The 64 B entries of a read. -/
def entriesOf : Nat → Bytes → List Bytes
  | 0, _ => []
  | n + 1, b => slice 0 64 b :: entriesOf n (b.drop 64)

/-- A descriptor read has brought its data (R537). A QP stopped meanwhile fetches the entries again once started; what a
read issued before a RECOVER brings is left (R165). -/
def State.fetchDone (s : State) (q no : Nat) (data : Bytes) : State :=
  match s.qp q with
  | none => s
  | some p =>
    if p.readNo ≠ no then s
    else
    let n := p.fetching
    let s := s.modQp q fun p => { p with fetching := 0 }
    let takes := match p.state with
      | .active => true
      | .error => true
      | .stopped => p.held
      | .draining => false
    if takes then State.takeDescs (entriesOf n data) s q else s

/-- A descriptor that cannot be read for its record is flushed unread (R188). -/
def State.takeUnread (s : State) (q : Nat) : State := s.modQp q fun p => p.take { unreadDesc p.cons with status := some csFlushed }

/-- A descriptor read has failed: the first descriptor it covers is the failing one; in ERROR every one it covers is
flushed unread (R188). -/
def State.fetchFailed (s : State) (q no : Nat) (cause : Byte) : State :=
  match s.qp q with
  | none => s
  | some p =>
    if p.readNo ≠ no then s
    else
    let n := p.fetching
    let s := s.modQp q fun p => { p with fetching := 0 }
    match p.state with
    | .draining => s
    | .error => ((List.range n).foldl (fun s _ => s.takeUnread q) s).advance q
    | .active | .stopped => (s.modQp q (·.take (unreadDesc p.cons))).qpError q (some p.cons) cause

/-! ## SQ doorbells (R168) -/

/-- An SQ doorbell meets a QP whose context is at hand: no effect in DRAINING or without a new index, ERROR beyond the
ring, else SQ_PROD takes the index. -/
def State.ringSq (s : State) (q : Nat) (idx : W16) : State :=
  match s.qp q with
  | none => s
  | some p =>
    if p.state = .draining || idx = p.prod then s
    else if (idx - p.cqProd).toNat > min (2 ^ p.sqLog2) 65535 then s.qpError q none csDoorbellError
    else
      s.modQp q fun p =>
        { p with prod := idx, rings := p.rings ++ [(idx, s.clk.timebase)], sample := p.sample + 1 }

/-- A CQ doorbell meets a QP whose context is at hand: none beyond the ring; room ends a stall (R164, R168). -/
def State.ringCq (s : State) (q : Nat) (idx : W16) : State :=
  match s.qp q with
  | none => s
  | some p =>
    if p.state = .draining || (p.cqProd - idx).toNat > 2 ^ p.cqLog2 then s
    else ((s.modQp q fun p => { p with cqCons := idx }).advance q).startUnits q

/-- Apply the doorbell kept for a QP whose context has come back (R351, R358). -/
def State.applyKept (s : State) (q : Nat) : State :=
  let sq := (s.qp q).bind (·.keptDoorbell)
  let cq := (s.qp q).bind (·.keptCq)
  let s := s.modQp q fun p => { p with keptDoorbell := none, keptCq := none }
  let s := match cq with
    | some idx => s.ringCq q idx
    | none => s
  match sq with
  | some idx => s.ringSq q idx
  | none => s

/-! ## Holds and ends -/

/-- Bus Master Enable 0 or D3hot: ACTIVE QPs become held STOPPED (R187, R192). -/
def State.holdQps (s : State) (fn : Nat) : State :=
  { s with qps := tmap s.qps fun _ p =>
      if p.fn == fn && p.state == .active then { p with state := .stopped, held := true } else p }

/-- Both conditions gone: held QPs become ACTIVE and go on from their counters (R187, R192). -/
def State.resumeQps (s : State) (fn : Nat) : State :=
  ({ s with qps := tmap s.qps fun _ p =>
      if p.fn == fn && p.held then { p with state := .active, held := false } else p }).kickFn fn

/-- What becomes of the owner of a QP's traffic when its descriptors go. -/
def Owner.cut (q : Nat) (new : Owner) (o : Owner) : Owner :=
  match o with
  | .get _ _ _ => if o.qp? == some q then .other else o
  | _ => if o.qp? == some q then new else o

/-- Cut the tie of in-flight traffic to the descriptors of a QP: packets already emitted are not recalled, what has not
begun emission as a packet goes. They end in nothing for a QP that goes (R194, R198), and stay its own for one that
RECOVER resets (R132). -/
def State.cutQp (s : State) (q : Nat) (new : Owner) : State :=
  let cut := Owner.cut q new
  let tx := tmap s.tp.tx fun _ f =>
    { f with unacked := f.unacked.map (fun t => { t with owner := cut t.owner }),
             kept := f.kept.map (fun t => { t with owner := cut t.owner }),
             queue := f.queue.filter (fun t => t.owner.qp? != some q) }
  let s := { s with tp := { s.tp with tx := tx, awaits := s.tp.awaits.filter (fun a => a.owner.qp? != some q) } }
  { s with units := tmap s.units fun _ u => { u with owner := cut u.owner } }

/-- Cut every tie of in-flight traffic to a QP that goes (R194, R198). -/
def State.orphanQp (s : State) (q : Nat) : State := s.cutQp q .other

/-- Discard a QP with everything of it that has not begun emission: staged units, held writes, waiting reads (R132,
R194). -/
def State.wipeQp (s : State) (q : Nat) : State :=
  let units := tkeys (tkeep s.units fun _ u => u.owner.qp? == some q && (!u.emitted || u.hostBound))
  let s := units.foldl (State.dropLost 0x02) s
  let s := s.orphanQp q
  let gone := s.tp.held.filter fun h => h.1 == q
  let s := { s with tp := { s.tp with held := s.tp.held.filter (fun h => h.1 != q) } }
  let s := gone.foldl (fun s h =>
    let s := s.refuseFrom h.2.2 0x02
    if h.2.1 then s else s.refuse h.2.2 0x02) s
  let itemOf (i : HItem) : Bool :=
    match i.kind with
    | .write _ _ _ _ .record o _ => o == q
    | _ => false
  let waitOf (w : Wait) : Bool := (w.role == RdRole.payload || w.role == RdRole.descriptor) && w.obj == q
  let free := match (s.qp q).bind (·.record) with
    | some r => s.plc.freeRecords ++ [r]
    | none => s.plc.freeRecords
  let plc := { s.plc with moves := s.plc.moves.filter (fun m => m.1 != q), freeRecords := free }
  let s := s.endRefusals q
  { s with hostq := s.hostq.filter (fun i => !itemOf i), waits := s.waits.filter (fun w => !waitOf w), plc := plc,
           qps := tdel s.qps q }

/-- Discard every QP of a function. -/
def State.wipeQps (s : State) (fn : Nat) : State :=
  (tkeys (tkeep s.qps fun _ p => p.fn == fn)).foldl State.wipeQp s

/-- RECOVER: counters and rings start again, and RESET_MARK goes out behind its earlier units on every flow on which it has
sent a SEND (R166, R179, R187, R314). Reads not yet issued go, and what an issued one brings is left (R165). -/
def State.recoverQp (s : State) (q : Nat) : State :=
  match s.qp q with
  | none => s
  | some p =>
    let s := s.cutQp q (.past q)
    let s := { s with waits := s.waits.filter (fun w => !(w.obj == q && (w.role == RdRole.descriptor || w.role == RdRole.payload))) }
    let s := p.sendFlows.foldl (fun s f =>
      s.sendPkt (mkPacket 0x08 f.1 f.2.1 0 f.2.2.toNat ((q % 65536) <<< 32)) (.past q) p.fn) s
    s.modQp q fun p => { p with state := .stopped, held := false, cause := 0, prod := 0, cons := 0, cqProd := 0,
                                cqCons := 0, phase := true, rings := [], fetching := 0, life := p.life + 1, descs := [], fenceFails := 0,
                                sendFlows := [] }

end Sys2Proof.Machine
end

