-- ==== Sys2Proof/Machine/TransportEnd.lean ====
section
/-! DEFINITION. How packets of ours end (R316, R318, R323), what each end means for its owner (R175 to R177, R204, R205,
R209), congestion control (R325), node epochs (R322, R323), resend and reroute (R317, R319), and silence (R309). -/
namespace Sys2Proof.Machine

/-- How a packet of ours ends: acknowledged, refused with an inbound status, or by its write timeout. -/
inductive PktEnd where
  | success
  | nak (st : Nat)
  | timeout
  deriving DecidableEq, Repr

/-! ## Staging is freed -/

/-- Move the oldest packets of a group that stay in grant space, and the oldest immediate reads that wait for staging,
into its share, while it has room (R310, R365). -/
def State.moveIn (s : State) (a : Arb) (g : Nat) : State :=
  let waiting (s : State) : List Nat :=
    tkeys (tkeep s.units fun _ u => u.group == g && u.slice == a && decide (u.grantUnits > 0))
  (waiting s).foldl (fun s n =>
    match tget s.units n with
    | none => s
    | some u =>
      if (waiting s).head? == some n && s.shareRoom a g u.len then
        (s.modUnit n fun u => { u with grantUnits := 0 }).drainUnit u
      else s) s

/-- A unit leaves staging: its group's share has room again. -/
def State.unstage (s : State) (n : Nat) : State :=
  match tget s.units n with
  | none => s
  | some u =>
    ((((s.dropUnit n).drainUnit u).moveIn u.slice u.group).kickGroup u.group).regrantAll

/-! ## Apertures -/

/-- LATE_WRITE of an aperture (R197, R201). -/
def State.aptLate (s : State) (a : Nat) (x : Apt) (nak : Bool) (off : W64) (seq : BitVec 24) : State :=
  s.lateWriteEvent x.owner 0x02 a (if nak then stFabricNak else stFabricTimeout) off seq

/-- Writes of an aperture staged below a unit number and not yet ended (R205). -/
def State.aptCovered (s : State) (a below : Nat) : Bool :=
  s.units.any fun p => p.2.owner == .aptWrite a && decide (p.1 < below)

/-- A write packet of an aperture has ended: its place among the units, and whether it had been emitted (R197, R205,
R207). -/
def State.aptEnded (s : State) (a order : Nat) (e : PktEnd) (off : W64) (seq : BitVec 24) (emitted : Bool) : State :=
  match tget s.win.apts a with
  | none => s
  | some x =>
    let failed := e != .success
    let covered := x.flushPending && decide (order < x.flushAt)
    let y := { x with
      unack := if emitted then x.unack - 1 else x.unack,
      late := if failed then satInc x.late else x.late,
      drainFails := if failed && x.state == .closing then x.drainFails + 1 else x.drainFails,
      flushFailed := if failed && covered then satInc x.flushFailed else x.flushFailed,
      failsOpen := if failed && !covered then x.failsOpen + 1 else x.failsOpen,
      flushPending := x.flushPending && s.aptCovered a x.flushAt }
    let s := { s with win := { s.win with apts := tput s.win.apts a y } }
    match e with
    | .success => s
    | .nak _ => s.aptLate a x true off seq
    | .timeout => s.aptLate a x false off seq

/-- An aperture read ends in Completer Abort (R204, R451). -/
def State.aptReadAbort (s : State) (id : Nat) : State :=
  match tget s.win.reads id with
  | none => s
  | some r =>
    let mine (o : Owner) : Bool :=
      match o with
      | .aptRead i _ => i == id
      | _ => false
    let apts := tmod s.win.apts r.apt fun x => { x with rdca := satInc x.rdca }
    let s := { s with win := { s.win with reads := tdel s.win.reads id, apts := apts },
                      tp := { s.tp with awaits := s.tp.awaits.filter (fun a => !mine a.owner) } }
    (s.complete r.fn .ca []).aer r.fn aerCompleterAbort true

/-! ## Ends -/

/-- Forget the answer awaited for a request. -/
def State.dropAwait (s : State) (o : Owner) : State :=
  { s with tp := { s.tp with awaits := s.tp.awaits.filter (fun a => a.owner != o) } }

/-- A packet that a QP sent before its RECOVER fails: a LATE_WRITE in a drain (R132) and for a PUT without ACKED (R197); the
record of any other has been written. -/
def State.pastFailed (s : State) (q : Nat) (nak : Option Nat) (p : Packet) (acked : Bool) : State :=
  let put := p.kind == 0x01
  let late := if nak.isSome then stFabricNak else stFabricTimeout
  match s.qp q with
  | none => s
  | some x =>
    if x.state = .draining && (put || p.kind == 0x07) then
      let s := s.modQp q fun x => { x with lateWrites := satInc x.lateWrites, drainFails := satInc x.drainFails }
      s.lateWriteEvent x.fn 0x01 q late p.offset p.seq
    else if put && !acked then
      let s := s.modQp q fun x => { x with lateWrites := satInc x.lateWrites, fenceFails := satInc x.fenceFails }
      s.lateWriteEvent x.fn 0x01 q late p.offset p.seq
    else if put then s.modQp q fun x => { x with fenceFails := satInc x.fenceFails }
    else s

/-- What the end of a packet, by its place among the units, means for its owner. -/
def State.ownerEnd (s : State) (o : Owner) (order : Nat) (e : PktEnd) (p : Packet) (emitted acked : Bool) : State :=
  match o with
  | .unit q i no =>
    let put := p.kind == 0x01
    match e with
    | .success => if put && !acked then s else s.unitDone q i no
    | .nak st => s.unitFailed q i no (some st) p.offset p.seq put acked
    | .timeout => s.unitFailed q i no none p.offset p.seq put acked
  | .get q i _ =>
    match e with
    | .success => s
    | .nak st => (s.dropAwait o).qpError q (some i) (csOfInbound st)
    | .timeout => (s.dropAwait o).qpError q (some i) csRemoteTimeout
  | .past q =>
    match e with
    | .success => s
    | .nak st => s.pastFailed q (some st) p acked
    | .timeout => s.pastFailed q none p acked
  | .aptWrite a => s.aptEnded a order e p.offset p.seq emitted
  | .aptRead id _ => if e = .success then s else s.aptReadAbort id
  | .other => s

/-- The unit was a PUT of an ACKED descriptor. -/
def State.unitAcked (s : State) (u : Option Nat) : Bool := ((u.bind fun n => tget s.units n).map (·.acked)).getD false

/-- A packet of UNACKED ends. -/
def State.endPkt (s : State) (t : TxPkt) (e : PktEnd) : State :=
  let acked := s.unitAcked t.xunit
  let s := match t.xunit with
    | some u => s.unstage u
    | none => s
  s.ownerEnd t.owner t.order e t.pkt true acked

/-- A staged fabric-bound unit ends before its packet was emitted (R318, R323). -/
def State.endUnit (s : State) (n : Nat) (e : PktEnd) : State :=
  match tget s.units n with
  | none => s
  | some u =>
    let s := s.unstage n
    match u.pkt with
    | none => s
    | some p => s.ownerEnd u.owner n e p false u.acked

/-- Staged fabric-bound units of a flow not yet emitted, in order. -/
def State.flowUnits (s : State) (k : Nat) : List Nat :=
  tkeys (tkeep s.units fun _ u => !u.hostBound && !u.emitted && decide (u.landed > 0) &&
    ((u.pkt.map fun p => flowKey p.dst p.vc.toNat) == some k))

/-- A packet of a flow that waits to be emitted ends: one kept across a RETIRE with its unit, or one without unit payload. -/
def State.endWaiting (e : PktEnd) (s : State) (t : TxPkt) : State :=
  match t.xunit with
  | some n => s.endUnit n e
  | none => s.ownerEnd t.owner t.order e t.pkt false false

/-- Every packet that flow k held in f ends the same way: UNACKED in sequence order, then what has not been emitted. -/
def State.endAll (s : State) (k : Nat) (f : TxFlow) (e : PktEnd) : State :=
  let s := f.unacked.foldl (fun s t => s.endPkt t e) s
  let s := (f.kept ++ f.queue).foldl (State.endWaiting e) s
  (s.flowUnits k).foldl (fun s n => s.endUnit n e) s

/-- Every packet of a flow ends the same way; what QPs queue meanwhile waits for its next incarnation. -/
def State.endFlow (s : State) (k : Nat) (e : PktEnd) : State :=
  match tget s.tp.tx k with
  | none => s
  | some f =>
    (s.modFlow k fun f =>
      { f with unacked := [], queue := [], kept := [], sent := 0, limit := 0, granted := false }).endAll k f e

/-! ## Send states end and begin again (R300, R307, R309, R318) -/

/-- Staged units of a flow that are still to be emitted. -/
def State.flowPending (s : State) (k : Nat) : Bool :=
  s.units.any fun u => !u.2.hostBound && !u.2.emitted && ((u.2.pkt.map fun p => flowKey p.dst p.vc.toNat) == some k)

/-- A send state is free for a flow, its own counted as free (R300). -/
def State.txRoomFor (s : State) (k : Nat) : Bool :=
  decide ((s.tp.tx.filter fun p => p.2.live && p.1 != k).length < 16384)

/-- A new incarnation of a flow, with what waits on it, where a send state is free; else it waits for one. -/
def State.reviveFlow (s : State) (k : Nat) : State :=
  match tget s.tp.tx k with
  | none => s
  | some f =>
    if !s.txRoomFor k then (s.modFlow k fun f => { f with silent := true, wait := true }).tpNoState
    else s.openFlow k { TxFlow.fresh (s.pickSleeve k 0) f.fn with queue := f.queue, kept := f.kept }

/-- The flows that wait for send state start, while one is free (R300). -/
def State.startWaiting (s : State) : State :=
  (tkeys (tkeep s.tp.tx fun _ f => f.wait)).foldl (fun s k => if s.txRoom then s.reviveFlow k else s) s

/-- Discard the send state of a flow: nothing is emitted on it until its silence ends; a flow that waits for send state may
start (R300, R309, R318). -/
def State.silence (s : State) (k : Nat) : State :=
  (s.modFlow k fun f => { f with silent := true, granted := false, next := 0, sent := 0, limit := 0, cwnd := 65536,
                                 hold := none, lastCut := 0 }).startWaiting

/-! ## Congestion control (R325) -/

/-- Apply one delay sample to a flow. -/
def State.ccSample (s : State) (k : Nat) (t : TxPkt) : State :=
  if t.resent || t.sampled then s
  else
    match tget s.tp.tx k with
    | none => s
    | some f =>
      let sample := (s.clk.timebase - t.sentAt).toNat
      let target := s.tp.target.toNat
      if sample < target then
        s.modFlow k fun f => { f with cwnd := min (4096 * 256) (f.cwnd + 17 * t.units * 65536 / f.cwnd) }
      else if f.lastCut = 0 || decide ((s.clk.timebase - f.lastCut).toNat ≥ sample) then
        let cut := max (f.cwnd / 2) (f.cwnd * (sample + 4 * target) / (5 * sample))
        (s.modFlow k fun f => { f with cwnd := max (17 * 256) cut, lastCut := s.clk.timebase }).tpCount 0x09
          fun t => { t with ccCut := t.ccCut + 1 }
      else s

/-! ## Acknowledgements -/

/-- A sequence is valid as an answer on a flow (R316). -/
def TxFlow.answers (f : TxFlow) (seq : BitVec 24) : Bool :=
  match f.unacked with
  | [] => false
  | t :: _ => decide ((seq - t.seq + 1).toNat ≤ f.unacked.length)

/-- Packets of UNACKED up to and including a sequence. -/
def TxFlow.coveredBy (f : TxFlow) (seq : BitVec 24) : List TxPkt :=
  match f.unacked with
  | [] => []
  | t :: _ => f.unacked.take (seq - t.seq + 1).toNat

/-- End with success every packet a valid acknowledgement covers, and let the flow emit again (R316). -/
def State.ackUpTo (s : State) (k : Nat) (seq : BitVec 24) : State :=
  match tget s.tp.tx k with
  | none => s
  | some f =>
    let done := f.coveredBy seq
    let s := done.foldl (fun s t => s.ccSample k t) s
    let s := s.modFlow k fun f => { f with unacked := f.unacked.drop done.length }
    (done.foldl (fun s t => s.endPkt t .success) s).pumpFlow k

/-- A refusal names one packet: earlier ones end with success, it ends with its status; one that names none of UNACKED has
no effect (R316). -/
def State.nakAt (s : State) (k : Nat) (seq : BitVec 24) (st : Nat) : State :=
  let named := ((tget s.tp.tx k).map fun f => f.unacked.any (·.seq == seq)).getD false
  let s := if named then s.ackUpTo k (seq - 1) else s
  match (tget s.tp.tx k).bind fun f => f.unacked.head? with
  | none => s
  | some t =>
    if t.seq = seq then
      let s := s.ccSample k t
      let s := s.modFlow k fun f => { f with unacked := f.unacked.drop 1 }
      (s.endPkt t (.nak st)).pumpFlow k
    else s

/-! ## Resend and reroute -/

/-- Every packet of UNACKED is to be resent on the flow's Sleeve, in sequence order; those with unit payload request at
the arbiter again (R317). -/
def State.resendFlow (s : State) (k : Nat) : State :=
  match tget s.tp.tx k with
  | none => s
  | some f =>
    let s := s.modFlow k fun f => { f with unacked := f.unacked.map (fun t => { t with again := true }) }
    let us := f.unacked.filterMap (·.xunit)
    let s := us.foldl (fun s n =>
      ((s.ungrant n).modUnit n fun u => { u with resend := true }).arriveUnit n) s
    s.pumpFlow k

/-- Flows of a failed Sleeve move to the other one if that is UP: counted, resent, with CWND kept (R319). -/
def State.rerouteFlows (s : State) (sl : Sleeve) : State :=
  if !s.slvUp sl.other then s
  else
    (tkeys (tkeep s.tp.tx fun _ f => f.live && f.sleeve == sl)).foldl (fun s k =>
      let s := s.modFlow k fun f => { f with sleeve := sl.other, hold := none }
      let s := (s.flowUnits k).foldl State.ungrant s
      let s := s.tpCount 0x01 fun t => { t with reroute := t.reroute + 1 }
      s.resendFlow k) s

/-! ## Epochs -/

/-- Epoch a is newer than b (R323). -/
def epochNewer (a b : W16) : Bool := decide (1 ≤ (a - b).toNat) && decide ((a - b).toNat ≤ 32767)

/-- An epoch of a node is older than the one known while state with the node is held (R323). -/
def State.epochOlder (s : State) (node : Nat) (e : W16) : Bool :=
  match tget s.tp.known node with
  | some k => s.holdsState node && epochNewer k e
  | none => false

/-- The receive state of a flow goes: what it has accepted counts and is answered there no more. -/
def State.cutRx (s : State) (k : Nat) : State :=
  let units := tmap s.units fun _ u =>
    if u.hostBound && (u.pkt.map fun p => flowKey p.src p.vc.toNat) == some k then { u with cutOff := true } else u
  let held := s.tp.held.map fun h => if flowKey h.2.2.src h.2.2.vc.toNat == k then (h.1, true, h.2.2) else h
  { s with units := units, tp := { s.tp with rx := tdel s.tp.rx k, held := held, stalled := s.tp.stalled.filter (· != k) } }

/-- A newer epoch of a node: receive state from it and send state to it are discarded and every packet to it ends
NOT_READY; what QPs send to it from then on starts with a new WANT (R323). -/
def State.epochChange (s : State) (node : Nat) (e : W16) : State :=
  let gone := tkeep s.tp.tx fun k _ => k / 8 == node
  let s := (tkeys (tkeep s.tp.rx fun k _ => k / 8 == node)).foldl State.cutRx s
  let s := { s with tp := { s.tp with known := tput s.tp.known node e, tx := tkeep s.tp.tx (fun k _ => k / 8 != node) } }
  ((gone.foldl (fun s x => s.endAll x.1 x.2 (.nak 0x05)) s).startWaiting).regrantAll

/-- Learn a node's epoch from a message or packet (R323). -/
def State.noteEpoch (s : State) (node : Nat) (e : W16) : State :=
  match tget s.tp.known node with
  | some k =>
    if !s.holdsState node then { s with tp := { s.tp with known := tput s.tp.known node e } }
    else if epochNewer e k then s.epochChange node e
    else s
  | none => { s with tp := { s.tp with known := tput s.tp.known node e } }

/-- A transport message passes R306; needDst is false for EPOCH and WANT. The message teaches its sender's epoch. -/
def State.tpAccept (s : State) (m : TMsg) (needDst : Bool) : Option State :=
  if m.dst ≠ s.tp.node || (needDst && m.dstEpoch != s.tp.epoch) || s.epochOlder m.src m.srcEpoch then none
  else some (s.noteEpoch m.src m.srcEpoch)

/-- Send EPOCH on a Sleeve that is UP (R322). -/
def State.sendEpoch (s : State) (sl : Sleeve) : State :=
  if s.slvUp sl then s.bypass sl (epochBody s.tp.node s.tp.epoch.toNat) else s

/-- The node epoch increments: all transport state goes and EPOCH is sent on every UP Sleeve (R322). -/
def State.epochRaise (s : State) : State :=
  let s := { s with tp := { s.tp with epoch := s.tp.epoch + 1, tx := [], rx := [], awaits := [], stalled := [], held := [] } }
  (s.sendEpoch .a).sendEpoch .b

/-! ## Retirement of receive state -/

/-- Retire receive state and keep a retirement record; the oldest of 4,096 gives way (R309). -/
def State.retireRx (s : State) (k : Nat) : State :=
  match tget s.tp.rx k with
  | none => s
  | some r =>
    let s := s.cutRx k
    let rec' := (s.tp.retired.filter fun p => p.1 != k) ++ [(k, r.expect)]
    { s with tp := { s.tp with retired := rec'.drop (rec'.length - 4096) } }

/-- At least 10 us of the local count have passed since then. -/
def State.tenMicros (s : State) (last : Option Nat) : Bool :=
  match last with
  | some t => decide (s.clk.localCount ≥ t + 10000)
  | none => true

/-- Answer a packet for a flow without receive state with RETIRE, at most once per 10 us (R309). -/
def State.answerRetire (s : State) (node vc : Nat) (sl : Sleeve) (fn : Option Nat) : State :=
  let k := flowKey node vc
  if s.tenMicros (tget s.tp.lastRetire k) then
    ({ s with tp := { s.tp with lastRetire := tput s.tp.lastRetire k s.clk.localCount } }).sendRetire node vc sl fn
  else s

/-- Send an EPOCH toward a node whose packet named another epoch of ours, at most once per 10 us (R312). -/
def State.answerEpoch (s : State) (node : Nat) (sl : Sleeve) : State :=
  if s.tenMicros (tget s.tp.lastEpochTo node) then
    ({ s with tp := { s.tp with lastEpochTo := tput s.tp.lastEpochTo node s.clk.localCount } }).tpMsg sl none
      (epochBody s.tp.node s.tp.epoch.toNat)
  else s

end Sys2Proof.Machine
end

