-- ==== Sys2Proof/Machine/WindowOps.lean ====
section
/-! DEFINITION. Shared operations of the window unit: byte lanes (R214, R215), apertures by offset (R199), the checks of
an inbound request (R208), responses, delayed-read slots (R216 to R218) and prefetched bytes (R219). -/
namespace Sys2Proof.Machine

/-! ## Byte lanes -/

/-- Reverse every 8 B element of a byte string of whole elements. -/
def revEights : Nat → Bytes → Bytes
  | 0, b => b
  | n + 1, b => if b.isEmpty then [] else (b.take 8).reverse ++ revEights n (b.drop 8)

/-- The bytes of one run after the rule: unchanged under address-invariant, mirrored within their element under
data-invariant (R215). -/
def laneData (dataInv : Bool) (b : Bytes) : Bytes :=
  if !dataInv || b.length ≤ 1 then b else if b.length ≤ 8 then b.reverse else revEights (b.length / 8 + 1) b

/-- The runs an access splits into under a rule, by 8 B elements: offset within the access, offset on the far side, length
(R214). -/
def laneRuns8 (off len : Nat) : List (Nat × Nat × Nat) :=
  let lane := off % 8
  if lane + len ≤ 8 then [(0, off / 8 * 8 + (8 - (lane + len)), len)]
  else
    let head := if lane = 0 then 0 else 8 - lane
    let body := (len - head) / 8 * 8
    let tail := len - head - body
    (if head = 0 then [] else [(0, off / 8 * 8, head)]) ++
    (if body = 0 then [] else [(head, off + head, body)]) ++
    (if tail = 0 then [] else [(head + body, off + head + body + (8 - tail), tail)])

/-- The runs of an access under a window's or aperture's rule (R214). -/
def laneRuns (dataInv : Bool) (off len : Nat) : List (Nat × Nat × Nat) :=
  if len = 0 then []
  else if !dataInv || len = 1 || ((len = 2 || len = 4 || len = 8) && off % len = 0) then [(0, off, len)]
  else laneRuns8 off len

/-! ## Apertures -/

/-- The open aperture of a function whose range holds every byte of an access (R199). -/
def State.aptAt (s : State) (fn off len : Nat) : Option (Nat × Apt) :=
  s.win.apts.find? fun p =>
    p.2.owner == fn && p.2.state == .opened && decide (p.2.bar2 ≤ off) && decide (off + len ≤ p.2.bar2 + p.2.size)

/-- Size of a function's BAR2 in bytes (R43, R44, R46); PF1 has none. -/
def State.bar2Size (s : State) (fn : Nat) : Nat :=
  if fn = 0 then 2 ^ (30 + s.prov.bar2Log) else if isVf fn then 2 ^ 30 else 0

/-- Offset of the aperture control page (R200). -/
def State.ctlPage (s : State) (fn : Nat) : Nat := s.bar2Size fn - 0x10000

/-- An aperture enters closing: it decodes as unmapped, its flush register is at reset (R205, R206). -/
def Apt.closing (x : Apt) : Apt :=
  { x with state := .closing, drainFails := 0, flushPending := false, flushFailed := 0, flushAt := 0, failsOpen := 0 }

/-- Change an aperture. -/
def State.modApt (s : State) (n : Nat) (g : Apt → Apt) : State :=
  { s with win := { s.win with apts := tmod s.win.apts n g } }

/-- Change an inbound window. -/
def State.modIwin (s : State) (n : Nat) (g : Iwin → Iwin) : State :=
  { s with win := { s.win with iwins := tmod s.win.iwins n g } }

/-- RULE of an inbound window. -/
def State.winRule (s : State) (w : Nat) : Bool := ((tget s.win.iwins w).map (·.rule)).getD false

/-! ## Inbound requests -/

/-- The open window that holds a fabric offset (R208 step 1). -/
def State.iwinAt (s : State) (off : Nat) : Option (Nat × Iwin) :=
  s.win.iwins.find? fun p => p.2.state == .opened && decide (p.2.foff ≤ off) && decide (off < p.2.foff + p.2.size)

/-- Steps 2 to 7 of R208 on a request of len bytes at a fabric offset; 0 for OK. -/
def State.inStatus (s : State) (x : Iwin) (p : Packet) (off len : Nat) (writing : Bool) : Nat :=
  let limit := if writing then 4096 else 262144
  if off + len > x.foff + x.size then 0x02
  else if !bitAt x.access.toNat (if writing then 1 else 0) then 0x02
  else if x.source ≠ 0xFFFFF && x.source ≠ p.src then 0x02
  else if p.tag ≠ x.tag then 0x02
  else if len = 0 || len > limit then 0x08
  else if !(s.fn x.owner).cfg.bme || (s.fn x.owner).cfg.d3hot then 0x05
  else 0x00

/-- Count a request that failed step 1, or steps 2 to 7, of R208. -/
def State.inDenied (s : State) (w : Option Nat) : State :=
  match w with
  | none => { s with win := { s.win with noWin := satInc s.win.noWin } }
  | some n => s.modIwin n fun x => { x with deny := satInc x.deny }

/-! ## Responses -/

/-- A READ_RSP without data (R313). -/
def rspNone (node vc : Nat) (seq : BitVec 24) (off : W64) (st : Nat) : Packet :=
  { mkPacket 0x03 node vc 0 seq.toNat off.toNat with status := BitVec.ofNat 8 st }

/-- A COLLECT_RSP without data (R313): OFFSET as in COLLECT with length 0. -/
def collectNone (node vc : Nat) (off : W64) (st : Nat) : Packet :=
  { mkPacket 0x06 node vc 0 0 (off.toNat / 65536 * 65536) with status := BitVec.ofNat 8 st }

/-- READ_READY (R217, R303). -/
def readyPacket (d : DrSlot) (handle st : Nat) : Packet :=
  { mkPacket 0x04 d.node d.vc 0 d.seq.toNat (handle <<< 48 ||| d.len) with status := BitVec.ofNat 8 st }

/-- An immediate read that fails: its unit goes and READ_RSP carries the status (R211, R245). -/
def State.readFail (s : State) (u st : Nat) : State :=
  match tget s.units u with
  | none => s
  | some x =>
    let s := { s with waits := s.waits.filter (fun w => !(w.role == RdRole.inbound && w.xunit == u)) }
    let s := s.unstage u
    match x.pkt with
    | none => s
    | some p => s.sendPkt (rspNone p.dst p.vc.toNat (BitVec.ofNat 24 p.tag.toNat) p.offset st) .other x.fn

/-- An accepted inbound write that may not be translated is refused (R210). -/
def State.writeFail (s : State) (u st : Nat) : State :=
  match tget s.units u with
  | none => s
  | some x =>
    let s := s.unstage u
    match x.pkt with
    | none => s
    | some p => if x.cutOff then s else s.refuse p st

/-! ## Delayed-read slots -/

/-- Owner of a slot's window. -/
def State.slotOwner (s : State) (d : DrSlot) : Nat := ((tget s.win.iwins d.win).map (·.owner)).getD 0

/-- Free a slot and its staging (R216, R218). -/
def State.freeSlot (s : State) (h : Nat) : State :=
  match tget s.win.slots h with
  | none => s
  | some d =>
    let g := s.iwinGroup d.win
    let s := { s with win := { s.win with slots := tdel s.win.slots h },
                      waits := s.waits.filter (fun w => !(w.role == RdRole.delayed && w.obj == h)) }
    (s.kickGroup g).regrantAll

/-- A host read of the delayed read begun at a place has failed: READ_READY carries the status and the slot is free (R216,
R245). -/
def State.slotFail (s : State) (h order st : Nat) : State :=
  match tget s.win.slots h with
  | none => s
  | some d =>
    if d.order ≠ order then s
    else
      let owner := s.slotOwner d
      (s.freeSlot h).sendPkt (readyPacket d h st) .other owner

/-! ## Prefetched bytes -/

/-- Discard the prefetched bytes that satisfy a condition; each discarded byte is counted in its window (R219). -/
def State.dropPrefetch (s : State) (c : Prefetch → Bool) : State :=
  let gone := s.win.prefetch.filter c
  let s := gone.foldl (fun s x => s.modIwin x.win fun w => { w with pfd := w.pfd + BitVec.ofNat 64 x.len }) s
  let hit (w : Wait) : Bool := w.role == RdRole.prefetch && gone.any fun x => x.win == w.obj && x.order == w.xunit
  { s with win := { s.win with prefetch := s.win.prefetch.filter (fun x => !c x) },
           waits := s.waits.filter (fun w => !hit w) }

/-- Cut every tie of emitted packets and awaited answers to a function's apertures (R198, R206). -/
def State.orphanApts (s : State) (fn : Nat) : State :=
  let mine (o : Owner) : Bool :=
    match o with
    | .aptWrite a => ((tget s.win.apts a).map (·.owner)) == some fn
    | .aptRead id _ => ((tget s.win.reads id).map (·.fn)) == some fn
    | _ => false
  let cut (o : Owner) : Owner := if mine o then .other else o
  let tx := tmap s.tp.tx fun _ f =>
    { f with unacked := f.unacked.map (fun t => { t with owner := cut t.owner }),
             kept := f.kept.map (fun t => { t with owner := cut t.owner }),
             queue := f.queue.map (fun t => { t with owner := cut t.owner }) }
  { s with tp := { s.tp with tx := tx, awaits := s.tp.awaits.filter (fun a => !mine a.owner) },
           units := tmap s.units (fun _ u => { u with owner := cut u.owner }) }

/-- Close windows at once: slots and prefetched bytes are freed, nothing is drained (R206, R212). -/
def State.closeWindows (s : State) (fn : Nat) (toPool : Bool) : State :=
  let ws := tkeys (tkeep s.win.iwins fun _ x => x.owner == fn && x.alloc)
  let hs := tkeys (tkeep s.win.slots fun _ d => ws.contains d.win)
  let s := hs.foldl State.freeSlot s
  let s := (s.dropPrefetch fun x => ws.contains x.win).orphanApts fn
  let shutA (x : Apt) : Apt :=
    if x.owner == fn && x.alloc then
      { x with state := .closed, alloc := !toPool, flushPending := false, flushFailed := 0, flushAt := 0,
               failsOpen := 0, drainFails := 0, readLimit := 0, unack := 0 }
    else x
  let shutI (x : Iwin) : Iwin :=
    if x.owner == fn && x.alloc then { x with state := .closed, alloc := !toPool, drainDiscards := 0 } else x
  let rds := tkeep s.win.reads fun _ r => r.fn != fn
  { s with win := { s.win with apts := tmap s.win.apts (fun _ x => shutA x), iwins := tmap s.win.iwins (fun _ x => shutI x),
                               reads := rds, lastEnd := s.win.lastEnd.filter (fun x => !ws.contains x.1) } }

end Sys2Proof.Machine
end

