-- ==== Sys2Proof/Machine/Apertures.lean ====
section
/-! DEFINITION. What the host sends to BAR2 (R199 to R207): how a request is met, aperture writes and reads, the flush
registers of the control page, and posted credits. -/
namespace Sys2Proof.Machine

/-- How a request to a function's BAR2 is met before it is decoded. -/
inductive BarGate where
  | served
  | refused (aer : Bool)
  | abort
  deriving DecidableEq, Repr

/-- The safe state gives Completer Abort (R51); D3hot gives Unsupported Request (R203); a function with Memory Space
Enable 0, in FLR, or a VF in ERROR matches no BAR (R432, R451). -/
def State.barGate (s : State) (fn : Nat) : BarGate :=
  if s.boot.mode = .safe then .abort
  else if !s.operating || !s.fnExists fn || !s.memSpace fn || (s.fn fn).flr || s.tdispIs fn .error then .refused true
  else if (s.fn fn).cfg.d3hot then .refused false
  else .served

/-- A request to BAR2, which PF1 does not have. -/
def State.bar2Gate (s : State) (fn : Nat) : BarGate :=
  match s.barGate fn with
  | .served => if fn = 1 then .refused true else .served
  | g => g

/-- The function named, or PF0 where it does not exist: whose AER status takes an error (R451). -/
def State.aerFn (s : State) (fn : Nat) : Nat := if s.fnExists fn then fn else 0

/-- Unsupported Request: AER where the table of R451 has it, a completion for a non-posted request, and REJECTS of a
VF in RUN or ERROR (R430, R451). -/
def State.unsupported (s : State) (fn : Nat) (nonPosted aer : Bool) : State :=
  let s := if aer then s.aer (s.aerFn fn) aerUnsupportedRequest nonPosted else s
  let s := if s.tdispIs fn .run then s.modTenant (vfOf fn) fun t => { t with rejects := satInc t.rejects } else s
  if nonPosted then s.complete fn .ur [] else s

/-- A request that BAR2 does not serve. -/
def State.barRefuse (s : State) (fn : Nat) (nonPosted : Bool) : BarGate → State
  | .served => s
  | .abort => if nonPosted then s.complete fn .ca [] else s
  | .refused aer => s.unsupported fn nonPosted aer

/-- WIN_NOMAP counts an access outside the open apertures and the control page's registers; a read completes with zeros
(R199, R200). -/
def State.noMap (s : State) (fn len : Nat) (isRead : Bool) : State :=
  let s := { s with win := { s.win with noMap := satInc s.win.noMap } }
  if isRead then s.complete fn .sc (zeros len) else s

/-! ## Lanes of an access (R199, R202, R214) -/

/-- The runs of an access of len bytes at a BAR2 offset: offset within the access, fabric offset, length. -/
def aptRuns (x : Apt) (off len : Nat) : List (Nat × Nat × Nat) :=
  (laneRuns x.rule (off - x.bar2) len).map fun r => (r.1, x.fbase + r.2.1, r.2.2)

/-- The write packets of an access: offset within the access, fabric offset, length. -/
def aptPieces (x : Apt) (off len : Nat) : List (Nat × Nat × Nat) :=
  ((aptRuns x off len).map fun r =>
    (piecesOf (r.2.2 / 4096 + 2) r.2.1 0 r.2.2 4096).map fun p => (r.1 + p.1, r.2.1 + p.1, p.2)).flatten

/-- First fabric offset of an access's runs, and the one behind the last. -/
def runSpan : List (Nat × Nat × Nat) → Nat × Nat
  | [] => (0, 0)
  | r :: l => l.foldl (fun b x => (min b.1 x.2.1, max b.2 (x.2.1 + x.2.2))) (r.2.1, r.2.1 + r.2.2)

/-- The read requests of an access, one per 4 KiB-bounded piece: fabric offset, length (R202). -/
def aptAsks (runs : List (Nat × Nat × Nat)) : List (Nat × Nat) :=
  let b := runSpan runs
  (piecesOf ((b.2 - b.1) / 4096 + 2) b.1 0 (b.2 - b.1) 4096).map fun p => (b.1 + p.1, p.2)

/-- The host's bytes of an aperture read whose requests have brought these bytes of the fabric. -/
def AptRead.bytes (r : AptRead) (fabric : Bytes) : Bytes :=
  (r.runs.map fun x => laneData r.rule (slice (x.2.1 - (runSpan r.runs).1) x.2.2 fabric)).flatten

/-- READ_LIMIT in force in us: 20 where it was opened with 0, 0 while closed (R202, R207). -/
def Apt.limitInForce (x : Apt) : Nat := if x.state = .closed then 0 else if x.readLimit = 0 then 20 else x.readLimit

/-! ## The flush registers (R200, R205) -/

/-- The aperture whose WIN_FLUSH an access of a function names whole. -/
def State.flushReg (s : State) (fn off len : Nat) : Option Nat :=
  let n := (off - s.ctlPage fn) / 64
  match tget s.win.apts n with
  | some x => if len = 4 && off = s.ctlPage fn + 64 * n && x.alloc && x.owner = fn then some n else none
  | none => none

/-- WIN_FLUSH as it reads. -/
def Apt.flushValue (x : Apt) : Nat := b2n x.flushPending <<< 31 ||| x.flushFailed.toNat <<< 8

/-- START of WIN_FLUSH (R205): the flush point covers every write accepted so far. -/
def State.flushStart (s : State) (fn a : Nat) : State :=
  match s.bar2Gate fn, tget s.win.apts a with
  | .served, some x =>
    if x.owner = fn && x.state = .opened && !s.postedHeld && s.link.state ≠ .down then
      let before := if x.flushPending then x.flushFailed.toNat else 0
      s.modApt a fun x => { x with flushPending := s.aptCovered a s.nextUnit, flushAt := s.nextUnit,
                                   flushFailed := satOfNat 16 (before + x.failsOpen), failsOpen := 0 }
    else s
  | _, _ => s

/-! ## Writes (R201) -/

/-- Stage one write packet of an aperture, its bytes landed. -/
def State.stageWrite (s : State) (a : Nat) (x : Apt) (foff : Nat) (d : Bytes) : State :=
  let s := s.ensureFlow x.node x.vc.toNat none x.owner
  let slice := ((tget s.tp.tx (flowKey x.node x.vc.toNat)).map (·.sleeve.arb)).getD .sla
  let p := mkPacket 0x01 x.node x.vc.toNat d.length x.tag.toNat foff
  let u := { blankUnit .aptWrite x.owner (s.groupOf x.owner) slice d.length with
             obj := a, pkt := some p, owner := .aptWrite a }
  let n := s.nextUnit
  (s.addUnit u).landBytes n 0 d

/-- The owner group's share of the flow's slice has room for an access. -/
def State.aptRoom (s : State) (x : Apt) (len : Nat) : Bool :=
  let slice := ((tget s.tp.tx (flowKey x.node x.vc.toNat)).map (·.sleeve.arb)).getD (s.pickSleeve (flowKey x.node x.vc.toNat) 0).arb
  s.shareRoom slice (s.groupOf x.owner) len

/-- A write TLP finds the share of its aperture full. -/
def State.aptFull (s : State) (fn off len : Nat) : Bool :=
  s.bar2Gate fn == .served &&
    match s.aptAt fn off len with
    | some (_, x) => !s.aptRoom x len
    | none => false

/-- A host write TLP to BAR2 is accepted: it releases the host. -/
def State.aptAccept (fn off : Nat) (data : Bytes) (s : State) : State :=
  match s.bar2Gate fn with
  | .served =>
    let s := s.tlpRcvd fn data.length
    match s.flushReg fn off data.length, s.aptAt fn off data.length with
    | some a, _ => if bitAt (leNat data) 0 then s.flushStart fn a else s
    | none, none => s.noMap fn data.length false
    | none, some (a, x) =>
      (aptPieces x off data.length).foldl (fun s p => s.stageWrite a x p.2.1 (laneData x.rule (slice p.1 p.2.2 data))) s
  | g => (s.tlpRcvd fn 0).barRefuse fn false g

/-- A host write TLP to BAR2. One that finds its share full waits, and until it goes in no posted request is accepted. -/
def State.aptWrite (fn off : Nat) (data : Bytes) (s : State) : State :=
  if s.link.state = .down || data.isEmpty || s.postedHeld then s
  else if s.aptFull fn off data.length then { s with win := { s.win with held := some (fn, off, data) } }
  else s.aptAccept fn off data

/-- The write that waits at the host port goes in once its share has room. -/
def State.heldWrite (s : State) : State :=
  match s.win.held with
  | none => s
  | some (fn, off, data) =>
    if s.aptFull fn off data.length then s else ({ s with win := { s.win with held := none } }).aptAccept fn off data

/-! ## Reads (R202, R204) -/

/-- Send the read requests of an aperture read. -/
def State.aptAsk (s : State) (id : Nat) (x : Apt) (ps : List (Nat × Nat)) : State :=
  (ps.zipIdx).foldl (fun s p =>
    let pkt := { mkPacket 0x02 x.node x.vc.toNat 4 x.tag.toNat p.1.1 with payload := beBytes 4 p.1.2 }
    s.sendPkt pkt (.aptRead id p.2) x.owner) s

/-- A host read TLP to BAR2; at most 256 non-posted requests are held at once. -/
def State.aptRead (fn off len htag : Nat) (s : State) : State :=
  if s.link.state = .down || len = 0 || len > 4096 || s.nonPostedFull then s
  else
    let s := s.tlpRcvd fn 0
    match s.bar2Gate fn with
    | .served =>
      match s.flushReg fn off len, s.aptAt fn off len with
      | some a, _ => s.complete fn .sc (leBytes 4 (((tget s.win.apts a).map (·.flushValue)).getD 0))
      | none, none => s.noMap fn len true
      | none, some (a, x) =>
        let runs := aptRuns x off len
        let ps := aptAsks runs
        let r : AptRead := { apt := a, fn := fn, htag := htag, len := len, rule := x.rule, runs := runs,
                             pieces := ps.map fun p => (p.1, p.2, none) }
        let id := s.win.nextRead
        let s := { s with win := { s.win with reads := tput s.win.reads id r, nextRead := id + 1 } }
        s.aptAsk id x ps
    | g => s.barRefuse fn true g

/-- Every piece of an aperture read has answered: the completion goes out. -/
def State.aptReadDone (s : State) (id : Nat) (r : AptRead) : State :=
  if r.pieces.all (·.2.2.isSome) then
    ({ s with win := { s.win with reads := tdel s.win.reads id } }).complete r.fn .sc
      (r.bytes (r.pieces.map fun (x : Nat × Nat × Option Bytes) => x.2.2.getD []).flatten)
  else s

/-- A BAR2 access that no open aperture holds whole, and that is no register of the control page (R199, R200). -/
def State.unmapped (fn off len : Nat) (isRead : Bool) (s : State) : State :=
  let noCredit := if isRead then s.nonPostedFull else s.postedHeld
  if s.link.state = .down || len = 0 || noCredit || (s.aptAt fn off len).isSome || (s.flushReg fn off len).isSome then s
  else
    let s := s.tlpRcvd fn (if isRead then 0 else len)
    match s.bar2Gate fn with
    | .served => s.noMap fn len isRead
    | g => s.barRefuse fn isRead g

end Sys2Proof.Machine
end

