-- ==== Sys2Proof/Machine/Pump.lean ====
section
/-! DEFINITION. What follows a command by itself: host reads that wait for a translation or a tag are issued (R195,
R236), host-bound writes are emitted in order with the translation of that moment (R192, R241), and a use that faults has
the outcome of R245. -/
namespace Sys2Proof.Machine

/-! ## Translation faults -/

/-- Count a translation fault and report it in a TRANSLATION_FAULT event (R245, R246). -/
def State.xltFault (s : State) (fn kind obj addr : Nat) (write : Bool) (cause : Nat) : State :=
  let s := s.modFn fn fun f => { f with xltFaults := satInc f.xltFaults }
  let s := s.occFn 0x0703 1 fn
  s.event fn (s.mkEvent 0x04 obj kind (addr / 4096 * 4096 + b2n write * 2048 + cause % 16))

/-- A spill access of a QP has failed by translation: it is tried again at the next epoch (R356). -/
def State.spillFault (s : State) (q addr : Nat) (write : Bool) (cause : Nat) : State :=
  let s := { s with plc := { s.plc with spillFail := satInc s.plc.spillFail, retry := s.plc.retry ++ [q] } }
  s.xltFault 0 0x00 0 addr write cause

/-- Window of an inbound unit. -/
def State.winOf (s : State) (u : Nat) : Nat := ((tget s.units u).map (·.obj)).getD 0

/-- A waiting host read faults on the ATS path (R245). -/
def State.readFault (s : State) (w : Wait) (cause : Nat) : State :=
  match w.role with
  | .descriptor => (s.fetchFailed w.obj w.xunit csTranslationFault).xltFault w.fn 0x01 w.obj w.addr false cause
  | .payload =>
    let o := ((tget s.units w.xunit).map (·.owner)).getD .other
    let s := match o with
      | .unit q i _ => s.qpError q (some i) csTranslationFault
      | _ => s
    s.xltFault w.fn 0x01 w.obj w.addr false cause
  | .inbound => (s.readFail w.xunit 0x03).xltFault w.fn 0x03 (s.winOf w.xunit) w.addr false cause
  | .delayed =>
    let win := ((tget s.win.slots w.obj).map (·.win)).getD 0
    (s.slotFail w.obj w.xunit 0x03).xltFault w.fn 0x03 win w.addr false cause
  | .prefetch =>
    (s.dropPrefetch fun x => x.win == w.obj && x.order == w.xunit).xltFault w.fn 0x03 w.obj w.addr false cause
  | .spill => s.spillFault w.obj w.addr false cause
  | .image => s
  | .translation => (s.writeFail w.xunit 0x03).xltFault w.fn 0x03 w.obj w.addr true cause

/-- Put an event back among the held ones, in the order of arising. -/
def insertHeld (h : Held) : List Held → List Held
  | [] => [h]
  | j :: r => if h.stamp < j.stamp then h :: j :: r else j :: insertHeld h r

/-- An event decided and not emitted returns to its part of the holdback (R88, R98); an OVERFLOW entry is made again when
the held ones have been written (R101). -/
def State.holdAgain (s : State) (i : HItem) (e : Event) (final : Bool) : State :=
  if e.type = 0x0F then s
  else s.modPocket i.fn fun p => { p with held := insertHeld { ev := e, final := final, stamp := i.stamp } p.held }

/-- An event entry faults: EVQ_FAULT is set and the event is held again (R98, R245). -/
def State.eventFault (s : State) (i : HItem) (e : Event) (final : Bool) : State :=
  let s := s.modFn i.fn fun f => { f with xltFaults := satInc f.xltFaults }
  let s := s.occFn 0x0703 1 i.fn
  (s.modPocket i.fn fun p => { p with evqFault := true }).holdAgain i e final

/-- A record or a spill write faults on the ATS path: it is discarded (R241, R245). -/
def State.writeFault (s : State) (i : HItem) (role : WrRole) (addr obj : Nat) (sqi : Option W16) (cause : Nat) : State :=
  match role with
  | .record => (s.qpError obj sqi csTranslationFault).xltFault i.fn 0x01 obj addr true cause
  | .spill => s.spillFault obj addr true cause
  | .payload | .inbound | .event | .msix => s

/-- A host-bound unit faults on the ATS path: it is discarded whole (R21, R241, R245). -/
def State.unitFault (s : State) (n : Nat) (u : XUnit) (addr cause : Nat) : State :=
  let s := s.unstage n
  match u.owner with
  | .unit q i _ | .get q i _ => (s.qpError q (some i) csTranslationFault).xltFault u.fn 0x01 u.obj addr true cause
  | _ => s.xltFault u.fn (if u.kind == UnitKind.inWrite then 0x03 else 0x01) u.obj addr true cause

/-! ## Host reads -/

/-- Issue a host read under the next tag (R36, R231), with No Snoop where the descriptor asks for it (R171). -/
def State.issueRead (s : State) (w : Wait) (addr : Nat) (translated : Bool) : State :=
  let t := s.nextTag w.fn
  let ns := w.role == RdRole.payload && ((tget s.units w.xunit).map (·.noSnoop)).getD false
  let tg : Tag := { fn := w.fn, state := .outstanding, role := w.role, obj := w.obj, addr := w.addr, len := w.len,
                    xunit := w.xunit, off := w.off, translated := translated }
  (({ s with tags := tput s.tags (tagKey w.fn t) tg }).emitTlp w.fn (.mrd t addr w.len translated ns w.role)).tlpSent w.fn 0

/-- Flow of an inbound read, that of the request it answers or reads ahead of, and its place among the units. -/
def State.readFlow (s : State) (w : Wait) : Option (Nat × Nat) :=
  match w.role with
  | .inbound => (tget s.units w.xunit).bind fun u => u.pkt.map fun p => (flowKey p.dst p.vc.toNat, w.xunit)
  | .delayed => (tget s.win.slots w.obj).map fun d => (flowKey d.node d.vc, d.order)
  | .prefetch =>
    (s.win.prefetch.find? fun x => x.win == w.obj && x.order == w.xunit).map fun x => (flowKey x.node x.vc, x.order)
  | _ => none

/-- Inbound writes of a flow, staged before a place, not yet emitted on the host port. -/
def State.writesOpen (s : State) (k before : Nat) : Bool :=
  s.units.any fun p => p.2.kind == .inWrite && decide (p.1 < before) &&
    (p.2.pkt.map fun x => flowKey x.src x.vc.toNat) == some k

/-- An inbound read waits for the earlier inbound writes of its flow (R211). -/
def State.readOrdered (s : State) (w : Wait) : Bool :=
  match s.readFlow w with
  | none => true
  | some (k, before) => !s.writesOpen k before

/-- An immediate read waits until its group's share holds its data (R365). -/
def State.readStaged (s : State) (w : Wait) : Bool :=
  w.role != RdRole.inbound || ((tget s.units w.xunit).map (·.grantUnits)).getD 0 == 0

/-- A read waits no more. -/
def State.unwait (s : State) (w : Wait) : State := { s with waits := s.waits.erase w }

/-- A waiting use has asked for its translation, or has tried to. -/
def State.waitMiss (s : State) (w : Wait) (len : Nat) (write : Bool) : State :=
  match s.xmiss w.fn w.addr len write w.asked with
  | (true, s) => { s with waits := s.waits.map fun x => if x == w then { w with asked := true } else x }
  | (false, s) => s

/-- The first page of an inbound write's range has a translation that permits it (R210, R244): the rest is tried next. -/
def State.writePermit (s : State) (w : Wait) : State :=
  let k := pieceLen w.addr w.len 4096
  if w.len ≤ k then (s.unwait w).modUnit w.xunit fun u => { u with xlated := true }
  else { s with waits := s.waits.map fun x =>
    if x == w then { w with addr := w.addr + k, len := w.len - k, asked := false } else x }

/-- Try the translation that an inbound write waits for. -/
def State.tryWrite (s : State) (w : Wait) : Bool × State :=
  let k := pieceLen w.addr w.len 4096
  match s.xlook w.fn w.addr k w.ats true with
  | .untranslated | .hit _ _ => (true, s.writePermit w)
  | .fault c => (true, (s.unwait w).readFault w c)
  | .miss => (false, if s.busBlocked w.fn then s else s.waitMiss w k true)

/-- Try one waiting read. false: it goes on waiting, and the state says what it asked for meanwhile. -/
def State.tryRead (s : State) (w : Wait) : Bool × State :=
  if w.role = .translation then s.tryWrite w
  else if !s.readStaged w || s.busBlocked w.fn || !s.tagAllowed w.fn || !s.readOrdered w then (false, s)
  else
    match s.xlook w.fn w.addr w.len w.ats false with
    | .untranslated => (true, (s.unwait w).issueRead w w.addr false)
    | .hit pa _ => (true, ((s.unwait w).xtouch w.fn w.addr w.len w.asked).issueRead w pa true)
    | .fault c => (true, (s.unwait w).readFault w c)
    | .miss => (false, s.waitMiss w w.len false)

/-- Try the waiting reads in order; the reads of one object keep their order behind one that waits. -/
def State.pumpReads : List Wait → List (Nat × Nat × RdRole) → State → State
  | [], _, s => s
  | w :: r, blocked, s =>
    let key := (w.fn, w.obj, w.role)
    if blocked.contains key || !s.waits.contains w then State.pumpReads r blocked s
    else
      match s.tryRead w with
      | (true, s) => State.pumpReads r blocked s
      | (false, s) => State.pumpReads r (key :: blocked) s

/-! ## Host-bound writes -/

/-- Emit one memory write TLP (R37, R231, R253). -/
def State.emitWrite (s : State) (fn addr : Nat) (data : Bytes) (a : WrAttr) (role : WrRole) : State :=
  (s.emitTlp fn (.mwr addr data a role)).tlpSent fn data.length

/-- The entry as it is written: an OVERFLOW entry counts the losses up to now (R101). -/
def Pocket.entryOf (p : Pocket) (e : Event) : Event :=
  if e.type = 0x0F then { e with count := p.lostNow, time := p.lostTime } else e

/-- Emit an event entry, advance TAIL, and raise the event vector (R95, R97); an OVERFLOW entry clears EVQ_OVF, and what
was held behind it may go (R101). -/
def State.eventOut (s : State) (fn : Nat) (e : Event) (addr : Nat) (translated : Bool) : State :=
  let p := (s.fn fn).pocket
  let v := s.evqVector fn
  let dev := tget s.plc.numa 0
  let a : WrAttr := { translated := translated, ro := false, ns := false, st := s.tphTag fn v dev false }
  let s := s.emitWrite fn addr (eventBytes (p.entryOf e) p.phase) a .event
  let next := (p.tail.toNat + 1) % p.ringSize
  let s := s.modPocket fn fun p => { p with tail := BitVec.ofNat 12 next, phase := if next = 0 then !p.phase else p.phase }
  let s := s.msixTrigger fn v dev
  if e.type = 0x0F then (s.modPocket fn fun p => { p with ovf := false, lostNow := 0, lostTime := 0 }).releaseEvents fn else s

/-- A host-bound item has asked for its translation, or has tried to. -/
def State.itemMiss (s : State) (i : HItem) (addr len : Nat) : State :=
  match s.xmiss i.fn addr len true i.asked with
  | (true, s) => { s with hostq := s.hostq.map fun x => if x == i then { i with asked := true } else x }
  | (false, s) => s

/-- Try one host-bound item. false: it goes on waiting. -/
def State.tryItem (s : State) (i : HItem) : Bool × State :=
  let t : State := { s with hostq := s.hostq.erase i }
  match i.kind with
  | .msg addr data st =>
    let a : WrAttr := { translated := false, ro := false, ns := false, st := st }
    (true, t.emitWrite i.fn addr.toNat (leBytes 4 data.toNat) a .msix)
  | .write addr data ats st role obj sqi =>
    let a (x : Bool) : WrAttr := { translated := x, ro := false, ns := false, st := st }
    match s.xlook i.fn addr data.length ats true with
    | .untranslated => (true, t.emitWrite i.fn addr data (a false) role)
    | .hit pa _ => (true, (t.xtouch i.fn addr data.length i.asked).emitWrite i.fn pa data (a true) role)
    | .fault c => (true, t.writeFault i role addr obj sqi c)
    | .miss => (false, s.itemMiss i addr data.length)
  | .event e final =>
    let addr := s.eventAddr i.fn
    if s.eventsHeld i.fn then (true, t.holdAgain i e final)
    else
      match s.xlook i.fn addr 32 true true with
      | .untranslated => (true, t.eventOut i.fn e addr false)
      | .hit pa _ => (true, (t.xtouch i.fn addr 32 i.asked).eventOut i.fn e pa true)
      | .fault _ => (true, t.eventFault i e final)
      | .miss => (false, s.itemMiss i addr 32)

/-- A condition of R98 holds this event entry: it waits in the holdback, not here. -/
def State.goesBack (s : State) (i : HItem) : Bool :=
  match i.kind with
  | .event _ _ => s.eventsHeld i.fn
  | _ => false

/-- A payload held under R192 that arose before an item is still to be emitted (R192). -/
def State.behindHeld (s : State) (i : HItem) : Bool :=
  s.units.any fun u => u.2.heldBack && u.2.fn == i.fn && decide (u.2.commitNo < i.stamp)

/-- Try the host-bound items in order; a function's items keep their order behind one that waits, and event entries that a
condition of R98 holds return to the holdback. -/
def State.pumpItems : List HItem → List Nat → State → State
  | [], _, s => s
  | i :: r, blocked, s =>
    if !s.hostq.contains i then State.pumpItems r blocked s
    else if !s.goesBack i && (blocked.contains i.fn || s.busBlocked i.fn || s.behindHeld i) then
      State.pumpItems r (i.fn :: blocked) s
    else
      match s.tryItem i with
      | (true, s) => State.pumpItems r blocked s
      | (false, s) => State.pumpItems r (i.fn :: blocked) s

/-! ## Host-bound units (R21, R37, R210, R214, R253) -/

/-- The memory writes of a host-bound unit: address, data. -/
def State.hostTlps (s : State) (u : XUnit) : List (Nat × Bytes) :=
  ((laneRuns u.rule u.addr u.len).map fun r =>
    let d := laneData u.rule (slice r.1 r.2.2 u.data)
    (pieces r.2.1 r.2.2 (s.mps u.fn)).map fun p => (r.2.1 + p.1, slice p.1 p.2 d)).flatten

/-- Ask for the translations that a unit's writes lack. -/
def State.unitMiss (s : State) (n : Nat) (u : XUnit) (lacking : List (Nat × Bytes)) : State :=
  lacking.foldl (fun s t =>
    match s.xmiss u.fn t.1 t.2.length true (((tget s.units n).map (·.xasked)).getD true) with
    | (true, s) => s.modUnit n fun u => { u with xasked := true }
    | (false, s) => s) s

/-- Emit one memory write of a unit under the translation of this moment. -/
def State.unitWrite (u : XUnit) (s : State) (t : Nat × Bytes) : State :=
  let role := if u.kind == UnitKind.inWrite then WrRole.inbound else WrRole.payload
  let a (x : Bool) : WrAttr := { translated := x, ro := (s.fn u.fn).cfg.relaxed, ns := u.noSnoop, st := u.st }
  match s.xlook u.fn t.1 t.2.length u.ats true with
  | .hit pa _ => (s.xtouch u.fn t.1 t.2.length u.xasked).emitWrite u.fn pa t.2 (a true) role
  | _ => s.emitWrite u.fn t.1 t.2 (a false) role

/-- A host-bound unit leaves whole as memory writes, once every translation it needs is there; its QP's unit has then
completed (R21, R538). -/
def State.emitHost (s : State) (n : Nat) (u : XUnit) : State :=
  let ts := s.hostTlps u
  let use (t : Nat × Bytes) : XUse := s.xlook u.fn t.1 t.2.length u.ats true
  let faults := ts.filterMap fun t =>
    match use t with
    | .fault c => some (t.1, c)
    | _ => none
  let lacking := ts.filter fun t => use t == .miss
  match faults with
  | (addr, c) :: _ => s.unitFault n u addr c
  | [] =>
    if !lacking.isEmpty then s.unitMiss n u lacking
    else
      let s := (ts.foldl (State.unitWrite u) s).unstage n
      match u.owner with
      | .unit q i no | .get q i no => s.unitDone q i no
      | _ => s

/-- Units whose emission waited for a translation go once it is there. -/
def State.pumpUnits (s : State) : State :=
  (tkeys (tkeep s.units fun _ u => u.xasked)).foldl (fun s n =>
    match tget s.units n with
    | some u => if u.xasked && u.granted.isSome && !s.busBlocked u.fn then s.emitHost n u else s
    | none => s) s

/-- Rounds of the pump: what a round decides, the next one emits. -/
def State.pumpN : Nat → State → State
  | 0, s => s
  | n + 1, s =>
    let s := s.pumpUnits
    if s.hostq.isEmpty && s.waits.isEmpty then s
    else
      let s := State.pumpItems s.hostq [] s
      State.pumpN n (State.pumpReads s.waits [] s)

/-- Emit and issue what may go. A command decides at most a write, its record, the record's message and an event after
it, each found by the round before. -/
def State.pump (s : State) : State := State.pumpN 6 s

/-! ## Recovery from a hold (R192) -/

/-- Nothing blocks the function any more: what its host-bound units held goes first, in the order in which it arose,
together with its held events. -/
def State.resumeFn (s : State) (fn : Nat) : State :=
  if s.busBlocked fn then s
  else
    let units := tmap s.units fun _ u =>
      if u.fn == fn && u.hostBound && u.committed && !u.emitted then { u with heldBack := true } else u
    let s := { s with units := units, stamp := s.stamp + 1 }
    (s.modFn fn fun f => { f with recovering := some s.stamp }).releaseEvents fn

/-- What a function held has been emitted. -/
def State.recovered (s : State) (fn t : Nat) : Bool :=
  !(s.units.any fun u => u.2.heldBack && u.2.fn == fn) && !(s.hostq.any fun i => i.fn == fn && decide (i.stamp < t))

/-- What was held has gone: the QPs resume, then one message per pending vector follows. -/
def State.recoverFn (s : State) (fn : Nat) : State :=
  match (s.fn fn).recovering with
  | none => s
  | some t =>
    if s.busBlocked fn || !s.recovered fn t then s
    else ((s.modFn fn fun f => { f with recovering := none }).resumeQps fn).msixRelease fn

/-- Functions that recover go on. -/
def State.recoverFns (s : State) : State := (tkeys s.fns).foldl State.recoverFn s

/-- Bus Master Enable 0, D3hot or a TDISP hold: the function's QPs are held, and a recovery under way is over (R192). -/
def State.holdFn (s : State) (fn : Nat) : State :=
  let units := tmap s.units fun _ u => if u.fn == fn then { u with heldBack := false } else u
  (({ s with units := units }).modFn fn fun f => { f with recovering := none }).holdQps fn

end Sys2Proof.Machine
end

