-- ==== Sys2Proof/Machine/LinkOps.lean ====
section
/-! DEFINITION. A Sleeve's training words and physical lanes (R278, R279), its going DOWN, retraining and shedding of
lanes (R287 to R291, R319), the fixing and release of the node (R281), and the Belt bypass and its queue (R333 to R335). -/
namespace Sys2Proof.Machine

/-! ## Widths -/

/-- Largest width of 8, 6, 4, 2 not above a number of lanes; 0 below 2 (R279). -/
def widthFor (n : Nat) : Nat := if n ≥ 8 then 8 else if n ≥ 6 then 6 else if n ≥ 4 then 4 else if n ≥ 2 then 2 else 0

/-- The n lowest-numbered lanes of a mask (R279). -/
def lowestLanes (mask : Byte) (n : Nat) : Byte :=
  let step (acc : Nat × Byte) (l : Nat) : Nat × Byte :=
    if acc.1 > 0 && bitAt mask.toNat l then (acc.1 - 1, acc.2 ||| BitVec.ofNat 8 (2 ^ l)) else acc
  ((List.range 8).foldl step (n, 0)).2

/-- Lanes of a mask. -/
def laneCount (mask : Byte) : Nat := popcount mask.toNat 8

/-! ## Physical lanes (R278, R279, R291) -/

/-- The peer's transmit lane that a receive lane carries; the same number before any has been seen. -/
def Slv.peerLane (v : Slv) (l : Nat) : Nat := (((v.rxMap.drop l).headD none)).getD l

/-- Lanes of the Y7's receiver as the peer's transmit lanes. -/
def Slv.toPeer (v : Slv) (m : Byte) : Byte :=
  (List.range 8).foldl (fun r l => if bitAt m.toNat l then r ||| BitVec.ofNat 8 (2 ^ (v.peerLane l % 8)) else r) 0

/-- The peer's transmit lanes as lanes of the Y7's receiver. -/
def Slv.fromPeer (v : Slv) (m : Byte) : Byte :=
  (List.range 8).foldl (fun r l => if bitAt m.toNat (v.peerLane l % 8) then r ||| BitVec.ofNat 8 (2 ^ l) else r) 0

/-- The receive lanes that carry the n lowest-numbered of the peer's lanes in a mask: those its transmitter uses (R279). -/
def Slv.lowestRx (v : Slv) (m : Byte) (n : Nat) : Byte := m &&& v.fromPeer (lowestLanes (v.toPeer m) n)

/-- Widths and lanes that training settles on (R279, R291). -/
def Slv.trained (v : Slv) (t : Trained) : Slv :=
  let rx := t.rxLocked &&& ~~~v.retiredRx
  let tx := t.txLocked &&& ~~~v.retiredTx
  let rw := widthFor (laneCount rx)
  let tw := widthFor (laneCount tx)
  { v with rate := t.rate, bestRate := t.best, rxAvail := rw, txAvail := tw, rxLanes := rw, txLanes := tw,
           rxMask := v.lowestRx rx rw, rxSet := v.lowestRx rx rw, txMask := lowestLanes tx tw, txSet := lowestLanes tx tw }

/-! ## Training (R278 to R280, R287) -/

/-- Highest rate a Sleeve offers: SLA_CTRL.MAX_RATE, within the margin plan's (R278, R481). -/
def State.slvMax (s : State) (sl : Sleeve) : BitVec 2 :=
  let plan := match sl with
    | .a => s.lin.slaRate
    | .b => s.lin.slbRate
  let own := (s.slv sl).maxRate
  if own.toNat ≤ plan.toNat then own else plan

/-- RATES of a transmitter that offers every rate up to one. -/
def ratesTo (top : BitVec 2) : BitVec 3 := BitVec.ofNat 3 (2 ^ top.toNat - 1)

/-- The highest rate up to one that a peer offers, 0 for none. -/
def commonRate (top : Nat) (peer : BitVec 3) : Nat :=
  if decide (top ≥ 3) && bitAt peer.toNat 2 then 3 else if decide (top ≥ 2) && bitAt peer.toNat 1 then 2
  else if decide (top ≥ 1) && bitAt peer.toNat 0 then 1 else 0

/-- A training word (R278): SYNC, TX_LANE, RATES, RATE, COEF_REQ, COEF_STS, RX_MASK, RX_READY, RETRAIN, ACK_SEQ, CHECK. -/
def trainWord (lane : Nat) (rates : BitVec 3) (rate : BitVec 2) (req sts rxMask : Byte) (ready retrain : Bool)
    (ack : BitVec 12) : W64 :=
  let top := 0xC5 <<< 48 ||| (lane % 8) <<< 45 ||| rates.toNat <<< 42 ||| rate.toNat <<< 40 ||| req.toNat <<< 32 |||
    sts.toNat <<< 24 ||| rxMask.toNat <<< 16 ||| b2n ready <<< 15 ||| b2n retrain <<< 14 ||| ack.toNat
  BitVec.ofNat 64 (top <<< 8 ||| crc8 (beBytes 7 top))

/-- A received training word with the polarity of its lane put right, where its CHECK is good; the Bool tells an inverted
lane (R278). -/
def trainRead (w : W64) : Option (Bool × W64) :=
  let good (x : W64) : Bool := x.toNat >>> 56 == 0xC5 && crc8 (beBytes 7 (x.toNat >>> 8)) == x.toNat % 256
  if good w then some (false, w) else if good (~~~w) then some (true, ~~~w) else none

/-- TX_LANE of a training word. -/
def wordLane (w : W64) : Nat := bits w.toNat 55 53

/-- RATES of a training word. -/
def wordRates (w : W64) : BitVec 3 := BitVec.ofNat 3 (bits w.toNat 52 50)

/-- Key of a start coefficient in MRAM: port (0 host, 1 Sleeve A, 2 Sleeve B), rate and lane. -/
def eqKey (port rate lane : Nat) : Nat := port * 1024 + rate * 64 + lane

/-- The start coefficients stored for the first n lanes of a port at a rate, where every one is (R39, R280). -/
def Lin.startCoefs (l : Lin) (port rate n : Nat) : Option (List W32) :=
  (List.range n).mapM fun i => tget l.eq (eqKey port rate i)

/-- Store the final coefficients of a port at a rate, lane by lane (R39, R280). -/
def Lin.storeFinals (l : Lin) (port rate : Nat) (c : List W32) : Lin :=
  { l with eq := (c.zipIdx).foldl (fun t x => tput t (eqKey port rate x.2) x.1) l.eq }

/-- The eight transmit lanes send their training words, and training starts from the coefficients stored for them at the
rate proposed (R278, R280). locked names the receive lanes locked so far. The requests of the coefficient search are free
values: no rule gives the search (log entry 51). -/
def State.trainSend (s : State) (sl : Sleeve) (locked : Byte) (ready retrain : Bool) : State :=
  let v := s.slv sl
  let req := s.takeFree
  let sts := req.2.takeFree
  let rates := ratesTo (s.slvMax sl)
  let ack := if retrain then v.ackSeq else 0xFFF
  let byte (w : W64) (l : Nat) : Byte := BitVec.ofNat 8 (w.toNat >>> (8 * l))
  let words := (List.range 8).map fun l =>
    trainWord l rates v.tryRate (byte req.1 l) (byte sts.1 l) (v.toPeer locked) ready retrain ack
  let coefs := (List.range 8).map fun l => tget s.lin.eq (eqKey (sl.num + 1) v.tryRate.toNat l)
  sts.2.emit (.signal sl (.training words coefs))

/-! ## The node (R281) -/

/-- A Sleeve counts as down for the release of the node. -/
def Slv.nodeFree (v : Slv) : Bool :=
  match v.state with
  | .disabled | .down | .detect | .train | .align => true
  | _ => false

/-- The node is released once both Sleeves count as down (R281). -/
def State.checkNode (s : State) : State :=
  if s.tp.nodeFixed && s.slvA.nodeFree && s.slvB.nodeFree then
    { s with tp := { s.tp with nodeFixed := false, node := 0 } }
  else s

/-! ## Down and retrain -/

/-- The wear ledger's day counts something (R478). -/
def State.wear (s : State) (f : DayWear → DayWear) : State := { s with lin := { s.lin with today := f s.lin.today } }

/-- Count an item of a Sleeve in its counter and in Buttonhole (R489). -/
def State.slvCount (s : State) (sl : Sleeve) (item : Nat) (f : Slv → Slv) : State :=
  (s.modSlv sl f).occ (slvClass sl + item) 1 none none

/-- Transport messages of a Sleeve not acknowledged or not sent, oldest first (R319). -/
def Slv.tpMessages (v : Slv) : List Bytes :=
  (v.buffer.map (·.body) ++ v.bypassQ).filter fun m =>
    let t := (m.headD 0).toNat
    decide (0x20 ≤ t) && decide (t ≤ 0x25)

/-- What a Sleeve keeps of itself on DOWN: the replay buffer, the exchange and the link parameters go (R288). -/
def Slv.cleared (v : Slv) : Slv :=
  { v with rate := 0, rxLanes := 0, txLanes := 0, rxMask := 0, txMask := 0, helloRcvd := false, nodeOk := false,
           assigned := 0, keysIn := false, encOn := false, txOn := false, rxOn := false, txNext := none, rxNext := none,
           groupOpen := false, expect := 0, nakPending := false, accepted := false,
           oldest := v.nextSeq, lastNak := false, lastAck := 0xFFF, timerReplays := 0, shedMask := 0,
           shedWide := false, shedAsk := none, quietAsked := false, inParam := false, macTimes := [], rxGroup := [],
           rxPkt := none, buffer := [], bypassQ := [], txSet := 0, rxSet := 0, mgmt := [], mgmtNext := 0, session := [], sessionUp := [],
           stalling := false, eye := List.replicate 8 0 }

/-- Declare a Sleeve DOWN (R288): LINK_DOWN with its reason unless none is due, the replay buffer discarded, the event and
count of DOWN, and its flows and unacknowledged messages moved to the other Sleeve if that is UP (R319). -/
def State.slvDown (s : State) (sl : Sleeve) (reason : Option Nat) : State :=
  let v := s.slv sl
  if v.state = .disabled || v.state = .down || v.state = .fray then s
  else
    let s := match reason with
      | some r => if v.rate = 0 then s else s.idleSend sl (linkDownMsg r)
      | none => s
    let msgs := v.tpMessages
    let s := s.modSlv sl fun v => { v.cleared with state := if v.enable then .down else .disabled }
    let s := (s.slvCount sl 7 fun v => { v with downCnt := satInc v.downCnt }).slvEvent sl 0
    let s := s.checkNode
    let s := if s.slvUp sl.other then
        (s.modSlv sl.other fun w => { w with bypassQ := msgs ++ w.bypassQ }).bypassDrain sl.other
      else s
    s.rerouteFlows sl

/-- Waiting messages without those of the SHED exchange. -/
def Slv.shedless (v : Slv) : List Bytes := v.bypassQ.filter fun m => m.headD 0 != 0x03

/-- Start a retrain (R287): no flit is sent, training words with RETRAIN 1 and ACK_SEQ go out, and pending SHED exchanges
are cancelled (R289). One that starts in PARAM returns there. -/
def State.slvRetrain (s : State) (sl : Sleeve) : State :=
  let v := s.slv sl
  if v.state = .up || v.state = .quiet || v.state = .param then
    let top := BitVec.ofNat 2 (commonRate (s.slvMax sl).toNat v.peerRates)
    let s := s.modSlv sl fun v =>
      { v with state := .retrain, inParam := v.state == .param, tryRate := if top = 0 then v.rate else top,
               shedMask := 0, shedWide := false, shedAsk := none, quietAsked := false, bypassQ := v.shedless, retrainEp := true }
    let s := s.wear fun d => { d with retrains := d.retrains + 1 }
    let s := (s.slvCount sl 6 fun v => { v with retrainCnt := satInc v.retrainCnt }).slvEvent sl 1
    s.trainSend sl 0 false true
  else s

/-- Retire a receive lane: RETIRED_RX, its event, and SHED REQUEST without the lane while that leaves a legal width; else
the link retrains, or goes on retraining without it (R291). -/
def State.slvRetire (s : State) (sl : Sleeve) (lane : Nat) : State :=
  let v := s.slv sl
  let bit := BitVec.ofNat 8 (2 ^ (lane % 8))
  if v.retiredRx &&& bit ≠ 0 then s
  else
    let left := v.rxMask &&& ~~~bit
    let w := widthFor (laneCount left)
    let s := s.wear fun d => { d with retired := d.retired + 1 }
    let s := (s.modSlv sl fun v => { v with retiredRx := v.retiredRx ||| bit, rxAvail := min v.rxAvail w }).slvEvent sl 2
    if v.state = .retrain then s.trainSend sl left false true
    else if v.rxMask &&& bit = 0 then s
    else if v.state = .param || (v.state = .up && w = 0) then s.slvRetrain sl
    else if v.state = .up then s.bypass sl (shedMsg 0x01 (lowestLanes (v.toPeer left) w))
    else s

/-! ## Shedding (R289, R290) -/

/-- A mask names a legal width of lanes that are not retired (R290). -/
def maskOk (mask retired : Byte) : Bool :=
  widthFor (laneCount mask) == laneCount mask && laneCount mask != 0 && mask &&& retired == 0

/-- Change the transmit width: SHED SWITCH goes out, and the transmitter switches after the flit that carries it (R289). -/
def State.shedTo (s : State) (sl : Sleeve) (mask : Byte) : State :=
  (s.modSlv sl fun v => { v with shedMask := mask, shedWide := false }).bypass sl (shedMsg 0x03 mask)

/-- Begin to widen: the training pattern goes out on the added lanes (R289). -/
def State.shedWiden (s : State) (sl : Sleeve) (mask : Byte) : State :=
  let v := s.slv sl
  (s.emit (.signal sl (.addedLanes (mask &&& ~~~v.txMask)))).modSlv sl fun v => { v with shedMask := mask, shedWide := true }

/-- Ask the peer for another receive width: its lowest-numbered lanes of those locked at training and not retired (R289,
R383). -/
def State.shedReceive (s : State) (sl : Sleeve) (n : Nat) : State :=
  let v := s.slv sl
  let have_ := v.rxSet &&& ~~~v.retiredRx
  let m := min n (widthFor (laneCount have_))
  if v.state ≠ .up || m = 0 || m = v.rxLanes then s else s.bypass sl (shedMsg 0x01 (lowestLanes (v.toPeer have_) m))

/-- Answer a SHED REQUEST: REFUSE, SWITCH to fewer lanes (those left out are retired at the peer's request), or the steps
that widen (R289 to R291). -/
def State.shedAnswer (s : State) (sl : Sleeve) (mask : Byte) : State :=
  let v := s.slv sl
  if !maskOk mask v.retiredTx || mask &&& ~~~v.txSet ≠ 0 then s.bypass sl (shedMsg 0x04 0)
  else if mask &&& ~~~v.txMask ≠ 0 then s.shedWiden sl mask
  else
    let gone := v.txMask &&& ~~~mask
    let out := v.retiredTx ||| gone
    (s.modSlv sl fun v =>
      { v with retiredTx := out, txAvail := widthFor (laneCount (v.txSet &&& ~~~out)) }).shedTo sl mask

/-- A SHED REQUEST that arrived during a change of ours is answered after it (R289). -/
def State.shedWaiting (s : State) (sl : Sleeve) : State :=
  let v := s.slv sl
  match v.shedAsk with
  | some m =>
    if v.state = .up && v.shedMask = 0 then (s.modSlv sl fun v => { v with shedAsk := none }).shedAnswer sl m else s
  | none => s

/-! ## What a Sleeve does of itself (R259, R276, R283, R295) -/

/-- The Sleeve of output frames: A, or B when A is down (R227). -/
def State.frameSleeve (s : State) : Sleeve := if s.slvUp .a then .a else .b

/-- A packet is held back by the outstanding limit alone: a committed unit of the transmit queue, a packet without unit
payload, or an output frame. -/
def State.packetLimited (s : State) (sl : Sleeve) : Bool :=
  ((s.arb sl.arb).queue.any fun n =>
    match tget s.units n with
    | none => false
    | some u =>
      match u.pkt, tget s.tp.tx u.flow with
      | some p, some f =>
        u.committed && !u.hostBound && (u.resend || f.admits (windowUnits p.len)) && s.slvLimited sl (packetFlits p.len)
      | _, _ => false) ||
  (sl == s.frameSleeve && s.sti.due.any fun p => s.slvLimited sl (packetFlits p.len)) ||
  s.tp.tx.any fun x =>
    x.2.sleeve == sl &&
      match x.2.unacked.find? (·.again) with
      | some t => t.xunit.isNone && s.slvLimited sl (packetFlits t.pkt.len)
      | none =>
        match s.nextPlain x.1 x.2 with
        | some t => x.2.admitsBehind (s.reserved x.1) t.units && s.slvLimited sl (packetFlits t.pkt.len)
        | none => false

/-- The sender stalls at the outstanding limit: SLA_EVT.STALL is set as it begins to (R283). -/
def State.slvStalls (s : State) (sl : Sleeve) : State :=
  let v := s.slv sl
  let now := (!v.bypassQ.isEmpty && s.slvLimited sl 1) || s.packetLimited sl
  let s := if now && !v.stalling then s.slvEvent sl 7 else s
  if now = v.stalling then s else s.modSlv sl fun v => { v with stalling := now }

/-- What a Sleeve does while no packet flit is due: it sends its waiting messages, answers the request that waited, and
closes an open group; and it notes a stall. -/
def State.linkRest (s : State) (sl : Sleeve) : State :=
  (State.closeGroupN 65 ((s.shedWaiting sl).bypassDrain sl) sl).slvStalls sl

/-! ## The Belt -/

/-- The Device Serial Number as 8 bytes (R44, R329). -/
def serialBytes : Bytes := beBytes 8 Config.serial.toNat

/-- The first four bytes of every Belt message (R329). -/
def beltMsg (type dst src hops : Nat) (body : Bytes) : Bytes := slot16 type (beBytes 1 dst ++ beBytes 1 src ++ beBytes 1 hops ++ body)

/-- The 256 B of a Belt flit (R327): ACK 0xFFF, NAK 0, sequence 0; ROUTE travels in PKT_ONLY, the others in CTRL (R329). -/
def beltWire (body payload : Bytes) : Bytes := flitBytes (flitHeader 0xFFF false (if payload.isEmpty then 1 else 5) 0) 0 body payload

/-- A flit of this node leaves on BELT_OUT. -/
def State.beltOut (s : State) (body payload : Bytes) : State := s.emits [.belt body payload, .beltForward (beltWire body payload)]

/-- JOIN (R329). -/
def State.joinMsg (s : State) : Bytes :=
  beltMsg 0x43 0x00 s.belt.position.toNat 0 (node3 s.tp.node ++ serialBytes)

/-- LEAVE with a reason (R329). -/
def State.leaveMsg (s : State) (reason : Nat) : Bytes :=
  beltMsg 0x44 0x00 s.belt.position.toNat 0 (beBytes 1 reason ++ serialBytes)

/-- ROUTE to the belt master (R329, R331). -/
def State.routeMsg (s : State) (cls dstNode : Nat) (payload : Bytes) : Bytes :=
  beltMsg 0x40 0x00 s.belt.position.toNat 0
    (beBytes 1 cls ++ beBytes 2 payload.length ++ node3 s.tp.node ++ node3 dstNode)

/-- Queue a Belt flit of this node; one that finds 32 queued is dropped and counted (R333). -/
def State.beltSend (s : State) (body payload : Bytes) : State :=
  if s.belt.txQueue.length ≥ 32 then { s with belt := { s.belt with txDrop := satInc s.belt.txDrop } }
  else { s with belt := { s.belt with txQueue := s.belt.txQueue ++ [(body, payload)] } }

/-- The conditions for an open bypass (R334). -/
def State.bypassMay (s : State) : Bool :=
  (s.dom .blt).state == .run && s.belt.rxLock && s.belt.txReady && s.belt.enable && !s.belt.overHops &&
    (s.boot.mode == .boot || s.boot.mode == .oper)

/-- Open the bypass; JOIN is the first inserted flit (R335). -/
def State.bypassOpen (s : State) : State :=
  if !s.belt.bypassOpen && s.bypassMay then
    { s with belt := { s.belt with bypassOpen := true, txQueue := (s.joinMsg, []) :: s.belt.txQueue.take 31 } }
  else s

/-- Close the bypass, with LEAVE and its reason where the cause allows one (R335). -/
def State.bypassClose (s : State) (leave : Option Nat) : State :=
  if s.belt.bypassOpen then
    let s := match leave with
      | some r => s.beltOut (s.leaveMsg r) []
      | none => s
    { s with belt := { s.belt with bypassOpen := false, bypassClose := s.belt.bypassClose + 1, txQueue := [] } }
  else s

/-- EPOCH and output frames take the Belt while both Sleeves are out of UP (R341). -/
def State.fallBack (s : State) : Bool := !s.slvUp .a && !s.slvUp .b

/-- Send EPOCH on every UP Sleeve, or on the Belt while both are out of UP (R322, R341). -/
def State.announceEpoch (s : State) : State :=
  if s.fallBack then
    let m := epochBody s.tp.node s.tp.epoch.toNat
    s.beltSend (s.routeMsg 0x03 0 m) m
  else (s.sendEpoch .a).sendEpoch .b

/-- The node epoch increments (R322, R341). -/
def State.raiseEpoch (s : State) : State :=
  let s := s.epochRaise
  if s.fallBack then s.announceEpoch else s

end Sys2Proof.Machine
end

