-- ==== Sys2Proof/Machine/Tenancy.lean ====
section
/-! DEFINITION. Pools (R26, R71), tenant states (R67), the wipe that FLR, destruction and the wider resets share (R69,
R104, R193, R194, R206, R212, R243, R354), TDISP states (R431 to R433), and the update session's end (R159, R476). -/
namespace Sys2Proof.Machine

/-! ## Pools (R26, R71) -/

/-- Sum over the tenants. -/
def State.sumTenants (s : State) (f : Tenant → Nat) : Nat := s.prov.tenants.foldl (fun n p => n + f p.2) 0

/-- POOL_FREE_QP. -/
def State.freeQp (s : State) : Nat :=
  65536 - s.sumTenants (·.qps) - (s.qps.filter fun p => p.2.fn == 0).length

/-- POOL_FREE_VEC. -/
def State.freeVec (s : State) : Nat := 65536 - s.sumTenants (·.vectors)

/-- POOL_FREE_APT. -/
def State.freeApt (s : State) : Nat := 256 - (s.win.apts.filter fun p => p.2.alloc).length

/-- POOL_FREE_IWIN. -/
def State.freeIwin (s : State) : Nat := 1024 - (s.win.iwins.filter fun p => p.2.alloc).length

/-- POOL_FREE_ATS. -/
def State.freeAts (s : State) : Nat := 65536 - s.sumTenants (·.ats)

/-- POOL_FREE_CTX. -/
def State.freeCtx (s : State) : Nat := 32768 - s.sumTenants (·.ctx)

/-- POOL_FREE_STG: group 0 holds 4 of 128 units (R63); the floors of groups destroyed by R69 come back after the wipe. -/
def State.freeStg (s : State) : Nat := 128 - 4 - s.prov.groups.foldl (fun n p => n + p.2) 0 - s.prov.floorsHeld

/-- The lowest n numbers below a bound that a table does not hold as allocated (R65: the Y7 chooses the numbers). -/
def freeNumbers (bound n : Nat) (used : Nat → Bool) : List Nat :=
  ((List.range bound).filter fun k => !used k).take n

/-- Entries of an arbiter that name a destroyed group act as OPEN until they are rewritten (R64). -/
def Arbiter.voidGroup (a : Arbiter) (g : Nat) : Arbiter :=
  { a with entries := tmap a.entries fun _ e => if e.toNat % 512 = g then e ||| 0x200 else e }

/-- The group is gone: its floor returns, its pleats and stream bindings wait to be rewritten (R64). -/
def State.groupGone (s : State) (g : Nat) : State :=
  let plt := { s.plt with host := s.plt.host.voidGroup g, sla := s.plt.sla.voidGroup g, slb := s.plt.slb.voidGroup g }
  let plc := { s.plc with shareHost := tdel s.plc.shareHost g, shareSla := tdel s.plc.shareSla g,
                          shareSlb := tdel s.plc.shareSlb g }
  let ide := tmap s.prov.ide fun _ b => if b.group.toNat = g then { b with void := true } else b
  { s with prov := { s.prov with groups := tdel s.prov.groups g, ide := ide }, plt := plt, plc := plc }

/-- Every group from 1 to 255 goes at once, its floor held until the wipe is done (R69). -/
def State.groupsGone (s : State) : State :=
  let floors := s.prov.groups.foldl (fun n p => n + p.2) 0
  let s := (tkeys s.prov.groups).foldl State.groupGone s
  { s with prov := { s.prov with floorsHeld := s.prov.floorsHeld + floors } }

/-! ## Views and tenant states -/

/-- The view of a function changes: GENERATION increments (R78). -/
def State.bumpView (s : State) (fn : Nat) : State := s.modFn fn fun f => { f with generation := f.generation + 1 }

/-- Change a tenant's STATE; its view changes with it (R67, R78). -/
def State.setTenState (s : State) (vf : Nat) (st : TenState) : State :=
  match s.tenant vf with
  | none => s
  | some t => if t.state = st then s else (s.modTenant vf fun t => { t with state := st }).bumpView (fnOfVf vf)

/-- TDISP returns to CONFIG_UNLOCKED (R431, POOL_TDISP). -/
def State.tdispUnlock (s : State) (vf : Nat) : State :=
  s.modTenant vf fun t => { t with tdisp := .unlocked, stream := 0xFF, rejects := 0 }

/-- A VF in CONFIG_LOCKED or RUN enters ERROR (R433). -/
def State.tdispError (s : State) (vf : Nat) : State :=
  match s.tenant vf with
  | none => s
  | some t =>
    if t.tdisp = .locked || t.tdisp = .run then
      (s.modTenant vf fun t => { t with tdisp := .error }).holdFn (fnOfVf vf)
    else s

/-- Every VF in CONFIG_LOCKED or RUN that satisfies a condition enters ERROR (R433). -/
def State.tdispErrorAll (s : State) (c : Nat → Tenant → Bool) : State :=
  (tkeys (tkeep s.prov.tenants c)).foldl State.tdispError s

/-! ## The wipe -/

/-- Configuration fields after FLR: the reset values, but for the sticky ones (R12, R37; log entry 4). -/
def FnCfg.flr (c : FnCfg) : FnCfg :=
  { FnCfg.init with mps := c.mps, aerUnc := c.aerUnc, aerCor := c.aerCor,
                    raw := tkeep c.raw (fun k _ => [17, 24, 32, 66, 67, 69, 70, 71, 72, 73, 74].contains k) }

/-- A staged unit of a function that a reset ends: an inbound write or SEND not yet committed is refused, anything else
goes without an answer; an emitted one is finished by nobody (R21, R194, R198). -/
def State.wipeUnit (s : State) (n : Nat) : State :=
  match tget s.units n with
  | none => s
  | some u =>
    if u.emitted then s.modUnit n fun u => { u with owner := .other }
    else
      let s := s.unstage n
      match u.pkt with
      | none => s
      | some p =>
        if u.committed then s
        else
          match u.kind with
          | .inWrite => if u.cutOff then s else s.refuse p 0x05
          | .recvData =>
            let s := s.refuseFrom p 0x02
            if u.cutOff then s else s.refuse p 0x02
          | _ => s

/-- Queued invalidations of a function are completed at once (R243). -/
def State.flushInvalidations (s : State) (fn : Nat) : State :=
  let q := (s.fn fn).invQueue
  let s := q.foldl (fun s x => s.sendMsg fn (.invalidationCompletion x.1)) s
  s.modFn fn fun f => { f with invQueue := [] }

/-- Tags held for host reads become quarantined (R193). -/
def State.quarantine (s : State) (fn : Nat) : State :=
  { s with tags := tmap s.tags fun _ t =>
      if t.fn == fn && t.state == .outstanding && t.role != RdRole.translation then { t with state := .quarantined }
      else t }

/-- A Pocket with every register at its reset value (R104); PF0's event vector resets to 1 (R81). -/
def Pocket.fresh (fn : Nat) : Pocket := Pocket.init (if fn = 0 then 1 else 0)

/-- PKT_STATUS.STATE as read: RESET in FLR, OFFLINE while Jalid is not ready, else the Pocket's own state (R86, R104,
R105). -/
def State.pktState (s : State) (fn : Nat) : PktState :=
  if (s.fn fn).flr then .reset
  else if s.boot.reloading || !s.operating then .offline
  else (s.fn fn).pocket.state

/-- An item that the wipe of a function's traffic leaves: an event entry or a message, which only FLR discards (R100). -/
def HItem.outlives (i : HItem) : Bool :=
  match i.kind with
  | .write _ _ _ _ _ _ _ => false
  | _ => true

/-- The wipe of a function that FLR and destruction share: its traffic, QPs, queue sets, windows, translations and spill
keys (R67, R194, R206, R212, R243, R354). -/
def State.wipeTraffic (s : State) (fn : Nat) : State :=
  let s := s.quarantine fn
  let s := { s with waits := s.waits.filter (fun w => w.fn != fn), hostq := s.hostq.filter (fun i => i.fn != fn || i.outlives) }
  let s := s.wipeQps fn
  let s := (tkeys (tkeep s.units fun _ u => u.fn == fn)).foldl State.wipeUnit s
  let s := s.closeWindows fn (fn == 0)
  let s := (s.xinvalidate fn 0 0 true).flushInvalidations fn
  s.modFn fn fun f => { f with qsets := [], xltFaults := 0, paused := false }

/-- What the CMD_FINAL entry of a command that drains or closes an object says if the object goes now (R119). -/
def State.closeDetail (s : State) (c : LongCmd) : Option Nat :=
  match c.kind with
  | .qpDestroy => (s.qp c.obj).map fun p => c.obj + p.drainFails.toNat * 65536
  | .aptClose => (tget s.win.apts c.obj).map fun x => c.obj + x.drainFails.toNat * 65536
  | .iwinClose => (tget s.win.iwins c.obj).map fun x => c.obj + x.drainDiscards.toNat * 65536
  | _ => none

/-- Result word of a command that ends ABORTED (R119): the VF, WRITTEN, the slot. -/
def State.abortDetail (s : State) (c : LongCmd) : Nat :=
  match c.kind with
  | .tenantCreate => c.obj
  | .updateWrite => s.lin.session.written
  | .updateCommit => slotCode s.lin.session.slot
  | _ => 0

/-- A wipe of a function that is in no FLR, by destruction of its tenant or STOP_INTERFACE: the commands that were draining
or closing its objects are past their commit point and end DONE with them (R89, R93, R104). -/
def State.wipeAlive (s : State) (fn : Nat) : State :=
  let ends := (s.fn fn).pocket.longs.filterMap fun c => (s.closeDetail c).map fun d => (c.token, d)
  ends.foldl (fun s e => s.finishLong fn e.1 stDone e.2) (s.wipeTraffic fn)

/-- A function's spill key generation increments (R354). -/
def State.rotateKey (s : State) (fn : Nat) : State := s.modFn fn fun f => { f with keyGen := f.keyGen + 1 }

/-- FLR of one function starts (R49, R104, R194); its key rotation is the caller's, because the wider resets rotate every
key at once. -/
def State.flrBegin (s : State) (fn : Nat) : State :=
  let s := s.wipeTraffic fn
  let s := { s with hostq := s.hostq.filter (fun i => i.fn != fn) }
  let s := s.modFn fn fun f =>
    { f with flr := true, recovering := none, cfg := f.cfg.flr, pocket := Pocket.fresh fn, telemMask := 0, telemInterval := 0, telem := [],
             stitched := [] }
  if isVf fn then
    let vf := vfOf fn
    let s := s.tdispUnlock vf
    if (s.tenant vf).map (·.state) = some .ready then s.setTenState vf .wiping else s
  else s

/-! ## Ends of a wipe -/

/-- The floors of the groups that R69 destroyed return once no VF and not PF0 is in FLR and no destruction is pending. -/
def State.floorsFree (s : State) : State :=
  if (s.fns.any fun p => p.1 != 1 && p.2.flr) || s.prov.tenants.any (fun p => p.2.destroying) then s
  else { s with prov := { s.prov with floorsHeld := 0 } }

/-- Every MSI-X entry and PBA bit of a function at its reset value (R67, R248). -/
def State.msixReset (s : State) (fn : Nat) : State := s.modFn fn fun f => { f with msix := [], pba := [], pendSt := [] }

/-- A tenant's allocation returns to the pools and its VF is ABSENT (R67, R68). -/
def State.tenantGone (s : State) (vf : Nat) : State :=
  match s.tenant vf with
  | none => s
  | some _ =>
    let fn := fnOfVf vf
    let s := s.closeWindows fn true
    let s := { s with prov := { s.prov with tenants := tdel s.prov.tenants vf } }
    let s := s.modFn fn fun f => { f with allowSet := 0, allowance := 0, borrowed := 0, exempt := true, paused := false }
    (s.msixReset fn).bumpView fn

/-- FLR of a function ends: its interrupts are at reset; its tenant is READY unless a destruction is pending (R67, R104,
R248). -/
def State.flrEnd (s : State) (fn : Nat) : State :=
  if !(s.fn fn).flr then s
  else
    let s := ((s.modFn fn fun f => { f with flr := false }).msixReset fn).floorsFree
    if isVf fn then
      match s.tenant (vfOf fn) with
      | some t => if t.destroying then s else s.setTenState (vfOf fn) .ready
      | none => s
    else s

/-! ## The update session (R155, R159, R476) -/

/-- Log an UPDATE record (R461): code, and the status of a commit that failed. -/
def State.logUpdate (s : State) (code status : Nat) : State :=
  let u := s.lin.session
  s.log 0x08 code (leBytes 2 u.id.toNat ++ leBytes 1 (slotCode u.slot) ++ leBytes 1 (b2n u.pldm) ++ leBytes 2 status)

/-- An open session closes by a reset: its target slot stays invalid unless its header has been written, and UPDATE 0x05
is logged (R159, R476). -/
def State.sessionLost (s : State) : State :=
  if s.lin.session.isOpen then
    let s := s.logUpdate 0x05 0
    { s with lin := { s.lin with session := { s.lin.session with isOpen := false } } }
  else s

end Sys2Proof.Machine
end

