-- ==== Sys2Proof/Machine/PleatOps.lean ====
section
/-! DEFINITION. Pleat arbitration as operations (R255 to R264): who owns a pleat, which units request, grants and
revocation. -/
namespace Sys2Proof.Machine

/-! ## Ownership (R261) -/

/-- The function is in D0. -/
def State.fnD0 (s : State) (fn : Nat) : Bool := !(s.fn fn).cfg.d3hot

/-- Pleats of a group may be owned: group 0 while PF0 is in D0, another while it exists and has a tenant in D0. -/
def State.groupOwns (s : State) (g : Nat) : Bool :=
  if g = 0 then s.fnD0 0
  else (tget s.prov.groups g).isSome && s.prov.tenants.any fun t => t.2.group == g && s.fnD0 (fnOfVf t.1)

/-- Owner of an absolute pleat at an arbiter; none where it is OPEN or acts as OPEN. -/
def State.pleatOwner (s : State) (a : Arb) (p : Nat) : Option Nat :=
  let e := (tgetD (s.arb a).entries (p % 4096) 0x100).toNat
  let g := e % 256
  if bitAt e 8 || bitAt e 9 || !s.groupOwns g then none else some g

/-! ## Requesters (R258) -/

/-- The QP, aperture or window flow whose units request one at a time. -/
def XUnit.source (u : XUnit) : Nat × Nat × Nat :=
  match u.kind with
  | .put | .sendMsg | .getData | .recvData => (0, u.obj, 0)
  | .aptWrite => (1, u.obj, 0)
  | .inWrite => (2, u.obj, ((u.pkt.map fun p => flowKey p.src p.vc.toNat)).getD 0)
  | .readRsp | .collectRsp => (3, u.obj, ((u.pkt.map fun p => flowKey p.dst p.vc.toNat)).getD 0)

/-- A unit not committed of a queue set that is paused for its allowance. -/
def State.unitPaused (s : State) (u : XUnit) : Bool :=
  match u.owner with
  | .unit q _ _ =>
    match s.qp q with
    | none => false
    | some p => !u.committed && ((s.fn p.fn).paused || ((s.qsetOf p).map (·.paused)).getD false)
  | _ => false

/-- Units of a flow that wait to be resent and have no grant, in sequence order. -/
def State.resends (s : State) (k : Nat) : List Nat :=
  (((tget s.tp.tx k).map (·.unacked)).getD []).filterMap fun t =>
    t.xunit.bind fun n =>
      match tget s.units n with
      | some u => if u.resend && u.granted.isNone then some n else none
      | none => none

/-- A packet without unit payload of the same QP waits on the unit's flow and comes before it (R185). -/
def State.requestBefore (s : State) (n : Nat) (u : XUnit) : Bool :=
  match u.owner.qp? with
  | none => false
  | some q =>
    (((tget s.tp.tx u.flow).map (·.queue)).getD []).any fun t => t.owner.qp? == some q && decide (t.order < n)

/-- The flow would take the packet of a new unit behind those of its granted units (R307, R309, R325): a stalled flow keeps no
place of the transmit queue from another (R311; DEDUCED, log entry 42). -/
def State.flowTakes (s : State) (n : Nat) (u : XUnit) : Bool :=
  match tget s.tp.tx u.flow, u.pkt with
  | some f, some p =>
    f.admitsBehind (s.reserved u.flow) (windowUnits p.len) && s.keptTurn f (some n) && !s.requestBefore n u
  | _, _ => false

/-- A unit of a function that recovers from a hold is next: what was held goes in the order in which it arose (R192). -/
def State.recoverNext (s : State) (u : XUnit) : Bool :=
  u.heldBack && !(s.units.any fun x => x.2.heldBack && x.2.fn == u.fn && decide (x.2.commitNo < u.commitNo)) &&
    !(s.hostq.any fun i => i.fn == u.fn && decide (i.stamp < u.commitNo))

/-- Unit x of the same source comes before unit n (R258). -/
def earlier (x : Nat × XUnit) (n : Nat) (u : XUnit) : Bool :=
  decide (x.2.stamp < u.stamp) || (x.2.stamp == u.stamp && decide (x.1 < n))

/-- Unit n requests at an arbiter. -/
def State.requests (s : State) (a : Arb) (n : Nat) (u : XUnit) : Bool :=
  let same (v : XUnit) : Bool := v.source == u.source && v.hostBound == u.hostBound && v.granted.isNone && !v.emitted
  decide (u.landed > 0) && u.granted.isNone && (!u.emitted || u.resend) && s.unitArb u == a && !(s.fn u.fn).flr &&
    (if u.hostBound then
      !s.busBlocked u.fn && ((s.fn u.fn).recovering.isNone || s.recoverNext u) &&
        !(s.units.any fun x => same x.2 && decide (x.2.landed > 0) && earlier x n u)
    else if u.resend then (s.resends u.flow).head? == some n
    else
      !s.unitPaused u && (s.resends u.flow).isEmpty && s.flowTakes n u &&
        !(s.units.any fun x => decide (x.1 < n) && same x.2 && s.unitArb x.2 == a))

/-- The requesters of an arbiter. -/
def State.requesters (s : State) (a : Arb) : List (Nat × XUnit) := s.units.filter fun x => s.requests a x.1 x.2

/-- Order of requesters: arrival stamp, function, global QP with window units behind, order of presentation (R262). -/
def XUnit.rank (n : Nat) (u : XUnit) : Nat × Nat × Nat × Nat := (u.stamp, u.fn, if u.source.1 = 0 then u.obj else 2 ^ 16, n)

/-- Lexicographic order of ranks. -/
def rankLt (x y : Nat × Nat × Nat × Nat) : Bool :=
  decide (x.1 < y.1) || (x.1 == y.1 && (decide (x.2.1 < y.2.1) || (x.2.1 == y.2.1 &&
    (decide (x.2.2.1 < y.2.2.1) || (x.2.2.1 == y.2.2.1 && decide (x.2.2.2 < y.2.2.2))))))

/-- The oldest of a list of units. -/
def oldest (l : List (Nat × XUnit)) : Option (Nat × XUnit) :=
  l.foldl (fun (b : Option (Nat × XUnit)) x =>
    match b with
    | none => some x
    | some y => if rankLt (x.2.rank x.1) (y.2.rank y.1) then some x else b) none

/-- The oldest requester of a group. -/
def State.oldestOf (s : State) (a : Arb) (g : Nat) : Option (Nat × XUnit) :=
  oldest ((s.requesters a).filter fun x => x.2.group == g)

/-! ## Grants (R256, R262) -/

/-- Pleats begun, not consumed and not lapsed. -/
def State.livePleats (s : State) (a : Arb) : List Nat := (s.arb a).pendings.filter fun p => decide (p + 4 > s.plt.current)

/-- Grant a unit, consuming a pleat. -/
def State.grantTo (s : State) (a : Arb) (n g : Nat) (cls : GrantClass) (p : Nat) : State :=
  let s := s.modUnit n fun u => { u with granted := some (cls, p) }
  let own := cls == .owned
  let s := s.modArb a fun x =>
    { x with queue := x.queue ++ [n], pendings := x.pendings.filter (· != p),
             ownedAt := if own then some (max p (x.ownedAt.getD 0)) else x.ownedAt,
             owned := if own then x.owned + 1 else x.owned,
             background := if own then x.background else x.background + 1 }
  s.occ (0x0600 + 4 * a.num + (if own then 0 else 1)) 1 none (some g)

/-- The first live pleat whose owner has a requester, with that requester. -/
def State.ownedChoice (s : State) (a : Arb) : List Nat → Option (Nat × Nat × XUnit)
  | [] => none
  | p :: r =>
    match (s.pleatOwner a p).bind fun g => s.oldestOf a g with
    | some x => some (p, x)
    | none => s.ownedChoice a r

/-- One grant opportunity (R262). -/
def State.grantOne (s : State) (a : Arb) : State :=
  let live := s.livePleats a
  if (s.arb a).queue.length ≥ 4 then s
  else
    match s.ownedChoice a live with
    | some (p, n, u) => s.grantTo a n u.group .owned p
    | none =>
      match live, oldest (s.requesters a) with
      | p :: _, some (n, u) => s.grantTo a n u.group .background p
      | _, _ => s

/-! ## Revocation (R263, R264) -/

/-- Background grants of other groups at an arbiter whose units have not committed, with the pleat each consumed. -/
def State.revocable (s : State) (a : Arb) (g : Nat) : List (Nat × Nat × XUnit) :=
  (s.arb a).queue.filterMap fun n =>
    match tget s.units n with
    | none => none
    | some u =>
      match u.granted with
      | some (.background, p) => if u.group != g && !u.committed then some (n, p, u) else none
      | _ => none

/-- The grant that a trigger of group g in pleat p revokes. -/
def State.revokeChoice (s : State) (a : Arb) (g p : Nat) : Option (Nat × XUnit) :=
  let l := s.revocable a g
  match l.find? fun x => x.2.1 == p with
  | some x => some (x.1, x.2.2)
  | none =>
    l.foldl (fun (b : Option (Nat × XUnit)) x =>
      match b with
      | none => some (x.1, x.2.2)
      | some y => if y.2.stamp < x.2.2.stamp then some (x.1, x.2.2) else b) none

/-- A trigger at an arbiter in the pleat in force: at most one background grant is revoked, and its place goes to the
oldest requester of the owner. The revoked unit lands again at once from the receive buffer that kept its bytes, with its
stamp, across the crossbar (R264, R372). -/
def State.pleatTrigger (s : State) (a : Arb) : State :=
  let p := s.plt.current
  match s.pleatOwner a p with
  | none => s
  | some g =>
    if (s.arb a).ownedAt = some p then s
    else
      match s.oldestOf a g, s.revokeChoice a g p with
      | some (n, _), some (v, u) =>
        let s := (s.ungrant v).modArb a fun x => { x with revoked := x.revoked + 1 }
        let s := (s.occ (0x0602 + 4 * a.num) 1 none (some u.group)).charge u.fn 0x14 u.landed
        s.grantTo a n g .owned p
      | _, _ => s

/-- Requesters that arrived in the command under way: each triggers at its arbiter while its group owns the pleat in
force. -/
def State.arrivalTriggers (s : State) : State :=
  let l := s.plt.arrivals
  if l.isEmpty then s
  else
    l.foldl (fun s n =>
      match tget s.units n with
      | none => s
      | some u =>
        let a := s.unitArb u
        if s.requests a n u && s.pleatOwner a s.plt.current == some u.group then s.pleatTrigger a else s)
      { s with plt := { s.plt with arrivals := [] } }

/-! ## Grants given back (R192, R311) -/

/-- A granted unit cannot be emitted for a reason of its own flow or function: it would keep its place in the transmit queue
from others. -/
def State.stuck (s : State) (u : XUnit) : Bool :=
  if u.hostBound then s.busBlocked u.fn
  else if u.resend then false
  else !(((tget s.tp.tx u.flow).map fun f => f.admitsBehind 0 (s.reserved u.flow)).getD false)

/-- Units of a transmit queue whose flow takes no more, or whose function is held, give their grants back, the latest first,
and request again later (DEDUCED, log entry 42). -/
def State.yieldAt (s : State) (a : Arb) : State :=
  (s.arb a).queue.reverse.foldl (fun s n =>
    match tget s.units n with
    | some u =>
      if s.stuck u then
        let s := (s.ungrant n).modUnit n fun u => { u with xasked := false }
        if u.hostBound then s else s.pumpFlow u.flow
      else s
    | none => s) s

/-- The same at every arbiter. -/
def State.yieldGrants (s : State) : State := ((s.yieldAt .host).yieldAt .sla).yieldAt .slb

end Sys2Proof.Machine
end

