-- ==== Sys2Proof/Machine/Resets.lean ====
section
/-! DEFINITION. The resets (R414, R415): FLR of PF0 and the destruction of every tenant (R69), hot reset and link-down,
PERST_N, chip reset, supply loss; and Lining's writing of its event log (R462). -/
namespace Sys2Proof.Machine

/-! ## The event log (R460 to R462) -/

/-- Write one record to the ring of 262,144 under the next SEQ. -/
def State.logWrite (s : State) (r : LogRec) : State :=
  let l := s.lin.log ++ [{ r with seq := s.lin.nextSeq }]
  { s with lin := { s.lin with log := l.drop (l.length - 262144), nextSeq := s.lin.nextSeq + 1 } }

/-- Write the oldest queued record; then, if records were lost, queue one LOST record that counts them. -/
def State.logWriteNext (s : State) : State :=
  match s.lin.logQueue with
  | [] => s
  | r :: q =>
    let s := ({ s with lin := { s.lin with logQueue := q } }).logWrite r
    if s.lin.logLost = 0 then s
    else ({ s with lin := { s.lin with logLost := 0 } }).log 0x0D 0 (leBytes 4 s.lin.logLost.toNat)

/-- Write every queued record: before a chip reset that Lining commands (R462). -/
def State.logFlush (s : State) : State :=
  let s := s.lin.logQueue.foldl State.logWrite { s with lin := { s.lin with logQueue := [] } }
  if s.lin.logLost = 0 then s
  else (({ s with lin := { s.lin with logLost := 0 } }).log 0x0D 0 (leBytes 4 s.lin.logLost.toNat)).logWriteNext

/-! ## Counters and registers that an FLR of PF0 clears -/

/-- An aperture's counters cleared (R207). -/
def Apt.zeroed (x : Apt) : Apt := { x with late := 0, rdca := 0 }

/-- An inbound window's counters cleared (R213). -/
def Iwin.zeroed (x : Iwin) : Iwin := { x with pfd := 0, deny := 0 }

/-- An arbiter at reset but for its transmit queue and the pleats under way (R260, R266). -/
def Arbiter.zeroed (a : Arbiter) : Arbiter :=
  { a with entries := [], starved := false, lastGroup := 0, owned := 0, background := 0, revoked := 0,
           lapsed := 0, starveCnt := 0 }

/-- A Sleeve's counters cleared. -/
def Slv.zeroed (v : Slv) : Slv :=
  { v with fecCorr := 0, fecUncorr := 0, seqMismatch := 0, nakSent := 0, nakRcvd := 0, tmrReplay := 0, retrainCnt := 0,
           downCnt := 0, macFail := 0, bypUnknown := 0, stall := 0, laneCorr := List.replicate 8 0 }

/-- The transport's counters cleared. -/
def Tp.zeroed (t : Tp) : Tp :=
  { t with resent := 0, reroute := 0, dup := 0, ahead := 0, stale := 0, late := 0, noState := 0, malformed := 0,
           frameDrop := 0, ccCut := 0, hold := 0 }

/-- The Belt's counters cleared. -/
def Belt.zeroed (b : Belt) : Belt :=
  { b with crcErr := 0, lockLoss := 0, dropHops := 0, txDrop := 0, bypUnknown := 0, bypassClose := 0, timeStep := 0 }

/-- The placement engine's counters cleared and PLACE_LIMITS at reset (R346). -/
def Plc.zeroed (p : Plc) : Plc :=
  { p with maxMig := Plc.init.maxMig, engineMask := Plc.init.engineMask, sleeveMask := Plc.init.sleeveMask, epochs := 0,
           promote := 0, demote := 0, engMove := 0, slvMove := 0, migAbort := 0, spillLoad := 0, spillFail := 0,
           quiesceMax := 0 }

/-- Every PF0 BAR0 counter and register whose description names FLR of PF0 returns to reset (R414). -/
def State.zeroPf0 (s : State) : State :=
  { s with
    win := { s.win with apts := tmap s.win.apts (fun _ x => x.zeroed), iwins := tmap s.win.iwins (fun _ x => x.zeroed),
                        drDiscardCnt := 0, noWin := 0, noMap := 0 },
    sti := { s.sti with frames := 0, unmatched := 0, fieldErr := 0, sat := 0, oframes := 0 },
    xlt := { s.xlt with hits := 0, misses := 0, invRcvd := 0, invOvf := 0, staleTc := 0 },
    plt := { s.plt with host := s.plt.host.zeroed, sla := s.plt.sla.zeroed, slb := s.plt.slb.zeroed },
    slvA := s.slvA.zeroed, slvB := s.slvB.zeroed, tp := s.tp.zeroed, belt := s.belt.zeroed, plc := s.plc.zeroed,
    el := { s.el with windows := 0, throttled := 0, pauses := 0, overrun := 0 } }

/-! ## Destruction of every tenant (R69) -/

/-- The VFs that exist or still hold a tenant. -/
def State.vfList (s : State) : List Nat :=
  ((List.range 1024).map (· + 1)).filter fun vf =>
    (s.prov.vfEnable && decide (vf ≤ s.prov.numVFs.toNat)) || (s.tenant vf).isSome

/-- A provisioning command not yet at its commit point ends with ABORTED when VF Enable is cleared (R69). -/
def State.abortProvisioning (s : State) : State :=
  let mine (c : LongCmd) : Bool := c.kind == .tenantCreate
  let gone := (s.fn 0).pocket.longs.filter mine
  let s := s.modPocket 0 fun p => { p with longs := p.longs.filter (fun c => !mine c) }
  gone.foldl (fun s c => s.cmdFinal 0 c.token stAborted c.obj true) s

/-- Every tenant and every group from 1 to 255 is destroyed: each VF goes through FLR, its tenant ends ABSENT, the groups
are gone (R64, R69; log entry 22). -/
def State.destroyAll (s : State) (rotate : Bool) : State :=
  let vfs := s.vfList
  let s := vfs.foldl (fun s vf =>
    let s := if rotate then s.rotateKey (fnOfVf vf) else s
    (s.flrBegin (fnOfVf vf)).modTenant vf fun t => { t with destroying := true }) s
  let s := s.groupsGone
  ({ s with prov := { s.prov with vfEnable := false } }).floorsFree

/-- The move is an engine move, which needs no spill region. -/
def Move.isEngine : Move → Bool
  | .engine _ => true
  | _ => false

/-- The grant of the spill region is withdrawn (R126). -/
def State.spillWithdraw (s : State) : State :=
  { s with prov := { s.prov with spill := false, spillBase := 0, spillSize := 0 },
           plc := { s.plc with freeRecords := [], nextRecord := 0, writeCounts := [], retry := [],
                               moves := s.plc.moves.filter (fun m => m.2.1.isEngine) } }

/-- What an FLR of PF0, a hot reset and a link-down share beside each function's own wipe: the grant, the IDE bindings, the
sessions of DOE, PF0's registers, and the update session (R126, R159, R414, R429). -/
def State.pf0Reset (s : State) : State :=
  let s := s.spillWithdraw.zeroPf0.sessionLost
  { s with prov := { s.prov with numVFs := 0, vfMse := false, bar2Log := 8, ideSel := 0, ide := [],
                                 linkIdeSecure := false, spdm := [] } }

/-- FLR of PF0 starts (R49, R69, R414). -/
def State.flrPf0 (s : State) : State := (((s.rotateKey 0).flrBegin 0).destroyAll true).pf0Reset

/-- Buttonhole returns to reset (R493). -/
def State.bhReset (s : State) : State := { s with bh := Bh.init }

/-- A hot reset or link-down acts as FLR on every function and raises the node epoch (R49, R69, R194, R322, R414). -/
def State.hotReset (s : State) (cause : Byte) : State :=
  let s := { s with prov := { s.prov with keyGenAll := s.prov.keyGenAll + 1 },
                    boot := { s.boot with resetCause := cause } }
  let s := (((s.flrBegin 0).flrBegin 1).destroyAll false).pf0Reset
  (s.bhReset).raiseEpoch

/-! ## PERST_N, chip reset, supply loss -/

/-- A Sleeve at PERST_N: LINK_DOWN 0x01 if it is UP, then DISABLED with its registers at reset (R414). -/
def State.slvPerst (s : State) (sl : Sleeve) (say : Bool) : State :=
  let s := if say && s.slvUp sl then s.idleSend sl (linkDownMsg 0x01) else s
  s.setSlv sl Slv.init

/-- Spill key generations outlive the functions' other state (R354). -/
def keepKeys (t : Table Fn) : Table Fn := tmap t fun fn f => { Fn.init fn with keyGen := f.keyGen }

/-- Every field that PERST_N, a chip reset and a supply loss clear, at its reset value; MRAM, the fuses, the timebase, the
boot record, PWR_STATUS.BROWNOUT, FC_LAST_SAFE, the operator's cap and the coefficient set are kept (R373, R414, R467). -/
def State.wiped (s : State) : State :=
  { State.reset with
    boot := { s.boot with degHost := false, reloading := false, cfgReady := false, committed := false },
    clk := { s.clk with pllLock := s.clk.pllLock &&& 0xFE, timeSet := false, timeLocked := false, offset := 0, slew := 0,
                        ratePpm := 0, frac := 0 },
    belt := { Belt.init with txReady := s.belt.txReady }, fns := keepKeys s.fns, prov := { Prov.init with keyGenAll := s.prov.keyGenAll + 1 },
    nextUnit := s.nextUnit, stamp := s.stamp, plt := { Plt.init with current := s.plt.current },
    tp := { Tp.init with epoch := s.tp.epoch },
    el := { El.init with opCap := s.el.opCap, opWindow := s.el.opWindow, coefSet := s.el.coefSet },
    pwr := { Pwr.init with doms := List.replicate 11 { Dom.off with state := .run }, brownout := s.pwr.brownout },
    fc := { Fc.init with lastSafeValid := s.fc.lastSafeValid, lastSafe := s.fc.lastSafe },
    lin := { s.lin with ageSel := 0, autoRetire := true, autoDerate := true },
    out := s.out, freeIdx := s.freeIdx, pending := s.pending }

/-- Belt LEAVE with a reason if the bypass is open (R335). -/
def State.sayLeave (s : State) (reason : Nat) : State :=
  if s.belt.bypassOpen then s.beltOut (s.leaveMsg reason) [] else s

/-- LINK_DOWN 0x01 on each UP Sleeve (R414). -/
def State.sayDown (s : State) : State := ((s.slvPerst .a true).slvPerst .b true)

/-- PERST_N asserts: everything of R414 clears, the update session closes, the mode becomes STANDBY (R414, R416). A boot
that had not committed within its 5 s takes its attempt back, unless it entered the safe state (R410). -/
def State.perstReset (s : State) : State :=
  let back := s.boot.pendingBoot && !s.boot.committed && s.boot.mode != .safe && s.boot.attempts > 0 &&
    (s.boot.mode == .boot || s.boot.mode == .oper) &&
    (s.boot.stage == .jalidLoad || s.boot.stage == .jalidStart || s.boot.stage == .ready)
  let s := ((s.sessionLost).sayLeave 0x03).sayDown.wiped
  let stage := match s.boot.stage with
    | .rom => Stage.rom
    | .lining => Stage.lining
    | .noImage => Stage.noImage
    | .none => Stage.none
    | _ => Stage.liningDone
  { s with boot := { s.boot with perst := true, mode := .standby, stage := stage, resetCause := 0x03,
                                 attempts := if back then s.boot.attempts - 1 else s.boot.attempts },
           pwr := { s.pwr with wakeSrc := 0x03 } }

/-- Lining's own volatile state goes: sensors, addresses, the queue of its log (R414, R462). -/
def Lin.restarted (l : Lin) : Lin :=
  { l with tempC := Lin.init.tempC, volts := Lin.init.volts, amps := Lin.init.amps, power := 0,
           droops := Lin.init.droops, warn := false, eids := [0, 0, 0, 0, 0], i3cAddr := none, logQueue := [], logLost := 0,
           toMeasure := [], firmware := false, session := { l.session with isOpen := false } }

/-- The Y7 restarts from the ROM stage, in BOOT or, with PERST_N asserted, in STANDBY (R405, R415, R416). BOOT_SEL is
sampled (R507). The key pairs are gone until the ROM derives them again; AON holds the spill key root (R424). -/
def State.startRom (s : State) (bootSel : Bool) : State :=
  { s with boot := { s.boot with mode := if s.boot.perst then .standby else .boot, stage := .rom, bootSel := bootSel,
                                 bootFuses := s.boot.fuses,
                                 fallback := false, reject := 0, recordBad := false, sectionsOk := false,
                                 ident := { s.boot.ident with deviceId := none, aliasKey := none } } }

/-- A chip reset (R414, R446): as PERST_N, Lining itself too; the host link goes down; the node epoch is raised once while
PERST_N is deasserted (log entry 23). Lining writes its log queue first when it commands the reset (R462). -/
def State.chipReset (s : State) (cause : Byte) (bootSel byLining : Bool) : State :=
  let s := s.sessionLost
  let s := if byLining then s.logFlush else s
  let s := ((s.sayLeave 0x03).sayDown).wiped
  let s := { s with boot := { s.boot with resetCause := cause }, lin := s.lin.restarted }
  let s := if s.boot.perst then s else { s with tp := { s.tp with epoch := s.tp.epoch + 1 } }
  s.startRom bootSel

/-- A domain in a state that its supply brings, nothing under way: the vote and refusal registers of AON stay (R16). -/
def Dom.powered (st : PwrState) (x : Dom) : Dom :=
  { Dom.off with state := st, refuse := x.refuse, pf0Floor := x.pf0Floor, pf1Floor := x.pf1Floor }

/-- VDD or VDDS falls below valid (R414, R416, R520): every domain except AON loses power, AON keeps its registers, the
mode is OFF. -/
def State.supplyLoss (s : State) : State :=
  let w := s.sessionLost.wiped
  let doms := s.pwr.doms.mapIdx fun i x => x.powered (if i = 0 then .run else .off)
  { w with
    boot := { s.boot with vdd := false, mode := .off, stage := .none, resetCause := 0x02, degHost := false,
                          reloading := false, cfgReady := false, committed := false, sectionsOk := false },
    clk := { w.clk with srefOk := false, pllLock := 0 }, belt := Belt.init,
    lin := { w.lin.restarted with session := Session.none }, fc := { s.fc with asserted := [] }, pwr := { s.pwr with doms := doms } }

end Sys2Proof.Machine
end

