-- ==== Sys2Proof/Machine/Floors.lean ====
section
/-! DEFINITION. The floors of the thirteen voting clients (R388), and the wake of a domain whose floor has come to lie above its
state (R387). -/
namespace Sys2Proof.Machine

/-! ## Conditions the votes read -/

/-- Functions that exist: PF0, PF1 and the enabled VFs. -/
def State.functions (s : State) : List Nat :=
  0 :: 1 :: (if s.prov.vfEnable then (List.range s.prov.numVFs.toNat).map (· + 2) else [])

/-- Some function is in D0. -/
def State.anyD0 (s : State) : Bool := s.functions.any fun fn => !(s.fn fn).cfg.d3hot

/-- The host link is in L1.2 or L2; D3cold is device Off (R53, R403). -/
def State.linkDeep (s : State) : Bool := s.link.state == .l12 || s.link.state == .l2

/-- PWR_TENANTS.COUNT (R388): PF0 and VFs in D0 that hold work. -/
def State.tenantsCount (s : State) : Nat :=
  (s.functions.filter fun fn => fn != 1 && !(s.fn fn).cfg.d3hot && s.holdsWork fn).length

/-- Some function holds a staged unit, a held write, a delayed-read slot or prefetched bytes (R388). -/
def State.holdsStaged (s : State) : Bool :=
  !s.units.isEmpty || s.hostq.any (fun i => match i.kind with | .write .. => true | _ => false) ||
  !s.win.slots.isEmpty || !s.win.prefetch.isEmpty

/-- SLA_TP_FLOWS is non-zero (R399). -/
def State.anyFlow (s : State) : Bool := s.tp.tx.any (fun p => p.2.live) || !s.tp.rx.isEmpty

/-- More than 64 tenants or 1,536 QPs (R367). -/
def State.largeConfig (s : State) : Bool :=
  decide (s.prov.tenants.length > 64) || decide (s.qps.length > 1536)

/-- Context banks the plan may retain: 16 up to 95 degrees C, 12 above (R397). -/
def State.retainable (s : State) : Nat := if s.lin.tempC.any (fun t => decide (t > 950)) then 12 else 16

/-- On-die contexts beyond the banks that can be retained (R367). -/
def State.excessContexts (s : State) : Nat :=
  (s.qps.filter fun p => p.2.residence == .onDie).length - s.retainable * 1024

/-- Records the spill region still takes (R352). -/
def State.spillRoom (s : State) : Nat :=
  min 65536 (s.prov.spillSize.toNat / 512) - (s.qps.filter fun p => p.2.record.isSome).length

/-- The PLACEMENT client refuses Deep Sleep of CTX (R368). -/
def State.placementHolds (s : State) : Bool :=
  s.largeConfig && s.link.state != .l2 &&
    (!s.prov.spill || decide (s.excessContexts > s.spillRoom) || !(s.fn 0).cfg.bme || (s.fn 0).cfg.d3hot ||
      !s.plc.retained)

/-- The CTRL client refuses Deep Sleep of CTL: a long command not final, a held event, or an entry not yet written (R107). -/
def State.ctrlHolds (s : State) : Bool :=
  (s.fns.any fun p => !p.2.pocket.longs.isEmpty || !p.2.pocket.held.isEmpty) || s.hostq.any fun i => match i.kind with
    | .event _ _ => true
    | _ => false

/-- The domain of an ageing monitor pair (R477). -/
def pairDomain (i : Nat) : Domain :=
  if i ≤ 16 then .dp
  else if i = 17 then .ctx
  else if i = 18 then .ctl
  else if i = 19 then .lin
  else if i ≤ 27 then .hst
  else if i ≤ 35 then .sla
  else if i ≤ 43 then .slb
  else if i ≤ 45 then .dp
  else if i = 46 then .xlt
  else .aon

/-! ## Floors (R388): 0 none, 1 Deep Sleep, 2 Sleep, 3 Idle, 4 Run -/

/-- HOST_LINK (R53, R388): HST stays at Sleep or above unless the link is in L1.2, L2 or D3cold. -/
def State.floorHost (s : State) (d : Domain) : Nat :=
  let all := if s.anyD0 && !s.linkDeep then 2 else 0
  match d with
  | .hst => if s.link.state = .l0 then 4 else if s.linkDeep then all else 2
  | .xlt => if s.link.state = .l0 || s.link.state = .l10 || s.link.state = .l11 then 2 else all
  | _ => all

/-- TENANTS. -/
def State.floorTenants (s : State) (d : Domain) : Nat :=
  match d with
  | .dp => if s.tenantsCount > 0 then 3 else if s.holdsStaged then 2 else 0
  | .ctx | .xlt => if s.tenantsCount > 0 then 3 else 0
  | _ => 0

/-- SLEEVE_A and SLEEVE_B; Sleeve A carries the flow condition. -/
def State.floorSleeve (s : State) (sl : Sleeve) (d : Domain) : Nat :=
  let v := s.slv sl
  let own := if v.state = .quiet || v.state = .disabled then 0 else 4
  let busy := v.state == .up || v.state == .param || v.state == .retrain || (sl == .a && s.anyFlow)
  if d = sl.domain then own else if d = .dp && busy then 2 else 0

/-- PLACEMENT. -/
def State.floorPlacement (s : State) (d : Domain) : Nat :=
  let moving := !s.plc.moves.isEmpty
  match d with
  | .ctx => if moving then 3 else if s.placementHolds then 2 else 0
  | .xlt => if moving then 3 else 0
  | _ => 0

/-- LEDGER keeps LIN in Run while any other domain than AON is in Run or Idle (R374). -/
def State.floorLedger (s : State) (d : Domain) : Nat :=
  let active (x : Domain) : Bool := (s.dom x).state == .run || (s.dom x).state == .idle
  if d = .lin && [Domain.hst, .ctl, .dp, .ctx, .xlt, .sla, .slb, .blt, .bh].any active then 4 else 0

/-- An ageing measurement runs: a pair that waits has its domain in Run (R477, AGE_STATUS.BUSY). -/
def State.measuring (s : State) : Bool := s.lin.toMeasure.any fun i => (s.dom (pairDomain i)).state == .run

/-- LINING: a session on PLDM or SPDM, an update session, an ageing measurement. -/
def State.floorLining (s : State) (d : Domain) : Nat :=
  if d = .lin && (s.lin.session.isOpen || !s.prov.spdm.isEmpty || s.measuring) then 4 else 0

/-- CTRL. -/
def State.floorCtrl (s : State) (d : Domain) : Nat :=
  if d = .ctl then
    if s.fns.any fun p => p.2.pocket.state == .working then 4 else if s.ctrlHolds then 2 else 0
  else 0

/-- BH. -/
def State.floorBh (s : State) (d : Domain) : Nat :=
  if d = .bh && (s.bh.traceEn || s.bh.sel.any fun p => p.2.event != 0) then 4 else 0

/-- FC: a trap or a reaction in progress; LIN stays in Run in the safe state (R450). -/
def State.floorFc (s : State) (d : Domain) : Nat :=
  let busy := !s.fc.traps.isEmpty || s.fc.chipResetDue
  match d with
  | .lin => if busy || s.boot.mode = .safe then 4 else 0
  | .ctl => if busy then 4 else 0
  | _ => 0

/-- Floor of client c for a domain. -/
def State.clientFloor (s : State) (c : Nat) (d : Domain) : Nat :=
  match c with
  | 0x0 => s.floorHost d
  | 0x1 => if d = .aon then 0 else (s.dom d).pf0Floor
  | 0x2 => if d = .hst || d = .bh then (s.dom d).pf1Floor else 0
  | 0x3 => s.floorTenants d
  | 0x4 => s.floorSleeve .a d
  | 0x5 => s.floorSleeve .b d
  | 0x6 => if d = .blt && s.belt.enable && !s.belt.sleepOk then 4 else 0
  | 0x7 => s.floorPlacement d
  | 0x8 => s.floorLedger d
  | 0x9 => s.floorLining d
  | 0xA => s.floorCtrl d
  | 0xB => s.floorBh d
  | 0xC => s.floorFc d
  | _ => 0

/-- The highest floor of a domain (PWR_VOTE.FLOOR). -/
def State.floorMax (s : State) (d : Domain) : Nat := (List.range 13).foldl (fun m c => max m (s.clientFloor c d)) 0

/-- The lowest state that a domain is in or enters. -/
def Dom.depth (x : Dom) : PwrState := x.entering.getD x.state

/-- A state as a floor code. -/
def floorCode : PwrState → Nat
  | .run => 4
  | .idle => 3
  | .sleep => 2
  | .deepSleep => 1
  | .off => 0

/-! ## A raised floor (R387) -/

/-- A domain starts toward Run, or notes the wake during an entry (R387, R392). A domain that is Off stays Off. -/
def State.wake (s : State) (d : Domain) : State :=
  s.modDom d fun x =>
    if x.entering.isSome then { x with wakeNoted := true }
    else if x.state = .run || x.state = .off then x
    else { x with waking := true }

/-- Every domain but AON. -/
def allDomains : List Domain := [.lin, .hst, .ctl, .dp, .ctx, .xlt, .sla, .slb, .blt, .bh]

/-- A domain that is below Run, or on its way down, and not yet waking. -/
def Dom.low (x : Dom) : Bool := x.state != .off && !x.waking && !x.wakeNoted && (x.state != .run || x.entering.isSome)

/-- A floor above a domain's state, or above the state it enters, takes it to Run (R387). -/
def State.floorsWake (s : State) : State :=
  allDomains.foldl (fun s d =>
    if (s.dom d).low && decide (s.floorMax d > floorCode (s.dom d).depth) then s.wake d else s) s

end Sys2Proof.Machine
end

