-- ==== Sys2Proof/Machine/SpillOps.lean ====
section
/-! DEFINITION. Context residence (R348 to R360): slots, scores, quiescence, the records of the spill region, and the three
kinds of move carried out on one QP. -/
namespace Sys2Proof.Machine

/-! ## Hints and scores -/

/-- RESIDENCE hint of a QP: its own, else its queue set's (R146). -/
def State.resHint (s : State) (p : Qp) : Nat :=
  if p.hintRes ≠ 0 then p.hintRes.toNat else ((s.qsetOf p).map (·.hintRes.toNat)).getD 0

/-- LATENCY hint of a QP, 0xFF for none. -/
def State.latHint (s : State) (p : Qp) : Nat :=
  if p.hintLat ≠ 0xFF then p.hintLat.toNat else ((s.qsetOf p).map (·.hintLat.toNat)).getD 0xFF

/-- Score in quarters of the smoothed access rate (R345). -/
def State.score (s : State) (p : Qp) : Nat :=
  match s.latHint p with
  | 0 => p.rate
  | 2 => p.rate * 16
  | _ => p.rate * 4

/-! ## Slots (R348) -/

/-- Residence at the end of an engine move: a context that did not wait spilled is on-die. -/
def Residence.settled (r : Residence) : Residence := if r = .migrating then .onDie else r

/-- The QP holds an on-die slot, or has one reserved. -/
def Qp.inSlot (p : Qp) : Bool := p.residence != .spilled

/-- QPs of a function that hold slots. -/
def State.slotsOf (s : State) (fn : Nat) : Nat := (s.qps.filter fun x => x.2.fn == fn && x.2.inSlot).length

/-- Guaranteed slots of a function. -/
def State.guaranteed (s : State) (fn : Nat) : Nat :=
  if isVf fn then ((s.tenant (vfOf fn)).map (·.ctx)).getD 0 else 0

/-- Shared slots in use: what each function holds beyond its guarantee. -/
def State.sharedUsed (s : State) : Nat :=
  ((s.qps.map (·.2.fn)).eraseDups).foldl (fun n fn => n + (s.slotsOf fn - s.guaranteed fn)) 0

/-- A QP of a function finds a free slot: a guaranteed one, or a shared one. -/
def State.slotFree (s : State) (fn : Nat) : Bool :=
  decide (s.slotsOf fn < s.guaranteed fn) || decide (s.sharedUsed < s.freeCtx)

/-! ## Quiescence (R349) -/

/-- QP q is quiescent. -/
def State.quiescent (s : State) (q : Nat) (p : Qp) : Bool :=
  p.descs.isEmpty && p.fetching == 0 && !p.held &&
    !(s.units.any fun u => u.2.owner.qp? == some q) &&
    !(s.tp.tx.any fun f => (f.2.unacked ++ f.2.kept ++ f.2.queue).any fun t => t.owner.qp? == some q) &&
    !(s.tags.any fun t => t.2.state == .outstanding && t.2.obj == q && (t.2.role == .descriptor || t.2.role == .payload)) &&
    !(s.waits.any fun w => w.obj == q && (w.role == .descriptor || w.role == .payload)) &&
    !(s.hostq.any fun i => match i.kind with
        | .write _ _ _ _ .record o _ => o == q
        | _ => false) &&
    ((s.qsetOf p).map (fun x => x.unannounced == 0 || x.modTime == 0)).getD true &&
    (p.cons == p.prod || p.state == .stopped || p.state == .error)

/-! ## The spill region (R353, R357) -/

/-- Spill accesses may be made (R357). -/
def State.spillOpen (s : State) : Bool := s.prov.spill && (s.fn 0).cfg.bme && !(s.fn 0).cfg.d3hot

/-- Records the region holds (R352). -/
def State.spillCapacity (s : State) : Nat := min 65536 (s.prov.spillSize.toNat / 512)

/-- The record taken next: one freed before, else the next never used. -/
def State.nextFree (s : State) : Option Nat :=
  match s.plc.freeRecords with
  | r :: _ => if r < s.spillCapacity then some r else none
  | [] => if s.plc.nextRecord < s.spillCapacity then some s.plc.nextRecord else none

/-- Take that record. -/
def State.takeRecord (s : State) : State :=
  match s.plc.freeRecords with
  | _ :: l => { s with plc := { s.plc with freeRecords := l } }
  | [] => { s with plc := { s.plc with nextRecord := s.plc.nextRecord + 1 } }

/-- n free values as 8 bytes each. -/
def freeBytes : Nat → Nat → Bytes
  | 0, _ => []
  | n + 1, i => leBytes 8 (Config.freeValue i).toNat ++ freeBytes n (i + 1)

/-- Key generation of a function (R354). -/
def State.keyGeneration (s : State) (fn : Nat) : W32 := (s.fn fn).keyGen + s.prov.keyGenAll

/-- A record (R353, R354, R424): ciphertext and tag under the key of the function's key generation, then the header. The
context format is not documented: the plain context is 256 B of free values. -/
def State.recordOf (s : State) (q r : Nat) (p : Qp) : Bytes :=
  let gen := (s.keyGeneration p.fn).toNat
  let count := (tgetD s.plc.writeCounts r 0).toNat
  let clear := leBytes 2 q ++ leBytes 2 p.fn ++ leBytes 4 gen ++ leBytes 4 r ++ zeros 212
  let root := s.boot.ident.spillRoot.getD []
  fit 272 (Config.spillSeal root p.fn gen count clear (freeBytes 32 s.freeIdx)) ++ leBytes 8 count ++ leBytes 4 gen ++
    zeros 4 ++ clear

/-- Charge one spill access to the QP's function (R372). -/
def State.spillCharge (s : State) (fn : Nat) : State := (s.charge fn 0x19 1).charge fn 0x15 256

/-- Write a QP's record under PF0's requester ID (R353). -/
def State.spillWrite (s : State) (q r : Nat) : State :=
  match s.qp q with
  | none => s
  | some p =>
    let d := s.recordOf q r p
    let n := tgetD s.plc.writeCounts r 0
    let s := { s with freeIdx := s.freeIdx + 32, plc := { s.plc with writeCounts := tput s.plc.writeCounts r (n + 1) } }
    (s.pushItem 0 (.write (s.prov.spillBase.toNat + 512 * r) d true none .spill q none)).spillCharge p.fn

/-- Ask for a QP's record. -/
def State.spillRead (s : State) (q r : Nat) : State :=
  let w : Wait := { fn := 0, role := .spill, obj := q, addr := s.prov.spillBase.toNat + 512 * r, len := 512, xunit := 0,
                    off := 0, ats := true, asked := false }
  { s.modQp q (fun p => { p with loading := true }) with waits := s.waits ++ [w] }

/-- Forget the reads of a QP's record that have not been issued. -/
def State.spillForget (s : State) (q : Nat) : State :=
  { s.modQp q (fun p => { p with loading := false }) with
           waits := s.waits.filter (fun w => !(w.role == .spill && w.obj == q)),
           plc := { s.plc with retry := s.plc.retry.filter (· != q) } }

/-! ## Moves -/

/-- A migration ends with its source copy in force; the destination is released and the abandonment counted (R358 to R360). -/
def State.dropMove (s : State) (q : Nat) : State :=
  match s.plc.moves.find? (·.1 == q) with
  | none => s
  | some (_, mv, _) =>
    let s := { s with plc := { s.plc with moves := s.plc.moves.filter (fun m => m.1 != q),
                                          migAbort := satInc s.plc.migAbort } }
    let s := s.occFn 0x0804 1 (((s.qp q).map (·.fn)).getD 0)
    match mv with
    | .promote => (s.spillForget q).modQp q fun p => { p with residence := .spilled }
    | .demote =>
      let freed := ((s.qp q).bind (·.record)).toList
      let s := { s with plc := { s.plc with freeRecords := s.plc.freeRecords ++ freed,
                                            retry := s.plc.retry.filter (· != q) },
                        hostq := s.hostq.filter fun i => match i.kind with
                          | .write _ _ _ _ .spill o _ => o != q
                          | _ => true }
      s.modQp q fun p => { p with residence := .onDie, record := none }
    | .engine _ => s.modQp q fun p => { p with residence := p.residence.settled }

/-- A demotion whose QP is quiescent no more is abandoned, and its record discarded (R359). -/
def State.endDemotions (s : State) : State :=
  (s.plc.moves.filter fun m => m.2.1 == .demote && ((s.qp m.1).map fun p => !s.quiescent m.1 p).getD false).foldl
    (fun s m => s.dropMove m.1) s

/-- The context of a spilled QP is on-die from now on: its record is free, doorbells kept apply (R351, R358). -/
def State.promoted (s : State) (q : Nat) : State :=
  match s.qp q with
  | none => s
  | some p =>
    let s := { s with plc := { s.plc with freeRecords := s.plc.freeRecords ++ p.record.toList,
                                          promote := s.plc.promote + 1 } }
    let s := s.modQp q fun p => { p with residence := .onDie, record := none, serviceLoaded := false }
    ((s.spillForget q).occFn 0x0800 1 p.fn).applyKept q

/-- Promote a spilled QP at once, its record read and verified (R127, R432): a promotion under way ends with it, a
demotion is abandoned. -/
def State.promoteNow (s : State) (q : Nat) : State :=
  match s.qp q with
  | none => s
  | some p =>
    if s.qpAway q p || p.serviceLoaded then
      let s := { s with plc := { s.plc with moves := s.plc.moves.filter (fun m => m.1 != q) } }
      (s.spillCharge p.fn).promoted q
    else if (s.plc.moves.find? (·.1 == q)).map (·.2.1) = some .demote then s.dropMove q
    else s

/-- A QP's context is in its record only. -/
def State.demoted (s : State) (q : Nat) : State :=
  match s.qp q with
  | none => s
  | some p =>
    (({ s with plc := { s.plc with demote := s.plc.demote + 1 } }).modQp q fun p =>
      { p with residence := .spilled, serviceLoaded := false }).occFn 0x0801 1 p.fn

/-- A guaranteed slot of its tenant is the QP's: hinted keep on-die, and created early enough among those that are (R348). -/
def State.keepsSlot (s : State) (p : Qp) : Bool :=
  s.resHint p == 1 &&
    decide ((s.qps.filter fun x => x.2.fn == p.fn && s.resHint x.2 == 1 && decide (x.2.made < p.made)).length < s.guaranteed p.fn)

/-- Rank of a QP: its own guaranteed slot, then among those without one PF0's first, then keep on-die, then the score
(R348). -/
def State.rank (s : State) (p : Qp) : Nat × Nat :=
  (if s.keepsSlot p then 4 else 2 * b2n (p.fn == 0) + b2n (s.resHint p == 1), s.score p)

/-- On-die QPs that a demotion may take to make a slot for a QP of a function: quiescent, not migrating, and in a shared slot
or of the same function (R348 to R350). -/
def State.victims (s : State) (fn : Nat) : List (Nat × Qp) :=
  s.qps.filter fun x =>
    x.2.residence == .onDie && (x.2.fn == fn || decide (s.slotsOf x.2.fn > s.guaranteed x.2.fn)) && s.quiescent x.1 x.2

/-- The QP of lowest rank in a list, the first of several. -/
def State.lowest (s : State) (l : List (Nat × Qp)) : Option (Nat × Qp) :=
  l.foldl (fun (best : Option (Nat × Qp)) x =>
    match best with
    | none => some x
    | some b =>
      let a := s.rank x.2
      let c := s.rank b.2
      if a.1 < c.1 || (a.1 == c.1 && decide (a.2 < c.2)) then some x else best) none

/-- The QP that a new QP of a function takes the slot of: of the lowest rank, and of no class above a new QP's (R348, R352). -/
def State.victim (s : State) (fn : Nat) : Option Nat :=
  (s.lowest ((s.victims fn).filter fun x => decide ((s.rank x.2).1 ≤ 2 * b2n (fn == 0)))).map (·.1)

/-- A QP_CREATE can have a slot: a free one, or that of a QP demoted for it (R352). -/
def State.slotToBe (s : State) (fn : Nat) : Bool :=
  s.slotFree fn || (s.spillOpen && s.nextFree.isSome && (s.victim fn).isSome)

/-- Demote a quiescent QP at once: its record is written, its slot is free (R352). -/
def State.demoteNow (s : State) (q : Nat) : State :=
  match s.nextFree with
  | none => s
  | some r => ((s.takeRecord.modQp q fun p => { p with record := some r }).spillWrite q r).demoted q

end Sys2Proof.Machine
end

