-- ==== Sys2Proof/Machine/StitchOps.lean ====
section
/-! DEFINITION. The Stitch engine at work (R222 to R227): the exact arithmetic, status frames that wait for it and are
unpacked, output frames that wait for a Sleeve and leave. -/
namespace Sys2Proof.Machine

/-! ## Entries (R223) -/

/-- SRC_SIGNED. -/
def Stitch.srcSigned (e : Stitch) : Bool := bitAt e.flags.toNat 0

/-- SRC_LE. -/
def Stitch.srcLe (e : Stitch) : Bool := bitAt e.flags.toNat 1

/-- DST_SIGNED. -/
def Stitch.dstSigned (e : Stitch) : Bool := bitAt e.flags.toNat 2

/-- An output frame's LEN. -/
def Stitch.len (e : Stitch) : Nat := e.srcBit

/-! ## Bodies of output frames (R227) -/

/-- Put w bits of a value at bit position p of a body of n bits. -/
def putBits (n body p w v : Nat) : Nat :=
  let at_ := n - p - w
  body - (bits body (at_ + w - 1) at_) * 2 ^ at_ + (v % 2 ^ w) * 2 ^ at_

/-- Write an entry's last result into the body of its frame. -/
def packInto (m : Table Stitch) (e : Stitch) : Table Stitch :=
  tmod m e.dst fun o => { o with body := putBits (8 * o.len) o.body e.dstBit e.dstWidth e.lastOut.toNat }

/-! ## Arithmetic (R225) -/

/-- A field of w bits read as signed. -/
def signed (w v : Nat) : Int := if v ≥ 2 ^ (w - 1) then (v : Int) - 2 ^ w else v

/-- raw of a field. -/
def Stitch.raw (e : Stitch) (v : Nat) : Int :=
  let v := v % 2 ^ e.srcWidth
  let v := if e.srcLe then leNat (beBytes (e.srcWidth / 8) v) else v
  if e.srcSigned then signed e.srcWidth v else v

/-- raw times MUL, shifted right toward minus infinity, plus ADD. -/
def Stitch.scaled (e : Stitch) (raw : Int) : Int := (raw * e.mul.toInt) / 2 ^ e.shift + e.add.toInt

/-- Range of the destination. -/
def Stitch.range (e : Stitch) : Int × Int :=
  let of (w : Nat) (s : Bool) : Int × Int := if s then (-(2 ^ (w - 1)), 2 ^ (w - 1) - 1) else (0, 2 ^ w - 1)
  match e.kind.toNat with
  | 1 => of (8 * 2 ^ (e.dstWidth / 2)) (e.dstWidth % 2 = 1)
  | 2 => of 64 true
  | _ => of e.dstWidth e.dstSigned

/-- The result, and whether it saturated. -/
def Stitch.result (e : Stitch) (raw : Int) : Int × Bool :=
  let r := e.scaled raw
  let lo := e.range.1
  let hi := e.range.2
  if r < lo then (lo, true) else if hi < r then (hi, true) else (r, false)

/-- Count a saturation (STI_SAT). -/
def Sti.sated (x : Sti) (sat : Bool) : Sti := if sat then { x with sat := satInc x.sat } else x

/-- Apply entry n to a raw value: its last values, its destination (R224, R225). -/
def State.stitchApply (s : State) (n : Nat) (e : Stitch) (raw : Int) : State :=
  let r := e.result raw
  let e := { e with lastIn := BitVec.ofInt 64 raw, lastOut := BitVec.ofInt 64 r.1, updates := e.updates + 1, fresh := true }
  let m := tput s.sti.map n e
  let m := if e.kind = 3 || e.kind = 4 then packInto m e else m
  let s := { s with sti := { s.sti with map := m }.sated r.2 }
  if e.kind = 2 then
    let fn := if e.dst = 0 then 0 else fnOfVf e.dst
    if e.dst = 0 || (s.tenant e.dst).isSome then
      s.modFn fn fun f => { f with stitched := tput f.stitched e.dstBit (e.lastOut, e.lastIn) }
    else s
  else s

/-! ## Status frames (R222, R224) -/

/-- The entry takes a frame of a node. -/
def Stitch.matches_ (e : Stitch) (node frame : Nat) : Bool :=
  (e.kind == 1 || e.kind == 2 || e.kind == 3) && e.frame.toNat == frame && (e.node == 0xFFFFF || e.node == node)

/-- Apply one matching entry to a body of len bytes; a field beyond it is counted and skipped (R225). -/
def State.stitchField (s : State) (n : Nat) (e : Stitch) (len body : Nat) : State :=
  if e.srcBit + e.srcWidth > 8 * len then { s with sti := { s.sti with fieldErr := satInc s.sti.fieldErr } }
  else s.stitchApply n e (e.raw (body >>> (8 * len - e.srcBit - e.srcWidth)))

/-- The Stitch engine unpacks a status frame of a node: the entries that match it apply in order. -/
def State.stitchFrame (s : State) (node : Nat) (frame : Bytes) : State :=
  let id := beAt 0 2 frame
  let len := min (beAt 2 2 frame) (frame.length - 4)
  let body := beNat (slice 4 len frame)
  let s := { s with sti := { s.sti with frames := s.sti.frames + 1 } }
  let hits := s.sti.map.filter fun p => p.2.matches_ node id
  if hits.isEmpty then { s with sti := { s.sti with unmatched := s.sti.unmatched + 1 } }
  else hits.foldl (fun s p =>
    match tget s.sti.map p.1 with
    | none => s
    | some e => s.stitchField p.1 e len body) s

/-- Status frames that may await unpacking (R312). -/
def frameRoom : Nat := 64

/-- A status frame arrives: it awaits the Stitch engine, and with 64 waiting it is discarded and counted (R312). The engine
unpacks at once while DP is in Run (log entry 59). -/
def State.frameIn (s : State) (node : Nat) (frame : Bytes) : State :=
  if s.sti.awaiting.length ≥ frameRoom then s.tpCount 0x08 fun t => { t with frameDrop := satInc t.frameDrop }
  else { s with sti := { s.sti with awaiting := s.sti.awaiting ++ [(node, frame)] } }

/-- The frames that await it are unpacked in order, while DP is in Run. -/
def State.unpackFrames (s : State) : State :=
  if (s.dom .dp).state = .run then
    s.sti.awaiting.foldl (fun s x => s.stitchFrame x.1 x.2) { s with sti := { s.sti with awaiting := [] } }
  else s

/-! ## Output frames (R227, R341) -/

/-- The payload of an output frame: head and body. -/
def Stitch.frameBytes (e : Stitch) : Bytes :=
  beBytes 2 e.frame.toNat ++ beBytes 2 e.len ++ beBytes e.len e.body

/-- A frame is due, as its bits stand now. -/
def State.frameDue (s : State) (e : Stitch) : State :=
  let d := e.frameBytes
  let p := { mkPacket 0x09 e.node e.srcWidth d.length 0 0 with payload := d }
  { s with sti := { s.sti with due := s.sti.due ++ [p] } }

/-- Send the frames that are due, oldest first: on Sleeve A, on B when A is down, where the outstanding limit lets them out;
over the Belt when both are down. -/
def State.framesOutN : Nat → State → State
  | 0, s => s
  | n + 1, s =>
    match s.sti.due with
    | [] => s
    | p :: r =>
      let gone (s : State) : State := { s with sti := { s.sti with due := r, oframes := s.sti.oframes + 1 } }
      if s.slvUp .a || s.slvUp .b then
        let sl := s.frameSleeve
        if s.slvReady sl (packetFlits p.len) then State.framesOutN n ((gone s).packetOut sl 0 (s.fillPacket p 0)) else s
      else State.framesOutN n ((gone s).beltSend (s.routeMsg 0x04 p.dst p.payload) p.payload)

/-- Send the frames that are due and may go. -/
def State.framesOut (s : State) : State := State.framesOutN s.sti.due.length s

end Sys2Proof.Machine
end

