-- ==== Sys2Proof/Machine/Faults.lean ====
section
/-! DEFINITION. The fault collector (R438 to R450): the source table and its reset reactions, what an assertion does, block
resets and their escalation, the safe state; and what every command ends with: the host port's pump, the collector and the
mode record. -/
namespace Sys2Proof.Machine

/-! ## Sources and reactions (R441, R442) -/

/-- The source exists: the table does not mark it reserved (R441). -/
def srcExists (n : Nat) : Bool :=
  let within (a b : Nat) : Bool := decide (a ≤ n) && decide (n ≤ b)
  within 0 3 || within 32 40 || within 64 76 || within 128 184 || within 192 305 || within 320 345 || within 352 355 ||
    within 384 386 || within 416 434 || (within 448 511 && decide (n % 4 ≠ 3)) || within 512 519 || within 544 549 ||
    within 576 642 || within 672 675 || within 704 708 || within 736 752 || within 832 847 || within 928 931 ||
    within 960 961

/-- The reset value of a source's reaction code (R441). -/
def reactReset (n : Nat) : Byte :=
  let within (a b : Nat) : Bool := decide (a ≤ n) && decide (n ≤ b)
  if n = 0 || n = 1 || n = 65 || n = 72 then 0x9C
  else if n = 2 || n = 36 || n = 39 || n = 70 || n = 71 then 0x14
  else if n = 34 then 0x03
  else if n = 35 || n = 37 || n = 184 || n = 343 || n = 345 then 0x1C
  else if n = 40 || n = 66 || n = 76 || within 128 183 || n = 305 || n = 929 then 0x05
  else if n = 3 || n = 32 || n = 33 || n = 38 || n = 64 || n = 67 || n = 68 || n = 69 || n = 73 || n = 75 then 0x01
  else if n = 74 || within 192 255 then 0x00
  else if within 256 304 || n = 337 || n = 338 || within 352 355 || n = 384 then 0x01
  else if within 320 346 || n = 386 then 0x00
  else if n = 385 || n = 433 || n = 674 || n = 705 || n = 751 || n = 847 || n = 960 then 0x09
  else if within 416 434 then 0x0B
  else if within 448 511 then (if n % 4 = 0 || n % 4 = 1 then 0x1C else 0x00)
  else if within 512 518 then 0x1C
  else if n = 519 then 0x00
  else if within 544 549 then (if n % 2 = 1 then 0x1C else 0x00)
  else if within 576 639 then (if n % 2 = 1 then 0x1C else 0x00)
  else if n = 640 || n = 641 || n = 672 || n = 673 || n = 752 then 0x1C
  else if n = 642 || n = 704 || within 706 708 || n = 930 then 0x01
  else if n = 744 || within 746 750 || n = 840 || within 842 846 then 0x01
  else 0x00

/-- The reaction code in force for a source. -/
def State.reactOf (s : State) (n : Nat) : Byte := tgetD s.fc.react n (reactReset n)

/-- A reaction code is FIXED (R442). -/
def srcFixed (n : Nat) : Bool := bitAt (reactReset n).toNat 7

/-- ACTION of a reaction code: 0 none, 1 block reset, 2 chip reset, 3 safe state. -/
def actionOf (c : Byte) : Nat := bits c.toNat 4 3

/-! ## Block resets (R447) -/

/-- The blocks that have a block reset. -/
inductive Block where
  | ctl | xlt | stitch | placement | sleeve (sl : Sleeve) | belt | bh
  deriving DecidableEq, Repr

/-- The block of a source that has a block reset. -/
def blockOf (n : Nat) : Option Block :=
  let within (a b : Nat) : Bool := decide (a ≤ n) && decide (n ≤ b)
  if within 416 434 then some .ctl
  else if within 384 415 then some .xlt
  else if n = 674 then some .stitch
  else if n = 704 || n = 705 then some .placement
  else if within 736 831 then some (.sleeve .a)
  else if within 832 927 then some (.sleeve .b)
  else if within 928 959 then some .belt
  else if within 960 991 then some .bh
  else none

/-- Number of a block in the collector's record of block resets. -/
def Block.num : Block → Nat
  | .ctl => 0
  | .xlt => 1
  | .stitch => 2
  | .placement => 3
  | .sleeve .a => 4
  | .sleeve .b => 5
  | .belt => 6
  | .bh => 7

/-- A long command whose commit point lies at its end (R119). -/
def LongKind.lateCommit : LongKind → Bool
  | .tenantCreate | .updateWrite | .updateCommit => true
  | _ => false

/-- Jalid starts again: Pockets go OFFLINE, a request not answered is forgotten, long commands before their commit point
end ABORTED, the image data not yet asked for is left, and an open update session closes (R105, R159, R447). -/
def State.reloadStart (s : State) : State :=
  let fns := tkeys s.fns
  let s := s.sessionLost
  let s := fns.foldl (fun s fn =>
    if (s.fn fn).flr then s
    else
      let gone := (s.fn fn).pocket.longs.filter (·.kind.lateCommit)
      let s := s.modPocket fn fun p =>
        { p with state := .idle, longs := p.longs.filter (fun c => !c.kind.lateCommit) }
      gone.foldl (fun s c => s.cmdFinal fn c.token stAborted (s.abortDetail c) true) s) s
  { s with boot := { s.boot with reloading := true }, waits := s.waits.filter (fun w => w.role != RdRole.image) }

/-- The block returns to its reset state (R447). -/
def State.blockReset (s : State) (b : Block) : State :=
  match b with
  | .ctl => s.reloadStart
  | .xlt =>
    let fns := (s.xlt.cache.map (·.fn) ++ s.xlt.reqs.map (·.fn)).eraseDups
    (fns.foldl (fun s fn => s.xinvalidate fn 0 0 true) s).tdispErrorAll fun _ _ => true
  | .stitch => s
  | .placement => (s.plc.moves.map (·.1)).foldl State.dropMove s
  | .sleeve sl => s.slvDown sl (some 0x01)
  | .belt => (s.bypassClose none).bypassOpen
  | .bh => s.bhReset

/-! ## Lines that stay asserted (R439) -/

/-- Top of the grade's junction range in tenths of a degree C (R1, R521). -/
def tMax : Int := if Config.gradeFE then 1150 else 1050

/-- Maximum current of each rail in mA (R523), in the order of R371. -/
def railMax : List Nat := [55000, 8000, 7000, 2500, 9000, 3000, 1000, 50]

/-- A die temperature of a list. -/
def tempAt (l : List Int) (i : Nat) : Int := lget l i 0

/-- A rail current of a list is above its rail's maximum. -/
def railOver (l : List Nat) (i : Nat) : Bool := decide (lget l i 0 > lget railMax i 0)

/-- A die temperature of a list is above the top of the range. -/
def tempOver (l : List Int) (i : Nat) : Bool := decide (tempAt l i > tMax)

/-- Some die temperature of a list is more than 10 degrees C above the top of the range. -/
def tempFatal (l : List Int) : Bool := l.any fun t => decide (t > tMax + 100)

/-- The line of a source that names a lasting condition is asserted while it holds: no CK_SREF, a sensor or a rail above its
limit, STARVED, the event bits of a Sleeve, OVER (R439, R441; log entry 31). -/
def State.lineHeld (s : State) (n : Nat) : Bool :=
  if n = 37 then s.boot.vdd && !s.clk.srefOk
  else if 128 ≤ n && n ≤ 159 then tempOver s.lin.tempC (n - 128)
  else if 176 ≤ n && n ≤ 183 then railOver s.lin.amps (n - 176)
  else if n = 184 then tempFatal s.lin.tempC
  else if n = 519 then s.plt.host.starved || s.plt.sla.starved || s.plt.slb.starved
  else if 744 ≤ n && n ≤ 750 then bitAt s.slvA.evt.toNat (n - 744)
  else if 840 ≤ n && n ≤ 846 then bitAt s.slvB.evt.toNat (n - 840)
  else n == 930 && s.belt.overHops

/-! ## Logging an assertion (R439, R440) -/

/-- The block's log after one more assertion. -/
def FaultLog.add (l : Option FaultLog) (now : W64) (r : FaultRec) : FaultLog :=
  match l with
  | none => { count := 1, first := now, last := now, detail := r }
  | some l => { count := satInc l.count, first := l.first, last := now, detail := r }

/-- Log an assertion and set the sticky bit; a change from 0 to 1 counts and is recorded in the event log (R439, R440). -/
def State.faultRecord (s : State) (n : Nat) (r : FaultRec) : State :=
  let was := tgetD s.fc.sticky n false
  let l := FaultLog.add (tget s.fc.logs n) s.clk.timebase r
  let s := { s with fc := { s.fc with logs := tput s.fc.logs n l, sticky := tput s.fc.sticky n true } }
  if was then s
  else
    let s := { s with fc := { s.fc with rises := s.fc.rises + 1 } }
    let s := s.occ 0x0A00 1 none none
    s.log 0x02 n (leBytes 1 (s.reactOf n).toNat ++ zeros 3 ++ leBytes 4 l.count.toNat)

/-- Drive ERR_N low and start its pulse (R446). -/
def State.errDrive (s : State) : State := { s with fc := { s.fc with errLow := true, pulse := true } }

/-- The FAULT event of an interrupt reaction (R444). -/
def State.faultEvent (s : State) (n : Nat) : State :=
  let count := ((tget s.fc.logs n).map (·.count.toNat)).getD 0
  s.event 0 (s.mkEvent 0x07 0 0 (n + (s.reactOf n).toNat * 65536 + count * 4294967296))

/-- Lining's record of a trap, which acknowledges it (R445, R461). -/
def State.trapLog (s : State) (n : Nat) : State :=
  let r := ((tget s.fc.logs n).map (·.detail)).getD faultPlain
  (s.log 0x03 n (leBytes 4 r.code.toNat ++ leBytes 4 r.inst.toNat ++ leBytes 8 r.addr.toNat)).log 0x03 n
    (leBytes 8 r.syndrome.toNat) true

/-- Lining can take a trap: it and the control cluster are in Run and its firmware runs. -/
def State.trapReady (s : State) : Bool :=
  (s.dom .ctl).state == .run && (s.dom .lin).state == .run && s.lin.firmware

/-- Deliver the traps that wait (R445). -/
def State.trapDeliver (s : State) : State :=
  if s.trapReady then
    let ts := s.fc.traps
    ts.foldl State.trapLog { s with fc := { s.fc with traps := [] } }
  else s

/-- A trap is raised (R445). -/
def State.trapRaise (s : State) (n : Nat) : State :=
  ({ s with fc := { s.fc with traps := s.fc.traps ++ [n] } }).trapDeliver

/-! ## The safe state (R450) -/

/-- Step 2 and step 3 of R450: Uncorrectable Internal Error in PF0's AER status, and one ERR_FATAL if the link is up and
PF0's controls permit it. -/
def State.safeAer (s : State) : State :=
  let permit := s.link.state != .down && !bitAt (s.cfgRaw 0 66).toNat aerUncorrectableInternal && bitAt (s.errEnables 0) 2
  let one : W32 := BitVec.ofNat 32 (2 ^ aerUncorrectableInternal)
  let s := s.modCfg 0 fun c => { c with aerUnc := c.aerUnc ||| one }
  if permit then s.sendMsg 0 .errFatal else s

/-- The request of an aperture read. -/
def Owner.ofRead : Owner → Bool
  | .aptRead _ _ => true
  | _ => false

/-- Step 4 of R450: DMA halts, and everything decided or staged whose emission has not begun is discarded; an aperture read
whose completion has not begun gets Completer Abort. -/
def State.safeHalt (s : State) : State :=
  let quiet (v : Slv) : Slv := { v with bypassQ := [] }
  let s := s.win.reads.foldl (fun s r => s.complete r.2.fn .ca []) s
  { s with units := tkeep s.units (fun _ u => u.emitted), hostq := [], waits := [],
           win := { s.win with reads := [], slots := [], prefetch := [], held := none },
           tp := { s.tp with tx := tmap s.tp.tx (fun _ f => { f with queue := [], kept := [] }), held := [],
                             awaits := s.tp.awaits.filter fun a => !a.owner.ofRead },
           plt := { s.plt with host := { s.plt.host with queue := [] }, sla := { s.plt.sla with queue := [] },
                               slb := { s.plt.slb with queue := [] } },
           slvA := quiet s.slvA, slvB := quiet s.slvB, belt := { s.belt with txQueue := [] } }

/-- Step 7 of R450 on one Sleeve: FRAY with the reason SAFE and this node where it has a link; then silence (R296). -/
def State.safeFray (s : State) (sl : Sleeve) : State :=
  let v := s.slv sl
  let s := if v.state = .up || v.state = .retrain || v.state = .param then
      s.idleSend sl (frayMsg 0x01 s.tp.node)
    else s
  (s.emit (.signal sl .idle)).modSlv sl fun v => { v with state := .fray }

/-- Transactions Pending of a function (Device Status, bit 5): a read or Translation Request of its own is outstanding (R44). -/
def State.pendingFn (s : State) (fn : Nat) : Bool :=
  (match s.shadow with
  | some x => x.pendingFns.contains fn
  | none => s.tags.any (fun p => p.2.fn == fn && p.2.state == .outstanding) || s.xlt.reqs.any (·.fn == fn))

/-- Freeze the configuration space at the entry to the safe state (R51, R450): before configuration-ready the shadow holds
reset values. -/
def State.freeze (s : State) : State :=
  if !s.boot.cfgReady then
    { s with shadow := some { link := HostLink.init, fns := [], prov := Prov.init, no128 := s.boot.no128,
                              subsysId := s.lin.subsysId, pendingFns := [] } }
  else
    { s with shadow := some { link := s.link, fns := s.fns, prov := s.prov, no128 := s.boot.no128,
                              subsysId := s.lin.subsysId, pendingFns := (tkeys s.fns).filter s.pendingFn } }

/-- Entry into the safe state from BOOT or operation, caused by a source (R443, R450, R476). -/
def State.safeEnter (s : State) (n : Nat) : State :=
  if s.boot.mode = .boot || s.boot.mode = .oper then
    let s := s.sessionLost
    let s := { s with fc := { s.fc with lastSafeValid := true, lastSafe := BitVec.ofNat 11 n, chipResetDue := false } }
    let s := s.log 0x0E n []
    let s := s.safeAer.freeze.safeHalt
    let s := { s with boot := { s.boot with mode := .safe } }
    let s := { s with fc := { s.fc with errLow := true } }
    ((s.safeFray .a).safeFray .b).bypassClose none
  else s

/-! ## Assertions (R443) -/

/-- What one assertion does before its ACTION: record, ERR_N, interrupt, trap. In the safe state the record alone. -/
def State.assertOne (s : State) (x : Nat × FaultRec) : State :=
  if !srcExists x.1 then s
  else
    let rise := !tgetD s.fc.sticky x.1 false
    let s := s.faultRecord x.1 x.2
    if s.boot.mode = .safe then s
    else
      let c := (s.reactOf x.1).toNat
      let s := if bitAt c 2 then s.errDrive else s
      let s := if rise && bitAt c 0 then s.faultEvent x.1 else s
      if rise && bitAt c 1 then s.trapRaise x.1 else s

/-- Take a block reset, or, at the fourth of the block within 1 s, source 3 and a chip reset instead; a block already in a
block reset stays in that one (R447). -/
def State.takeBlockReset (s : State) (b : Block) : State :=
  if b = .ctl && s.boot.reloading then s else
  let now := s.clk.localCount
  let recent := s.fc.recentResets.filter fun r => decide (now < r.2 + 1000000000)
  if (recent.filter fun r => r.1 == b.num).length ≥ 3 then
    let s := { s with fc := { s.fc with chipResetDue := true, recentResets := recent } }
    s.assertOne (3, faultAt b.num)
  else
    let s := { s with fc := { s.fc with recentResets := recent ++ [(b.num, now)],
                                        blockResets := satInc s.fc.blockResets } }
    s.blockReset b

/-- The strongest ACTION due is taken; block resets of different blocks are all taken (R443). Lines of one command come
together: a source whose action is 3 wins over one whose action is 2, and that over the block resets. -/
def State.takeActions (s : State) (l : List (Nat × FaultRec)) : State :=
  let live := (l.map (·.1)).filter srcExists
  match live.find? fun n => actionOf (s.reactOf n) == 3 with
  | some n => s.safeEnter n
  | none =>
    if live.any fun n => actionOf (s.reactOf n) == 2 then { s with fc := { s.fc with chipResetDue := true } }
    else
      let bs := ((live.filter fun n => actionOf (s.reactOf n) == 1).filterMap blockOf).eraseDups
      if s.fc.chipResetDue then s else bs.foldl State.takeBlockReset s

/-- The collector takes every line asserted so far. -/
def State.collect (s : State) : State :=
  let l := s.fc.asserted
  if l.isEmpty then s
  else
    let s := { s with fc := { s.fc with asserted := [] } }
    let s := l.foldl State.assertOne s
    if s.boot.mode = .safe then s else s.takeActions l

/-! ## What every command ends with -/

/-- Buttonhole's LOST interrupt, decided when LOST rose (BH_INT). -/
def State.bhInterrupt (s : State) : State :=
  if s.bh.intDue then ({ s with bh := { s.bh with intDue := false } }).msixTrigger 1 s.bh.intVec.toNat none else s

/-- The pump and the collector, again while lines assert. The first argument bounds the rounds: what a reset of a block
raises is collected in the round after it. -/
def State.settleN : Nat → State → State
  | 0, s => s
  | n + 1, s =>
    let s := s.pump.heldWrite.yieldGrants.recoverFns.arrivalTriggers.unpackFrames.framesOut.endDemotions
    let s := (((s.linkRest .a).linkRest .b).collect).bhInterrupt
    if s.fc.asserted.isEmpty && s.hostq.isEmpty && s.waits.isEmpty && s.plt.arrivals.isEmpty then s
    else State.settleN n s

/-- Record a change of GLB_MODE between the state before a command and the state it leaves (R32, R417). -/
def State.modeNote (was s : State) : State :=
  if was.modeCode = s.modeCode then s else s.log 0x01 s.modeCode (leBytes 1 was.modeCode)

/-- The end of every command: was is the state before it. -/
def settle (was s : State) : State := State.modeNote was (s.settleN 4).floorsWake

/-- The effect of a command on everything but the queue of waiting commands. -/
def effect (f : State → State) (s : State) : State := { settle s (f s) with pending := s.pending }

/-- A command with effect f: no mode stops one (log entry 9). -/
def command (f : State → State) (s : State) : Host.Outcome State Fault Refusal := .next (effect f s)

end Sys2Proof.Machine
end

