-- ==== Sys2Proof/Machine/Power.lean ====
section
/-! DEFINITION. Power domains (R385 to R400): attempts and refusals, entries, wakes and wake
sources, what Deep Sleep drops, and the retention plan (R367, R368). -/
namespace Sys2Proof.Machine

/-- Clients whose floors refuse a target state of a domain, lowest first. Deep Sleep of DP also needs CTX, CTL and XLT to meet
their own floors (R393). -/
def State.refusers (s : State) (d : Domain) (target : PwrState) : List Nat :=
  (List.range 13).filter fun c =>
    decide (s.clientFloor c d > floorCode target) ||
      (d == .dp && target == .deepSleep &&
        [Domain.ctx, .ctl, .xlt].any fun x => decide (s.clientFloor c x > 1))

/-! ## Descent -/

/-- Account a refused attempt to Sleep or Deep Sleep (R389). -/
def State.refusal (s : State) (d : Domain) (target : PwrState) (c : Nat) : State :=
  let s := s.modDom d fun x => { x with refuse := satInc x.refuse }
  let e : Refuse := { time := s.clk.timebase, target := BitVec.ofNat 8 (pwrCode target), domain := BitVec.ofNat 8 d.num,
                      client := BitVec.ofNat 8 c }
  let hist := match s.pwr.hist with
    | h :: r =>
      if h.domain = e.domain && h.target = e.target && h.client = e.client then e :: r else (e :: h :: r).take 8
    | [] => [e]
  let s := { s with pwr := { s.pwr with lastValid := true, lastDomain := BitVec.ofNat 4 d.num,
                                        lastClient := BitVec.ofNat 4 c, hist := hist } }
  s.occ (0x0902 + d.num) 1 none none

/-- The state above a target. -/
def PwrState.above : PwrState → PwrState
  | .run | .idle => .run
  | .sleep => .idle
  | .deepSleep => .sleep
  | .off => .deepSleep

/-- An attempt of a domain, from the state above, to go down to a target (R387): refused while a floor lies above the
target, else the entry starts. BLT leaving Run sends LEAVE 0x02 and closes the bypass (R335, R400). -/
def State.attempt (d : Domain) (target : PwrState) (s : State) : State :=
  let x := s.dom d
  if d = .aon || x.state ≠ target.above || x.entering.isSome || x.waking then s
  else
    match s.refusers d target with
    | c :: _ => if target = .idle then s else s.refusal d target c
    | [] =>
      let s := s.modDom d fun x => { x with entering := some target, wakeNoted := false }
      if d = .blt && target = .idle then s.bypassClose (some 0x02) else s

/-- What Deep Sleep does not keep (R395): the translation cache. -/
def State.deepDrop (s : State) (d : Domain) : State :=
  if d = .xlt then { s with xlt := { s.xlt with cache := [] } } else s

/-- An entry ends; a wake noted meanwhile starts (R392). -/
def State.entryDone (d : Domain) (s : State) : State :=
  match (s.dom d).entering with
  | none => s
  | some t =>
    let s := s.modDom d fun x => { x with state := t, entering := none, waking := x.wakeNoted, wakeNoted := false }
    if t = .deepSleep then s.deepDrop d else s

/-! ## Wake -/

/-- Record the code of the last wake (R390). -/
def State.wakeSource (s : State) (code : Nat) : State := { s with pwr := { s.pwr with wakeSrc := BitVec.ofNat 8 code } }

/-- The PLL of a domain, as GLB_CLK_STATUS numbers them (R412); the memory PLL serves CTX and XLT, the host PHY's follows the
host link. -/
def domainPll : Domain → Option Nat
  | .sla => some 1
  | .slb => some 2
  | .blt => some 3
  | .dp => some 4
  | .ctx => some 5
  | .xlt => some 5
  | .ctl => some 6
  | .lin => some 7
  | .hst => none
  | .bh => none
  | .aon => none

/-- A PLL relocks as its domain leaves Sleep or Deep Sleep (R412); the Belt's lets the bypass open again. -/
def State.relock (s : State) (d : Domain) : State :=
  match domainPll d with
  | none => s
  | some n =>
    if !s.clk.srefOk then s
    else
      let s := { s with clk := { s.clk with pllLock := s.clk.pllLock ||| BitVec.ofNat 8 (2 ^ n) } }
      if d = .blt then { s with belt := { s.belt with txReady := true } } else s

/-- A waking domain reaches Run; traps that waited are delivered (R385, R412, R445). -/
def State.wakeDone (d : Domain) (s : State) : State :=
  if (s.dom d).waking then
    let s := if (s.dom d).state = .idle then s else s.relock d
    let s := s.modDom d fun x => { x with state := .run, waking := false }
    let s := if d = .blt then s.bypassOpen else s
    s.trapDeliver
  else s

/-- HST, and every domain that HOST_LINK raises once the link is on its way to L0 (R55, R390 source 0x01): those whose floor
then lies above their state, or above the state they are entering. -/
def State.hostWake (s : State) : State :=
  let up := { s with link := { s.link with state := .l10 } }
  allDomains.foldl (fun s d =>
    if d == .hst || decide (up.floorHost d > floorCode (s.dom d).depth) then s.wake d else s) s

/-- A PME wake event of PF0 in D3hot, for a source whose PWR_PME_EN bit is 1 (R48, R391): PME_Status is set, and PM_PME
goes out while PME_En is 1 (bits 15 and 8 of the power management control register; log entry 4). -/
def State.pmeEvent (s : State) (source : Nat) : State :=
  if (s.fn 0).cfg.d3hot && s.boot.mode == .oper && bitAt s.pwr.pmeEn.toNat (source - 5) then
    let v := s.cfgRaw 0 17
    let s := s.modCfg 0 fun c => { c with raw := tput c.raw 17 (v ||| 0x8000) }
    if bitAt v.toNat 8 && s.link.state != .down then s.sendMsg 0 .pme else s
  else s

/-- A wake source in device Off: PEWAKE_N is driven low when PWR_PME_EN enables it (R48, R390). -/
def State.offWake (s : State) (source : Nat) : State :=
  let s := s.wakeSource source
  if bitAt s.pwr.pmeEn.toNat (source - 5) then { s with link := { s.link with pewake := true } } else s

/-! ## The retention plan (R367) -/

/-- Mask of the lowest n banks. -/
def bankMask (n : Nat) : W32 := BitVec.ofNat 32 (2 ^ n - 1)

/-- Banks that the on-die contexts fill once compacted. -/
def State.banksNeeded (s : State) : Nat :=
  ((s.qps.filter fun p => p.2.residence == .onDie).length + 1023) / 1024

/-- The plan is complete once no context beyond the retained banks is left on-die (R367). -/
def State.planDone (s : State) : State :=
  if s.plc.planning && s.excessContexts == 0 && s.plc.moves.isEmpty then
    { s with plc := { s.plc with planning := false, retained := true, retBanks := bankMask s.banksNeeded } }
  else s

/-- No plan is in force: work has come. -/
def State.planDrop (s : State) : State :=
  { s with plc := { s.plc with planning := false, retained := false, retBanks := 0 } }

/-! ## The commands -/

/-- DOMAIN_IDLE_ATTEMPT (R387). -/
def execDomainIdleAttempt (d : Domain) (s : State) := command (State.attempt d .idle) s

/-- DOMAIN_SLEEP_ATTEMPT (R387, R389). -/
def execDomainSleepAttempt (d : Domain) (s : State) := command (State.attempt d .sleep) s

/-- DOMAIN_DEEP_SLEEP_ATTEMPT (R387, R389, R393). -/
def execDomainDeepSleepAttempt (d : Domain) (s : State) := command (State.attempt d .deepSleep) s

/-- DOMAIN_ENTRY_COMPLETE (R392, R395). -/
def execDomainEntryComplete (d : Domain) (s : State) := command (State.entryDone d) s

/-- DOMAIN_WAKE (R387, R390): an access or new work. -/
def State.accessWake (d : Domain) (s : State) : State :=
  let below := (s.dom d).entering.isSome || ((s.dom d).state != .run && (s.dom d).state != .off)
  if below then (s.wake d).wakeSource 0x04 else s

/-- DOMAIN_WAKE (R387, R390). -/
def execDomainWake (d : Domain) (s : State) := command (State.accessWake d) s

/-- WAKE_COMPLETE (R385, R392). -/
def execWakeComplete (d : Domain) (s : State) := command (State.wakeDone d) s

/-- PWR_CTRL.CLR_HIST written with 1 (R389). -/
def State.clearHistory (s : State) : State :=
  { s with pwr := { s.pwr with doms := s.pwr.doms.map (fun x => { x with refuse := 0 }), lastValid := false,
                               lastDomain := 0, lastClient := 0, hist := [] } }

end Sys2Proof.Machine
end

