-- ==== Sys2Proof/Machine/Boot.lean ====
section
/-! DEFINITION. Supplies, straps, boot stages and image selection (R403 to R411), clocks (R404, R413), the reset commands
(R414 to R416), the host link's events (R34, R35, R41, R54, R55) and the wake pins (R48, R390). -/
namespace Sys2Proof.Machine

/-! ## Power -/

/-- What survives a loss of VAON: MRAM, the flash and the fuses (R414, R456); ADDR_SEL is sampled at the release of AON
power-on reset (R507). -/
def State.powerOn (s : State) (addrSel : BitVec 2) (mode : Mode) : State :=
  { State.reset with
    boot := { Boot.init with mode := mode, vaon := mode != .noPower, addrSel := addrSel, fieldLock := s.boot.fieldLock,
                             fuses := s.boot.fuses, next := s.boot.next, prev := s.boot.prev,
                             pendingBoot := s.boot.pendingBoot, attempts := s.boot.attempts,
                             recordBad := s.boot.recordBad, slotA := s.boot.slotA, slotB := s.boot.slotB,
                             slotR := s.boot.slotR },
    tp := { Tp.init with epoch := s.tp.epoch },
    el := { El.init with opCap := s.el.opCap, opWindow := s.el.opWindow, coefSet := s.el.coefSet },
    lin := { s.lin.restarted with bus := none, session := Session.none, ageSel := 0, autoRetire := true, autoDerate := true },
    out := s.out, freeIdx := s.freeIdx, pending := s.pending }

/-- VAON becomes valid after its loss. -/
def State.vaonUp (addrSel : BitVec 2) (s : State) : State :=
  if s.boot.mode = .noPower then s.powerOn addrSel .off else s

/-- VAON_VALID (R414, R416, R507). -/
def execVaonValid (addrSel : BitVec 2) (s : State) := command (State.vaonUp addrSel) s

/-- VAON is lost: everything except MRAM and fuses clears; the Belt bypass falls closed (R335, R414). -/
def State.vaonDown (s : State) : State := if s.boot.mode = .noPower then s else s.powerOn 0 .noPower

/-- VAON_LOST (R335, R414). -/
def execVaonLost (s : State) := command State.vaonDown s

/-- The PLLs lock while CK_SREF and VDD are present (R412, R413); bit 0, the host PHY PLL, follows the host link. -/
def State.plls (s : State) : State :=
  let host := s.clk.pllLock &&& 0x01
  let on : Byte := if s.clk.srefOk && s.boot.vdd then 0xFE else 0
  { s with clk := { s.clk with pllLock := host ||| on }, belt := { s.belt with txReady := on != 0 } }

/-- VDD and VDDS become valid in OFF: every domain has power, the boot ROM starts and samples BOOT_SEL (R405, R507). -/
def State.vddUp (bootSel : Bool) (s : State) : State :=
  if s.boot.mode = .off then
    let s := { s with boot := { s.boot with vdd := true }, pwr := { s.pwr with doms := s.pwr.doms.map (Dom.powered .run) } }
    let s := (s.startRom bootSel).plls
    { s with boot := { s.boot with mode := .standby } }
  else s

/-- VDD_VALID (R405, R416). -/
def execVddValid (bootSel : Bool) (s : State) := command (State.vddUp bootSel) s

/-- SUPPLY_LOSS (R414, R416). -/
def execSupplyLoss (s : State) :=
  command (fun s => if s.boot.mode = .noPower || s.boot.mode = .off then s else s.supplyLoss) s

/-! ## Image selection (R408, R409) -/

/-- The header of a slot is good (R469): MAGIC, CRC, the manifest's IMAGE_LEN and its digest. -/
def headerGood (f : Found) : Bool :=
  f.header.magic == 0x31484442 && f.header.crcOk && f.header.digestOk && f.header.imageLen == f.manifest.imageLen

/-- The manifest is good and its keys and both signatures verify (R435, R470). -/
def manifestGood (f : Found) : Bool :=
  let m := f.manifest
  m.magic == 0x31544442 && m.format == 1 && decide (m.secVer ≤ 64) && decide (3 ≤ m.sections.length) &&
    decide (m.sections.length ≤ 16) && m.imageLen % 4096 == 0 && decide (m.imageLen ≤ 2 ^ 25) && f.keys && f.ecdsa && f.mldsa

/-- The largest length of a section type (R471); a reserved type is bounded by the image alone. -/
def sectionMax (type : Nat) : Nat :=
  if type = 1 || type = 3 then 2 ^ 20
  else if type = 2 then 2 ^ 21
  else if type = 4 then 2 ^ 18
  else if type = 5 then 2 ^ 14
  else if type = 6 then 2 ^ 22
  else 2 ^ 25

/-- The sections are good (R471): types 0x0001 to 0x0003 once each, none above its largest length, within IMAGE_LEN, without
overlap, every hash right. -/
def sectionsGood (f : Found) : Bool :=
  let l := f.manifest.sections
  [0x0001, 0x0002, 0x0003].all (fun t => (l.filter fun x => x.type.toNat == t).length == 1) &&
    l.all (fun x => decide (x.len ≤ sectionMax x.type.toNat) && decide (x.off + x.len ≤ f.manifest.imageLen)) &&
    (List.range l.length).all (fun i => (List.range i).all fun j =>
      match l[i]?, l[j]? with
      | some x, some y => !overlap x.off x.len y.off y.len
      | _, _ => true) && f.hashes

/-- What the ROM finds of a slot lets it boot: a valid header, both signatures, the section hashes and the anti-rollback
rule (R408, R435, R436). A header erased and not written again is not valid (R472). -/
def State.slotBoots (s : State) (x : Slot) (f : Found) : Bool :=
  headerGood f && !(s.boot.slot x).erased && manifestGood f && sectionsGood f && decide (f.manifest.secVer ≥ s.boot.fuses)

/-- Bit of a slot in GLB_BOOT.REJECT. -/
def rejectBit (x : Slot) : BitVec 3 := BitVec.ofNat 3 (2 ^ slotCode x)

/-- The slots in the order tried, and the record in force (R408, R409): NEXT, PREVIOUS, PENDING, ATTEMPTS, FALLBACK. -/
structure BootPlan where
  next : Slot
  prev : Slot
  pend : Bool
  tries : Nat
  fallback : Bool
  order : List Slot

/-- The other of slots A and B. -/
def Slot.twin : Slot → Slot
  | .a => .b
  | .b => .a
  | .recovery => .a

/-- The plan of a ROM stage. -/
def State.bootPlan (s : State) : BootPlan :=
  let b := s.boot
  let base : BootPlan := if b.recordBad then ⟨.a, .b, false, 0, false, []⟩ else ⟨b.next, b.prev, b.pendingBoot, b.attempts, false, []⟩
  if b.bootSel then { base with order := [.recovery, base.next, base.next.twin] }
  else
    let p := if base.pend && base.tries == 2 then { base with next := base.prev, pend := false, fallback := true } else base
    { p with order := [p.next, p.next.twin, .recovery] }

/-- What a slot's check found. -/
def foundOf (a b rec' : Found) : Slot → Found
  | .a => a
  | .b => b
  | .recovery => rec'

/-- The slot that boots and those rejected before it. -/
def State.selectSlot (s : State) (f : Slot → Found) : List Slot → Option Slot × List Slot
  | [] => (none, [])
  | x :: r =>
    if s.slotBoots x (f x) then (some x, [])
    else
      let y := s.selectSlot f r
      (y.1, x :: y.2)

/-- What Lining knows of a slot after the ROM has tried it. -/
def State.noteSlot (s : State) (x : Slot) (f : Found) (ok : Bool) : State :=
  let i := s.boot.slot x
  { s with boot := s.boot.setSlot x { i with valid := ok, secVer := f.manifest.secVer, build := f.manifest.build } }

/-- A slot is rejected at this boot (GLB_BOOT.REJECT). -/
def State.rejectSlot (s : State) (x : Slot) (f : Found) : State :=
  let s := s.noteSlot x f false
  { s with boot := { s.boot with reject := s.boot.reject ||| rejectBit x } }

/-- A BOOT record of the event log (R461). -/
def State.logBoot (s : State) : State :=
  s.log 0x07 (slotCode s.boot.running) (leBytes 4 s.glbBoot ++ zeros 4 ++ leBytes 8 s.runningBuild.toNat)

/-- The keys that the ROM derives (R424): the root of the spill keys is fresh at each boot; the Alias key is that of the image
that boots. -/
def State.derive (s : State) (pick : Option Slot) : State :=
  let id := Config.deviceIdPair Config.deviceSecret
  let leaf (x : Slot) : Bytes :=
    let i := s.boot.slot x
    Config.aliasPair id (Config.measurement 2 i.build.toNat) (Config.measurement 3 i.build.toNat) i.secVer
  { s with
    freeIdx := s.freeIdx + 4,
    boot := { s.boot with ident := { deviceId := some id, aliasKey := pick.map leaf,
                                     spillRoot := some (Config.spillRootOf Config.deviceSecret (freeBytes 4 s.freeIdx)) } } }

/-- The ROM stage ends with what it found of the three slots and of the boot record's two copies (R408, R409, R411). -/
def State.romDone (a b : Found) (r : RecoveryFound) (s : State) : State :=
  if s.boot.stage ≠ .rom || !s.clk.srefOk then s
  else
    let s := { s with boot := { s.boot with recordBad := r.recordBad } }
    let f := foundOf a b r.slot
    let p := s.bootPlan
    let pick := s.selectSlot f p.order
    let s := pick.2.foldl (fun s x => s.rejectSlot x (f x)) s
    match pick.1 with
    | none => (({ s with boot := { s.boot with stage := .noImage } }).derive none).logBoot
    | some x =>
      let s := (s.noteSlot x (f x) true).derive (some x)
      let p := if !s.boot.bootSel && x != p.next then { p with next := x, pend := false, fallback := true } else p
      let p := if p.pend then { p with tries := p.tries + 1 } else p
      if s.boot.recordBad then
        { s with boot := { s.boot with stage := .lining, running := x, fallback := x != .a } }
      else
        { s with boot := { s.boot with stage := .lining, running := x, fallback := p.fallback, next := p.next,
                                       prev := p.prev, pendingBoot := p.pend, attempts := p.tries } }

/-- MANIFEST_ACCEPTED (R408, R409, R411). -/
def execManifestAccepted (a b : Found) (r : RecoveryFound) (s : State) := command (State.romDone a b r) s

/-! ## Lining load to configuration-ready (R405, R406) -/

/-- Apply the board's reaction overrides to bytes that are not FIXED (R441). -/
def State.applyOverrides (s : State) : State :=
  { s with fc := { s.fc with react := s.lin.reactOverrides.foldl (fun r p =>
      if srcExists p.1 && !srcFixed p.1 then tput r p.1 p.2 else r) s.fc.react } }

/-- Both copies of a bad boot record are written afresh, and source 68 is set (R409). -/
def State.rewriteRecord (s : State) : State :=
  if s.boot.recordBad then
    let x := s.boot.running
    ({ s with boot := { s.boot with recordBad := false, next := x, prev := x, pendingBoot := false, attempts := 0 } }).raise
      68 faultPlain
  else s

/-- A Sleeve enabled at the start of the Jalid load leaves DISABLED for DOWN: the epoch has been raised, and a boot without an
image leaves both Sleeves DISABLED (R280, R322, R411). -/
def State.slvArm (s : State) (sl : Sleeve) : State :=
  s.modSlv sl fun v => if v.state == .disabled && v.enable then { v with state := .down } else v

/-- Lining firmware runs (R398, R405, R408, R409, R441, R462). -/
def State.liningUp (s : State) : State :=
  if s.boot.stage ≠ .lining then s
  else
    let s := { s with lin := { s.lin with firmware := true } }
    let s := s.applyOverrides.rewriteRecord
    let s := s.log 0x04 s.boot.resetCause.toNat (leBytes 8 s.runningBuild.toNat)
    let s := s.logBoot
    let s := if s.boot.fallback then s.raise 64 faultPlain else s
    let s := if s.boot.resetCause = 0x07 && s.pwr.brownout then
        (s.log 0x05 0 (leBytes 1 s.pwr.aonLoad.toNat)).raise 32 faultPlain
      else s
    if s.boot.perst then { s with boot := { s.boot with stage := .liningDone, mode := .standby } }
    else if s.boot.mode = .factory then { s with boot := { s.boot with stage := .liningDone } }
    else (({ s with boot := { s.boot with stage := .jalidLoad, mode := .boot } }).slvArm .a).slvArm .b

/-- LINING_LOAD_COMPLETE (R405). -/
def execLiningLoadComplete (s : State) := command State.liningUp s

/-- PERST_N_ASSERT (R407, R414, R416). -/
def execPerstNAssert (s : State) :=
  command (fun s => if s.boot.mode = .noPower then s
    else if s.boot.mode = .off then { s with boot := { s.boot with perst := true } } else s.perstReset) s

/-- PERST_N deasserts (R405, R407, R414, R416, R437): the epoch is raised, FTEST_N is sampled, and the Jalid load starts
once Lining runs. FACTORY has no key (R437). PEWAKE_N is released (R48); the edge is wake source 0x03 (R55, R390). -/
def State.perstUp (ftestN : Bool) (s : State) : State :=
  if !s.boot.perst then s
  else
    let s := { s with boot := { s.boot with perst := false, no128 := s.lin.host128 }, link := { s.link with pewake := false },
                      el := { s.el with windowAt := s.clk.localCount } }
    if s.boot.mode ≠ .standby then s
    else
      let s := (allDomains.foldl State.wake s.raiseEpoch).wakeSource 0x03
      if !ftestN && !s.boot.fieldLock then { s with boot := { s.boot with mode := .factory, ident := Identity.init } }
      else
        if s.boot.stage = .liningDone then
          (({ s with boot := { s.boot with mode := .boot, stage := .jalidLoad } }).slvArm .a).slvArm .b
        else { s with boot := { s.boot with mode := .boot } }

/-- PERST_N_DEASSERT (R405, R416). -/
def execPerstNDeassert (ftestN : Bool) (s : State) := command (State.perstUp ftestN) s

/-- The Jalid section is in place (R405). -/
def State.jalidLoaded (s : State) : State :=
  if s.boot.stage = .jalidLoad && s.boot.mode = .boot then { s with boot := { s.boot with stage := .jalidStart } } else s

/-- JALID_LOAD_COMPLETE (R405). -/
def execJalidLoadComplete (s : State) := command State.jalidLoaded s

/-- Jalid has built its views: every GENERATION increments, the configuration space answers (R78, R79, R406, R416). -/
def State.configReady (s : State) : State :=
  if s.boot.stage = .jalidStart && s.boot.mode = .boot then
    { s with boot := { s.boot with stage := .ready, mode := .oper, cfgReady := true },
             prov := { s.prov with genAll := s.prov.genAll + 1 } }
  else s

/-- CONFIGURATION_READY (R406, R416). -/
def execConfigurationReady (s : State) := command State.configReady s

/-- Blow fuses up to the running image's security version (R436); logged when any is blown (R461). -/
def State.blowFuses (s : State) : State :=
  let v := min 64 (s.boot.slot s.boot.running).secVer
  if v > s.boot.fuses then
    let s := s.log 0x09 v (leBytes 1 s.boot.fuses)
    { s with boot := { s.boot with fuses := v } }
  else s

/-- Jalid's self-test commit reaches Lining (R410, R436). It is withheld while a section has failed (R471). -/
def State.selfTestDone (s : State) : State :=
  if s.boot.mode = .oper && !s.boot.committed && s.boot.sectionsOk then
    let s := s.blowFuses
    { s with boot := { s.boot with pendingBoot := false, attempts := 0, committed := true } }
  else s

/-- SELF_TEST_COMMIT (R410, R436). -/
def execSelfTestCommit (s : State) := command State.selfTestDone s

/-- The remaining sections have been loaded and checked (R471): a failure in a committed image sets source 65. -/
def State.sectionsDone (ok : Bool) (s : State) : State :=
  if s.boot.mode ≠ .oper then s
  else if ok then { s with boot := { s.boot with sectionsOk := true } }
  else
    let s := { s with boot := { s.boot with sectionsOk := false } }
    if s.boot.pendingBoot then s else s.raise 65 faultPlain

/-- REMAINING_SECTIONS_LOAD (R405, R471). -/
def execRemainingSectionsLoad (hashesOk : Bool) (s : State) := command (State.sectionsDone hashesOk) s

/-! ## Resets -/

/-- A chip reset may happen: the device has VDD and is not FACTORY (R416). -/
def State.resettable (s : State) : Bool :=
  match s.boot.mode with
  | .noPower | .off | .factory => false
  | _ => true

/-- BOOT_TIMEOUT (R410): PENDING 1, no commit 5 s after the Jalid load started, not in SAFE. -/
def execBootTimeout (bootSel : Bool) (s : State) :=
  command (fun s =>
    if s.boot.pendingBoot && !s.boot.committed && (s.boot.mode == .oper || (s.boot.mode == .boot &&
        (s.boot.stage == .jalidLoad || s.boot.stage == .jalidStart))) then (s.chipReset 0x05 bootSel true).plls else s) s

/-- CHIP_RESET (R414, R448): cause 0x04 needs a chip-reset reaction in progress, 0x06 is the operator's request; the
other causes have commands of their own. -/
def execChipReset (cause : Byte) (bootSel : Bool) (s : State) :=
  command (fun s =>
    if s.resettable && ((cause = 0x04 && s.fc.chipResetDue) || cause = 0x06) then
      (s.chipReset cause bootSel true).plls
    else s) s

/-- BROWN_OUT (R398, R415): BROWNOUT is set and the power controller asserts a chip reset; the safe state never sees one
(R450). -/
def execBrownOut (bootSel : Bool) (s : State) :=
  command (fun s =>
    if s.resettable && s.boot.mode != .safe then
      let load := s.pwr.aonLoad
      let s := s.wear fun d => { d with brownouts := d.brownouts + 1 }
      let s := (({ s with pwr := { s.pwr with brownout := true } }).chipReset 0x07 bootSel false).plls
      { s with pwr := { s.pwr with aonLoad := load } }
    else s) s

/-- CHIP_RESET_WATCHDOG (R448): Lining has not commanded the reaction's chip reset in time. -/
def execChipResetWatchdog (bootSel : Bool) (s : State) :=
  command (fun s => if s.resettable && s.fc.chipResetDue then (s.chipReset 0x04 bootSel false).plls else s) s

/-- The host link is no longer up: its state and pins. DEG_CAUSE keeps the width of the last training (R41). -/
def State.linkLost (s : State) : State :=
  { s with link := { s.link with state := .down, lanes := 0, ltr := none, clkreq := true },
           clk := { s.clk with pllLock := s.clk.pllLock &&& 0xFE } }

/-- A hot reset, or a link-down that no hot reset preceded (source 337). In the safe state the link only retrains
(R450). -/
def State.hostReset (down : Bool) (s : State) : State :=
  if s.link.state = .down then s
  else if s.boot.mode = .safe then s.linkLost
  else
    let s := s.linkLost.hotReset (if down then 0x09 else 0x08)
    if down then s.raise 337 faultPlain else s

/-- HOT_RESET (R49, R69, R414). -/
def execHotReset (s : State) := command (State.hostReset false) s

/-- HOST_LINK_DOWN (R49, R414, R441). -/
def execHostLinkDown (s : State) := command (State.hostReset true) s

/-! ## Clocks (R404, R413) -/

/-- CK_SREF is lost: every PLL but the host PHY's stops, the bypass closes, source 37 is set while VDD is valid. -/
def State.srefLost (s : State) : State :=
  let s := ({ s with clk := { s.clk with srefOk := false } }).plls.bypassClose none
  if s.boot.vdd then s.raise 37 faultPlain else s

/-- CK_SREF_LOSS (R413). -/
def execCkSrefLoss (s : State) := command (fun s => if s.clk.srefOk && s.powered then s.srefLost else s) s

/-- CK_SREF_PRESENT (R413). -/
def execCkSrefPresent (s : State) :=
  command (fun s => if s.powered then
    let s := ({ s with clk := { s.clk with srefOk := true } }).plls
    s.bypassOpen else s) s

/-- Domain of a PLL (R412, GLB_CLK_STATUS). -/
def pllDomain : Nat → Domain
  | 0 => .hst
  | 1 => .sla
  | 2 => .slb
  | 3 => .blt
  | 4 => .dp
  | 5 => .ctx
  | 6 => .ctl
  | _ => .lin

/-- A PLL loses lock: source 39 while its domain is in Run; the Belt's closes the bypass (R335, R441). -/
def State.pllLost (pll : Nat) (s : State) : State :=
  if pll ≥ 8 || !bitAt s.clk.pllLock.toNat pll then s
  else
    let s := { s with clk := { s.clk with pllLock := s.clk.pllLock &&& ~~~(BitVec.ofNat 8 (2 ^ pll)) } }
    let s := if pll = 3 then ({ s with belt := { s.belt with txReady := false } }).bypassClose none else s
    if (s.dom (pllDomain pll)).state = .run then s.raise 39 (faultAt pll) else s

/-- PLL_LOCK_LOSS (R413, R441). -/
def execPllLockLoss (pll : Nat) (s : State) := command (State.pllLost pll) s

/-- XTAL_STABLE (R404). -/
def execXtalStable (s : State) :=
  command (fun s => if s.powered then { s with clk := { s.clk with xtalOk := true } } else s) s

/-- XTAL_TIMEOUT (R441, R511). -/
def execXtalTimeout (s : State) :=
  command (fun s => if s.powered then ({ s with clk := { s.clk with xtalOk := false } }).raise 38 faultPlain else s) s

/-! ## The host link -/

/-- A width of the host link (R34). -/
def hostWidth (n : Nat) : Bool := n == 1 || n == 2 || n == 4 || n == 8 || n == 16

/-- The next link-up after AGE_CTRL.CLEAR_DERATE ends action 0x05 (R481). -/
def State.hostFreed (s : State) : State :=
  if s.lin.clearHost then
    { s with lin := { s.lin with host128 := false, clearHost := false }, boot := { s.boot with no128 := false } }
  else s

/-- FS and LF of the Y7's transmitter at a rate (R39). -/
def fsLf (rate : Nat) : Nat × Nat := if rate ≤ 5 then (48, 12) else (63, 21)

/-- The Y7's transmitter preset at a rate until the root port directs another: P7 for NRZ, Q5 for PAM4 (R39). -/
def startPreset (rate : Nat) : TxSetting := if rate ≤ 5 then .preset 7 else .preset 5

/-- The settings that the Y7 accepts in Phase 2 (R39): presets 0 to 10, and coefficients whose sum is FS and whose main
cursor exceeds the others by LF (the base specification's rule; log entry 4). -/
def txAccepted (rate : Nat) : TxSetting → Bool
  | .preset n => decide (n ≤ 10)
  | .coefs p2 p m q => decide (p2 + p + m + q = (fsLf rate).1) && decide (p2 + p + q + (fsLf rate).2 ≤ m)

/-- One equalization (R39): Phase 2 evaluates the setting that the root port requests, Phase 3 starts from the stored
coefficients and ends in the final ones, which Lining stores. -/
def State.equalize (s : State) (e : Equalized) : State :=
  if e.rate < 3 then s
  else
    let s := s.emit (.eqStart e.rate (s.lin.startCoefs 0 e.rate 16))
    let tx := if txAccepted e.rate e.asked then tput s.link.tx e.rate e.asked else s.link.tx
    { s with link := { s.link with tx := tx, equalized := s.link.equalized ++ [e.rate] },
             lin := s.lin.storeFinals 0 e.rate e.found }

/-- The transmitter setting in force at a rate (R39). -/
def HostLink.txAt (l : HostLink) (rate : Nat) : TxSetting := tgetD l.tx rate (startPreset rate)

/-- The physical lane of a logical lane: from 0 upward, or from 15 downward when reversed (R40). -/
def HostLink.physical (l : HostLink) (lane : Nat) : Nat := if l.reversed then 15 - lane else lane

/-- What the host port's training sequences advertise: every rate but a withheld 128.0 GT/s, flit mode, and Upconfigure
Capability (R34, R41, R481). -/
def State.advertise (s : State) : State :=
  s.emit (.hostTraining ((List.range 7).map (· + 1) |>.filter fun r => r != 7 || !s.boot.no128) true true)

/-- The host link finishes training (R39 to R41). 128.0 GT/s is not offered while the margin plan has derated it (R481). -/
def State.linkUp (lanes rate : Nat) (flit : Bool) (t : HostTraining) (s : State) : State :=
  let may := s.boot.mode == .oper || s.boot.mode == .safe || (s.boot.mode == .boot && s.boot.stage != .noImage)
  if !may || !hostWidth lanes || rate < 1 || rate > 7 || (rate = 7 && s.boot.no128 && !s.lin.clearHost) || (rate ≥ 6 && !flit) then s
  else
    let deg := decide (lanes < 16) && (t.laneFailure || s.boot.degHost)
    let s := s.hostFreed.advertise
    let s := { s with link := { s.link with tx := [], equalized := [] } }
    let s := t.eqs.foldl State.equalize s
    let s := { s with
      link := { s.link with state := .l0, lanes := lanes, trained := lanes, rate := rate, flit := flit, ltr := none,
                            clkreq := true, reversed := t.reversed, inverted := t.inverted },
      boot := { s.boot with degHost := deg }, clk := { s.clk with pllLock := s.clk.pllLock ||| 0x01 },
      el := { s.el with hostW := lanes } }
    if decide (lanes < 16) && t.laneFailure then s.raise 338 faultPlain else s

/-- HOST_LINK_TRAINED (R34, R39 to R41, R441). -/
def execHostLinkTrained (lanes rate : Nat) (flit : Bool) (t : HostTraining) (s : State) :=
  command (State.linkUp lanes rate flit t) s

/-- L0P_WIDTH_CHANGE (R35): no error and no event. -/
def execL0pWidthChange (lanes : Nat) (s : State) :=
  command (fun s => if s.link.state = .l0 && s.link.flit && hostWidth lanes && lanes != 1 && decide (lanes ≤ s.link.trained) then
    { s with link := { s.link with lanes := lanes }, el := { s.el with hostW := lanes } } else s) s

/-- Some queue set holds work (R54, R367). -/
def State.anyQueueWork (s : State) : Bool := s.qps.any fun p => p.2.prod != p.2.cons || !p.2.descs.isEmpty

/-- An LTR message of PF0, sent while LTR Mechanism Enable (Device Control 2, bit 10) is 1 (R44, R54). -/
def State.sendLtr (s : State) (us : Nat) : State :=
  if bitAt (s.cfgRaw 0 30).toNat 10 then ({ s with link := { s.link with ltr := some us } }).sendMsg 0 (.ltr us) else s

/-- LTR_MESSAGE (R54): 20 us once a queue set holds work; no retention plan is in force from then on. -/
def execLtrMessage (s : State) :=
  command (fun s => if s.link.state != .down && s.anyQueueWork && s.link.ltr != some 20 then
    (s.sendLtr 20).planDrop else s) s

/-- A QUIET Sleeve is woken: the wake pattern, then the retrain to UP (R293, R399). -/
def State.quietWake (s : State) (sl : Sleeve) : State :=
  if (s.slv sl).state = .quiet then ((s.wake sl.domain).emit (.signal sl .wakePattern)).slvRetrain sl else s

/-- CLKREQ_N_ASSERT (R55, R390): wake source 0x02, and every domain that the next request needs starts its wake at once. -/
def execClkreqNAssert (s : State) :=
  command (fun s => if s.link.state = .l11 || s.link.state = .l12 then
    ({ s with link := { s.link with clkreq := true } }).hostWake.wakeSource 0x02 else s) s

/-- The host link returns to L0 (R55, R390, R399). -/
def State.l1Leave (s : State) : State :=
  match s.link.state with
  | .l10 | .l11 | .l12 =>
    let deep := s.link.state == .l12
    let s := { s with link := { s.link with state := .l0, clkreq := true } }
    let s := s.hostWake.wakeSource 0x01
    if deep then (s.quietWake .a).quietWake .b else s
  | _ => s

/-- L1_EXIT (R55, R390). -/
def execL1Exit (s : State) := command State.l1Leave s

/-- The host link enters a low-power state (R55, R394); CLKREQ_N is released in L1.1 and L1.2. -/
def State.l1Enter (sub : L1Sub) (s : State) : State :=
  if s.link.state = .down || s.link.state = .l2 then s
  else
    let st := match sub with
      | .l10 => LinkState.l10
      | .l11 => LinkState.l11
      | .l12 => LinkState.l12
      | .l2 => LinkState.l2
    { s with link := { s.link with state := st, clkreq := !(sub == .l11 || sub == .l12) } }

/-- L1_ENTRY (R55, R388). -/
def execL1Entry (sub : L1Sub) (s : State) := command (State.l1Enter sub) s

/-! ## Wake pins (R48, R390) -/

/-- LWAKE_N low for 1 us: every domain to Run, or PEWAKE_N in device Off. -/
def State.lwake (s : State) : State :=
  match s.boot.mode with
  | .noPower => s
  | .off => s.offWake 0x07
  | _ => ((allDomains.foldl State.wake s).wakeSource 0x07).pmeEvent 0x07

/-- LWAKE_N (R48, R390, R391, R527). -/
def execLwakeN (s : State) := command State.lwake s

/-- The Y7's own address is matched: LIN wakes, or PEWAKE_N in device Off. -/
def State.addressMatch (s : State) : State :=
  match s.boot.mode with
  | .noPower => s
  | .off => s.offWake 0x08
  | _ => ((s.wake .lin).wakeSource 0x08).pmeEvent 0x08

/-- SMBUS_ADDRESS_MATCH (R390). -/
def execSmbusAddressMatch (s : State) := command State.addressMatch s

end Sys2Proof.Machine
end

