-- ==== Sys2Proof/Machine/CfgSpace.lean ====
section
/-! DEFINITION. The configuration space (R42 to R47): what each dword of a function reads as. The values are those of R42
to R44; the positions of fields within a capability are those of PCI Express Base Specification 7.0 (log entry 4). -/
namespace Sys2Proof.Machine

/-- The host reaches the registers of a function (R38, R48, R51, R104, R432). -/
def State.regReached (s : State) (fn : Nat) : Bool :=
  s.operating && s.link.state != .down && s.fnExists fn && s.memSpace fn && !(s.fn fn).flr && !(s.fn fn).cfg.d3hot &&
    !s.tdispIs fn .error

/-- A host write reaches the registers of a function: no posted request does while posted credits are withheld (R201). -/
def State.regServed (s : State) (fn : Nat) : Bool := s.regReached fn && !s.postedHeld

/-- A write of the host to a register of PF0's BAR0 that reaches it: counted, charged, and carried out. -/
def State.regWrite (s : State) (f : State → State) : State := if s.regServed 0 then f (s.written 0 4) else s

/-- PWR_CTRL_CLR_HIST (R389, R402). -/
def execPwrCtrlClrHist (s : State) := command (fun s => s.regWrite State.clearHistory) s

/-- ID, offset and next offset of each extended capability of a kind of function (R42): 0 PF0, 1 PF1, else a VF. -/
def extCaps (fn : Nat) : List (Nat × Nat) :=
  if fn = 0 then
    [(0x0001, 0x100), (0x0003, 0x150), (0x000E, 0x160), (0x000D, 0x170), (0x0019, 0x180), (0x0025, 0x1B0),
     (0x0026, 0x1C0), (0x002A, 0x200), (0x0031, 0x240), (Config.phy128Id.toNat, 0x280), (0x0027, 0x2C0),
     (0x0032, 0x310), (0x002F, 0x330), (0x001E, 0x340), (0x0018, 0x360), (0x0004, 0x370), (0x0015, 0x380),
     (0x0017, 0x390), (0x000F, 0x3A0), (0x0010, 0x3B0), (0x002E, 0x400), (0x0030, 0x420), (0x0023, 0x450)]
  else if fn = 1 then [(0x0001, 0x100), (0x000E, 0x148), (0x000D, 0x158), (0x002F, 0x168), (0x0017, 0x178)]
  else [(0x0001, 0x100), (0x002F, 0x150), (0x0017, 0x160), (0x000F, 0x170)]

/-- Header dword of the extended capability at an offset: ID, version, next offset (0x000 for the last). DESIGN CHOICE: the
spec gives no Capability Version, and every header reads version 1 (log entry 4). -/
def extHeader : List (Nat × Nat) → Nat → Option Nat
  | [], _ => none
  | (id, at_) :: r, off =>
    if at_ = off then some (id ||| 1 <<< 16 ||| ((r.head?.map (·.2)).getD 0) <<< 20) else extHeader r off

/-- Offset of the Device 3, TPH Requester and ATS capabilities of a function, in dwords; 0 where it has none. -/
def dev3At (fn : Nat) : Nat := if fn = 0 then 0xCC else if fn = 1 then 0x5A else 0x54
def tphAt (fn : Nat) : Nat := if fn = 0 then 0xE4 else if fn = 1 then 0x5E else 0x58
def atsAt (fn : Nat) : Nat := if fn = 0 then 0xE8 else if fn = 1 then 0 else 0x5C

/-- Size mask of a 64-bit BAR: the address bits it keeps. -/
def barMask (size : Nat) (hi : Bool) : Nat :=
  let m := 2 ^ 64 - size
  if hi then m / 2 ^ 32 else m % 2 ^ 32

/-- A writable dword as a number. -/
def State.rawNat (s : State) (fn dw : Nat) : Nat := (s.cfgRaw fn dw).toNat

/-- One half of a BAR: the address written, cut to the BAR's size, and its type bits. -/
def State.barRead (s : State) (fn dw size type : Nat) (hi : Bool) : Nat :=
  (s.rawNat fn dw &&& barMask size hi) ||| (if hi then 0 else type)

/-- Key under which a dword of a stream's IDE block is held (R47): the window shows the block of the stream selected. -/
def ideKey (stream i : Nat) : Nat := 4096 + stream * 5 + i

/-- MSI-X Table Size field (R44, R45). -/
def State.msixSize (s : State) (fn : Nat) : Nat := s.vectorCount fn - 1

/-- Command register bits of a function. -/
def State.cmdBits (s : State) (fn : Nat) : Nat :=
  let c := (s.fn fn).cfg
  (s.rawNat fn 1 &&& 0x140) ||| b2n c.bme <<< 2 ||| b2n (c.mse && !isVf fn) <<< 1

/-- Device Control of a function; a field that SR-IOV reserves in a VF reads 0 there (R37). -/
def State.devCtl (s : State) (fn : Nat) : Nat :=
  let c := (s.fn fn).cfg
  let own := b2n c.relaxed <<< 4 ||| b2n c.noSnoop <<< 11 ||| c.mrrs.toNat <<< 12
  if isVf fn then own else own ||| (s.rawNat fn 22 &&& 0xF) ||| c.mps.toNat <<< 5 ||| b2n c.extTag <<< 8

/-- The Lane Equalization Control field of a lane at a rate: the preset that the root port has directed, all ones before
(R39, R42). -/
def HostLink.lanePreset (l : HostLink) (rate : Nat) : Nat :=
  match tget l.tx rate with
  | some (.preset n) => n % 16
  | _ => 0xF

/-- A dword of four 8-bit Lane Equalization Control fields. -/
def HostLink.laneEq8 (l : HostLink) (rate : Nat) : Nat := l.lanePreset rate <<< 4 * 0x01010101

/-- Initial Link Width of Device Status 3 (R44): the code of the width that training settled on. -/
def HostLink.widthCode (l : HostLink) : Nat :=
  if l.trained = 1 then 0 else if l.trained = 2 then 1 else if l.trained = 4 then 2 else if l.trained = 8 then 3 else 4

/-- An Equalization Complete and Phase 1 to 3 Successful field of four bits (R39). -/
def HostLink.eqDone (l : HostLink) (rate : Nat) : Nat := if l.equalized.contains rate then 0xF else 0

/-- Lane Margining control and status of a lane (R34): the control as written, and the answer of the receiver. Report Margin
Capabilities (type 1, payload 0x88) shows voltage and timing, independent left and right, and up and down. -/
def marginLane (lane : Nat) (ctl : W16) : Nat :=
  let c := ctl.toNat
  let type := bits c 5 3
  let payload := if type = 7 then 0 else if type = 1 && bits c 15 8 = 0x88 then
      7 ||| ((Config.marginAnswer lane ctl).toNat &&& 0x18)
    else (Config.marginAnswer lane ctl).toNat
  c ||| ((c &&& 0x7F) ||| payload <<< 8) <<< 16

/-- Dwords 0 to 63: the header and the three capabilities below 0x100. -/
def State.cfgLow (s : State) (fn dw : Nat) : Nat :=
  let c := (s.fn fn).cfg
  let pf0 := fn == 0
  let vf := isVf fn
  match dw with
  | 0 => if pf0 then 0x71601F3C else if vf then 0xFFFFFFFF else 0x71621F3C
  | 1 => s.cmdBits fn ||| 0x00100000
  | 2 => 0x0B4000A1
  | 3 => if vf then 0 else 0x00800000
  | 4 => if vf then 0 else s.barRead fn 4 (if pf0 then 2 ^ 26 else 2 ^ 24) 0x4 false
  | 5 => if vf then 0 else s.barRead fn 5 (if pf0 then 2 ^ 26 else 2 ^ 24) 0 true
  | 6 => if pf0 then s.barRead 0 6 (s.bar2Size 0) 0xC false else 0
  | 7 => if pf0 then s.barRead 0 7 (s.bar2Size 0) 0 true else 0
  | 11 => s.lin.subsysId.toNat <<< 16 ||| 0x1F3C
  | 12 => if pf0 then s.rawNat 0 12 &&& 0xFFF00001 else 0
  | 13 => 0x40
  | 16 => (if pf0 then 0xC003 else 0x0003) <<< 16 ||| 0x5001
  | 17 => (s.rawNat fn 17 &&& 0x8100) ||| 0x8 ||| (if c.d3hot then 3 else 0)
  | 20 => 0x80029010
  | 21 => 5 ||| 0x20 ||| 7 <<< 6 ||| 6 <<< 9 ||| 1 <<< 15 ||| 1 <<< 28
  | 22 => s.devCtl fn ||| (s.rawNat fn 22 &&& 0x000F0000) ||| b2n (s.pendingFn fn) <<< 21
  | 23 => (if s.boot.no128 then 6 else 7) ||| 0x10 <<< 4 ||| 2 <<< 10 ||| 3 <<< 15 ||| 1 <<< 18 ||| 1 <<< 22
  | 24 => if vf then 0 else (s.rawNat fn 24 &&& 0x3CB) ||| (s.link.rate ||| s.link.lanes <<< 4) <<< 16
  | 29 => 0xF ||| (if pf0 then 0x800 else 0) ||| 0x30000
  | 30 => if vf then 0 else c.cto.toNat ||| (s.rawNat fn 30 &&& 0x400) ||| b2n c.tag10 <<< 12
  | 31 => if s.boot.no128 then 0x7E else 0xFE
  | 32 => if pf0 then (s.rawNat 0 32 &&& 0xF) ||| (s.link.eqDone 3 <<< 1 ||| b2n s.link.flit <<< 10) <<< 16 else 0
  | 36 => 0x11 ||| (s.msixSize fn ||| b2n c.msixMask <<< 14 ||| b2n c.msixEn <<< 15) <<< 16
  | 37 => if pf0 then 0x001C0000 else if vf then 0x4000 else 0x00FF0000
  | 38 => if pf0 then 0x001C8000 else if vf then 0x8000 else 0x00FF8000
  | _ => 0

/-- Power Budgeting data for the entry selected (R44): the maximum and the typical D0 power in W. PRESUMED: the spec gives the
watts; type Maximum and type Sustained (for "typical"), PM sub-state 0 and power rail Thermal are the model's (log entry
28). -/
def powerBudget : Nat → Nat
  | 0 => 44 ||| 7 <<< 15 ||| 7 <<< 18
  | 1 => 36 ||| 3 <<< 15 ||| 7 <<< 18
  | _ => 0

/-- PF0's own extended capabilities (R44, R46, R47). -/
def State.cfgPf0 (s : State) (dw : Nat) : Nat :=
  let k := s.prov.ideSel.toNat
  match dw with
  | 0x55 => Config.serial.toNat % 2 ^ 32
  | 0x56 => Config.serial.toNat / 2 ^ 32
  | 0x59 => 1 <<< 8
  | 0x6D => 0x80000001
  | 0x6E => if s.link.state = .down then 0 else 0x80000000 ||| Config.peerFeatures.toNat
  | 0x73 => s.link.eqDone 4
  | 0x81 => 0x100
  | 0x83 => s.link.eqDone 5
  | 0x93 => s.link.eqDone 6
  | 0xA3 => s.link.eqDone 7
  | 0xB1 => if s.link.state = .l0 && s.link.rate ≥ 4 then 0x10000 else 0
  | 0xC7 => s.rawNat 0 0xC7 &&& 0xFFFF
  | 0xC8 => s.rawNat 0 0xC8 &&& 0xF
  | 0xD1 => 0x1F ||| 10 <<< 8 ||| 2 <<< 16 ||| 3 <<< 19
  | 0xD2 => s.rawNat 0 0xD2
  | 0xD3 => s.rawNat 0 0xD3 &&& 0xFF
  | 0xD9 => s.rawNat 0 0xD9 &&& 0x1FFF1FFF
  | 0xDD => s.rawNat 0 0xDD &&& 0xFF
  | 0xDE => powerBudget (s.rawNat 0 0xDD % 256)
  | 0xE1 => 0x1FF <<< 14
  | 0xE2 => 2 ||| 1 <<< 5 ||| (s.prov.bar2Log + 10) <<< 8
  | 0xED => 0x4
  | 0xEE => b2n s.prov.vfEnable ||| b2n s.prov.vfMse <<< 3 ||| (s.rawNat 0 0xEE &&& 0x30)
  | 0xEF => 0x04000400
  | 0xF0 => s.prov.numVFs.toNat
  | 0xF1 => 0x00010002
  | 0xF2 => 0x71610000
  | 0xF3 => 0x1F
  | 0xF4 => s.rawNat 0 0xF4
  | 0xF5 => s.barRead 0 0xF5 65536 0x4 false
  | 0xF6 => s.barRead 0 0xF6 65536 0 true
  | 0xF7 => s.barRead 0 0xF7 (2 ^ 30) 0xC false
  | 0xF8 => s.barRead 0 0xF8 (2 ^ 30) 0 true
  | 0x101 => 1
  | 0x102 => s.rawNat 0 0x102 &&& 0x2
  | 0x103 => b2n s.prov.doe.busy ||| b2n s.prov.doe.intStatus <<< 1 ||| b2n (!s.prov.doe.answer.isEmpty) <<< 31
  | 0x105 => (s.prov.doe.answer.headD 0).toNat
  | 0x109 => 0x3 ||| 0xFE <<< 16
  | 0x10B => s.rawNat 0 0x10B
  | 0x10C => if s.prov.linkIdeSecure then 2 else 0
  | 0x10D => 0
  | 0x10E => s.rawNat 0 (ideKey k 1)
  | 0x10F => if ((tget s.prov.ide k).map (·.secure)).getD false then 2 else 0
  | 0x110 => s.rawNat 0 (ideKey k 3)
  | 0x111 => s.rawNat 0 (ideKey k 4)
  | 0x115 => 0x1F3C ||| 0x010 <<< 20
  | 0x116 => 0x0001
  | 0x117 => k
  | _ =>
    if 0x63 ≤ dw ∧ dw ≤ 0x6A then (0x7000 ||| s.link.lanePreset 3 <<< 8) * 0x10001
    else if 0x78 ≤ dw ∧ dw ≤ 0x7B then s.link.laneEq8 4
    else if 0x88 ≤ dw ∧ dw ≤ 0x8B then s.link.laneEq8 5
    else if 0x94 ≤ dw ∧ dw ≤ 0x97 then s.link.laneEq8 6
    else if 0xA4 ≤ dw ∧ dw ≤ 0xA7 then s.link.laneEq8 7
    else if 0xB2 ≤ dw ∧ dw ≤ 0xC1 then marginLane (dw - 0xB2) (BitVec.ofNat 16 (s.rawNat 0 dw))
    else 0

/-- The dword of a function's configuration space at a dword index, as the block stands. -/
def State.cfgNow (s : State) (fn dw : Nat) : W32 :=
  let c := (s.fn fn).cfg
  let v :=
    match extHeader (extCaps fn) (dw * 4) with
    | some h => h
    | none =>
      if dw < 64 then s.cfgLow fn dw
      else if dw = 65 then c.aerUnc.toNat
      else if dw = 68 then c.aerCor.toNat
      else if dw = 66 || dw = 67 || dw = 69 then (if isVf fn then 0 else s.rawNat fn dw)
      else if 70 ≤ dw ∧ dw ≤ 74 then s.rawNat fn dw
      else if dw = dev3At fn + 1 then 0x0E
      else if dw = dev3At fn + 2 then b2n c.tag14 <<< 2 ||| (s.rawNat fn dw &&& 0x78)
      else if dw = dev3At fn + 3 && fn = 0 then (if s.link.state = .down then 0 else s.link.widthCode)
      else if dw = tphAt fn + 1 then 0x507
      else if dw = tphAt fn + 2 then c.tphMode.toNat ||| c.tphEn.toNat <<< 8
      else if fn != 1 && dw = atsAt fn + 1 then 0x60 ||| c.stu.toNat <<< 16 ||| b2n c.atsEn <<< 31
      else if fn = 0 then s.cfgPf0 dw
      else 0
  BitVec.ofNat 32 v

/-- The state that a configuration read sees: the block as it stands, or, in the safe state, its frozen shadow (R51, R450). -/
def State.cfgView (s : State) : State :=
  match s.shadow with
  | none => s
  | some x => { s with link := x.link, fns := x.fns, prov := x.prov, boot := { s.boot with no128 := x.no128 },
                       lin := { s.lin with subsysId := x.subsysId } }

/-- The dword of a function's configuration space at a dword index. -/
def State.cfgRead (s : State) (fn dw : Nat) : W32 := s.cfgView.cfgNow fn dw

end Sys2Proof.Machine
end

