-- ==== Sys2Proof/Machine/Configure.lean ====
section
/-! DEFINITION. Configuration requests and what a write of each field does (R46 to R51, R57, R69, R192, R232, R433): the
command CONFIG_REQUEST and the commands that stand for one field each. -/
namespace Sys2Proof.Machine

/-- A configuration write to a function takes effect: operation, the function exists and is not in FLR (R49, R450). -/
def State.cfgLive (s : State) (fn : Nat) : Bool := s.operating && s.fnExists fn && !(s.fn fn).flr

/-! ## Bus Master Enable and D3hot (R48, R192) -/

/-- Bus Master Enable is cleared. -/
def State.bmeOff (fn : Nat) (s : State) : State :=
  if s.cfgLive fn && (s.fn fn).cfg.bme then (s.modCfg fn fun c => { c with bme := false }).holdFn fn else s

/-- Bus Master Enable is set. -/
def State.bmeOn (fn : Nat) (s : State) : State :=
  if s.cfgLive fn && !(s.fn fn).cfg.bme then (s.modCfg fn fun c => { c with bme := true }).resumeFn fn else s

/-- D0 to D3hot. -/
def State.d3In (fn : Nat) (s : State) : State :=
  if s.cfgLive fn && !(s.fn fn).cfg.d3hot then (s.modCfg fn fun c => { c with d3hot := true }).holdFn fn else s

/-- D3hot to D0: nothing is reset (R48); every domain that serves the function's accesses leaves Deep Sleep (R53); with the
link in L0 the QUIET Sleeves are woken (R399). -/
def State.d3Out (fn : Nat) (s : State) : State :=
  if s.cfgLive fn && (s.fn fn).cfg.d3hot then
    let s := ((s.modCfg fn fun c => { c with d3hot := false }).hostWake).resumeFn fn
    if s.link.state = .l0 then (s.quietWake .a).quietWake .b else s
  else s

/-- BME_CLEAR (R192). -/
def execBmeClear (fn : Nat) (s : State) := command (State.bmeOff fn) s

/-- BME_SET (R192). -/
def execBmeSet (fn : Nat) (s : State) := command (State.bmeOn fn) s

/-- D3HOT_ENTRY (R48, R192). -/
def execD3hotEntry (fn : Nat) (s : State) := command (State.d3In fn) s

/-- D3HOT_TO_D0 (R48, R192). -/
def execD3hotToD0 (fn : Nat) (s : State) := command (State.d3Out fn) s

/-! ## FLR (R49, R69, R104, R194, R493) -/

/-- Initiate Function Level Reset. -/
def State.flrAny (fn : Nat) (s : State) : State :=
  if !s.cfgLive fn then s
  else if fn = 0 then s.flrPf0
  else if fn = 1 then (s.flrBegin 1).bhReset
  else (s.rotateKey fn).flrBegin fn

/-- FLR_START (R49). -/
def execFlrStart (fn : Nat) (s : State) := command (State.flrAny fn) s

/-- FLR_COMPLETE (R49, R67). -/
def execFlrComplete (fn : Nat) (s : State) := command (fun s => s.flrEnd fn) s

/-! ## SR-IOV (R57, R69) -/

/-- NumVFs takes a value up to 1,024 while VF Enable is 0. -/
def State.numVfs (n : W16) (s : State) : State :=
  if s.cfgLive 0 && !s.prov.vfEnable && decide (n.toNat ≤ 1024) then { s with prov := { s.prov with numVFs := n } } else s

/-- NUMVFS_WRITE (R57). -/
def execNumvfsWrite (n : W16) (s : State) := command (State.numVfs n) s

/-- VF Enable from 0 to 1. -/
def State.vfOn (s : State) : State :=
  if s.cfgLive 0 && !s.prov.vfEnable then { s with prov := { s.prov with vfEnable := true } } else s

/-- VF_ENABLE_SET (R57). -/
def execVfEnableSet (s : State) := command State.vfOn s

/-- VF Enable from 1 to 0: every tenant and every group from 1 on goes (R69). -/
def State.vfOff (s : State) : State :=
  if s.cfgLive 0 && s.prov.vfEnable then s.abortProvisioning.destroyAll true else s

/-- VF_ENABLE_CLEAR (R69). -/
def execVfEnableClear (s : State) := command State.vfOff s

/-! ## ATS (R232) -/

/-- ATS Enable from 1 to 0: every entry of the function goes, and what its outstanding Translation Requests bring is left
(DEDUCED: no entry is held for it). -/
def State.atsOff (fn : Nat) (s : State) : State :=
  if s.cfgLive fn && fn != 1 && (s.fn fn).cfg.atsEn then
    let s := s.modCfg fn fun c => { c with atsEn := false }
    s.xinvalidate fn 0 0 true
  else s

/-- ATS Enable from 0 to 1 applies the Smallest Translation Unit. -/
def State.atsUp (fn : Nat) (stu : BitVec 5) (s : State) : State :=
  if s.cfgLive fn && fn != 1 && !(s.fn fn).cfg.atsEn then s.modCfg fn fun c => { c with atsEn := true, stu := stu } else s

/-- A write to a VF's ATS capability or TPH Requester control puts a locked VF into ERROR (R433). -/
def State.guarded (fn : Nat) (s : State) : State :=
  if isVf fn && s.cfgLive fn then s.tdispError (vfOf fn) else s

/-- ATS_ENABLE_CLEAR (R232, R433). -/
def execAtsEnableClear (fn : Nat) (s : State) := command (fun s => (s.guarded fn).atsOff fn) s

/-- ATS_ENABLE_SET (R232, R433). -/
def execAtsEnableSet (fn : Nat) (stu : BitVec 5) (s : State) := command (fun s => (s.guarded fn).atsUp fn stu) s

/-! ## BAR2 and the IDE window (R46, R47) -/

/-- A BAR2 size of 2^log2 GiB is applied while PF0's Memory Space Enable is 0; a PF0 aperture that no longer fits below
the new control page enters closing (R46, R206). -/
def State.resizeBar2 (log2 : Nat) (s : State) : State :=
  if s.cfgLive 0 && !(s.fn 0).cfg.mse && decide (log2 ≤ 8) then
    let s := { s with prov := { s.prov with bar2Log := log2 } }
    let page := s.ctlPage 0
    let shut (x : Apt) : Apt :=
      if x.owner == 0 && x.state == .opened && decide (x.bar2 + x.size > page) then x.closing
      else x
    { s with win := { s.win with apts := tmap s.win.apts (fun _ x => shut x) } }
  else s

/-- BAR2_RESIZE (R46, R206). -/
def execBar2Resize (log2 : Nat) (s : State) := command (State.resizeBar2 log2) s

/-- CFG_IDE_SEL.STREAM; 0xFF is discarded (R47). -/
def State.ideSelect (v : Byte) (s : State) : State :=
  if s.cfgLive 0 && v != 0xFF then { s with prov := { s.prov with ideSel := v } } else s

/-- CFG_IDE_SEL_WRITE (R47). -/
def execCfgIdeSelWrite (v : Byte) (s : State) := command (State.ideSelect v) s

/-- An IDE stream leaves Secure; each VF bound to it in CONFIG_LOCKED or RUN enters ERROR (R428, R433). -/
def State.streamInsecure (s : State) (stream : Option Nat) : State :=
  match stream with
  | none => { s with prov := { s.prov with linkIdeSecure := false } }
  | some k =>
    let s := { s with prov := { s.prov with ide := tmod s.prov.ide k fun b => { b with secure := false } } }
    s.tdispErrorAll fun _ t => t.stream.toNat == k

/-! ## A configuration write -/

/-- Byte mask of the byte enables. -/
def beMask (be : BitVec 4) : W32 :=
  BitVec.ofNat 32 (b2n (bitAt be.toNat 0) * 0xFF + b2n (bitAt be.toNat 1) * 0xFF00 + b2n (bitAt be.toNat 2) * 0xFF0000 +
    b2n (bitAt be.toNat 3) * 0xFF000000)

/-- Hold a writable dword. -/
def State.putRaw (s : State) (fn dw : Nat) (v : W32) : State := s.modCfg fn fun c => { c with raw := tput c.raw dw v }

/-- Device Control and Device Status: new merged value, ones the bits written as 1. -/
def State.writeDevCtl (s : State) (fn : Nat) (new ones : W32) : State :=
  let n := new.toNat
  let st := s.cfgRaw fn 22 &&& 0x000F0000 &&& ~~~ones
  let s := s.putRaw fn 22 (st ||| (new &&& 0xF))
  let s := s.modCfg fn fun c =>
    let c := { c with relaxed := bitAt n 4, noSnoop := bitAt n 11, mrrs := BitVec.ofNat 3 (bits n 14 12) }
    if isVf fn then c else { c with mps := BitVec.ofNat 3 (bits n 7 5), extTag := bitAt n 8 }
  if bitAt ones.toNat 15 then s.flrAny fn else s

/-- Command register. -/
def State.writeCmd (s : State) (fn : Nat) (new : W32) : State :=
  let n := new.toNat
  let s := if isVf fn then s else (s.putRaw fn 1 (new &&& 0x140)).modCfg fn fun c => { c with mse := bitAt n 1 }
  if bitAt n 2 then s.bmeOn fn else s.bmeOff fn

/-- Power management control and status. -/
def State.writePm (s : State) (fn : Nat) (new ones : W32) : State :=
  let st := s.cfgRaw fn 17 &&& 0x8000 &&& ~~~ones
  let s := if fn = 0 then s.putRaw 0 17 (st ||| (new &&& 0x100)) else s
  match new.toNat % 4 with
  | 0 => s.d3Out fn
  | 3 => s.d3In fn
  | _ => s

/-- SR-IOV control. -/
def State.writeSriov (s : State) (new : W32) : State :=
  let n := new.toNat
  let lost := s.prov.vfMse && !bitAt n 3
  let s := s.putRaw 0 0xEE (new &&& 0x30)
  let s := { s with prov := { s.prov with vfMse := bitAt n 3 } }
  let s := if lost then s.tdispErrorAll fun _ _ => true else s
  if bitAt n 0 then s.vfOn else s.vfOff

/-- Dwords of PF0 held as written, without further effect: link control, ROM, lane margining, flit counters, L1 PM Substates,
LTR, Power Budgeting, Link IDE control (R42). -/
def plainPf0 (dw : Nat) : Bool :=
  dw == 12 || dw == 32 || dw == 0xC7 || dw == 0xC8 || dw == 0xD2 || dw == 0xD3 || dw == 0xD9 || dw == 0xDD ||
    (decide (0xB2 ≤ dw) && decide (dw ≤ 0xC1))

/-- DOE control (R42; log entry 4): Abort empties the mailbox; Go gives the object written to its consumer, whose row
answers. -/
def State.writeDoe (s : State) (new ones : W32) : State :=
  let d := s.prov.doe
  let d := if bitAt ones.toNat 0 then Doe.init else d
  let d := if bitAt ones.toNat 31 && !d.busy && !d.written.isEmpty then { d with written := [], busy := true } else d
  ({ s with prov := { s.prov with doe := d } }).putRaw 0 0x102 (new &&& 0x2)

/-- DOE registers beside the control: status (the interrupt bit clears on 1), the write mailbox, and the read mailbox, which
any write moves on by one dword. -/
def State.writeMailbox (s : State) (dw : Nat) (ones : W32) : State :=
  let d := s.prov.doe
  let d := match dw with
    | 0x103 => if bitAt ones.toNat 1 then { d with intStatus := false } else d
    | 0x104 => if d.busy then d else { d with written := d.written ++ [ones] }
    | _ => { d with answer := d.answer.drop 1 }
  { s with prov := { s.prov with doe := d } }

/-- PF0's extended capabilities (R46, R47, R57, R433). -/
def State.writePf0 (s : State) (dw : Nat) (new ones : W32) : State :=
  let n := new.toNat
  let k := s.prov.ideSel.toNat
  if plainPf0 dw then s.putRaw 0 dw new
  else if dw = 0x102 then s.writeDoe new ones
  else if 0x103 ≤ dw ∧ dw ≤ 0x105 then s.writeMailbox dw ones
  else if dw = 0xE2 then (if bits n 13 8 ≥ 10 then s.resizeBar2 (bits n 13 8 - 10) else s)
  else if dw = 0xEE then s.writeSriov new
  else if dw = 0xF0 then s.numVfs (BitVec.ofNat 16 n)
  else if dw = 0xF4 then
    (if !s.prov.vfEnable && [1, 2, 4, 8, 16].contains n then s.putRaw 0 0xF4 new else s)
  else if 0xF5 ≤ dw ∧ dw ≤ 0xF8 then (s.putRaw 0 dw new).tdispErrorAll fun _ _ => true
  else if dw = 0x10B then
    let s := s.putRaw 0 dw new
    if bitAt n 0 then s else s.streamInsecure none
  else if dw = 0x10E then
    let s := s.putRaw 0 (ideKey k 1) new
    if bitAt n 0 then s else s.streamInsecure (some k)
  else if dw = 0x110 then s.putRaw 0 (ideKey k 3) new
  else if dw = 0x111 then s.putRaw 0 (ideKey k 4) new
  else if dw = 0x117 then s.ideSelect (BitVec.ofNat 8 n)
  else s

/-- A configuration write of a dword under byte enables: each field by its access (R10, R42). -/
def State.cfgWrite (s : State) (fn dw : Nat) (be : BitVec 4) (v : W32) : State :=
  let m := beMask be
  let new := (s.cfgRead fn dw &&& ~~~m) ||| (v &&& m)
  let ones := v &&& m
  let n := new.toNat
  if be = 0 then s
  else if dw = 1 then s.writeCmd fn new
  else if dw = 4 || dw = 5 then (if isVf fn then s else s.putRaw fn dw new)
  else if dw = 6 || dw = 7 then (if fn = 0 then s.putRaw 0 dw new else s)
  else if dw = 17 then s.writePm fn new ones
  else if dw = 22 then s.writeDevCtl fn new ones
  else if dw = 24 then (if isVf fn then s else s.putRaw fn 24 new)
  else if dw = 30 then
    if isVf fn then s else
    let s := if fn = 0 then s.putRaw 0 30 (new &&& 0x400) else s
    s.modCfg fn fun c => { c with cto := BitVec.ofNat 4 n, tag10 := bitAt n 12 }
  else if dw = 36 then
    (s.modCfg fn fun c => { c with msixMask := bitAt n 30, msixEn := bitAt n 31 }).msixRelease fn
  else if dw = 65 then s.modCfg fn fun c => { c with aerUnc := c.aerUnc &&& ~~~ones }
  else if dw = 68 then s.modCfg fn fun c => { c with aerCor := c.aerCor &&& ~~~ones }
  else if dw = 66 || dw = 67 || dw = 69 then (if isVf fn then s else s.putRaw fn dw new)
  else if dw = dev3At fn + 2 then (s.putRaw fn dw (new &&& 0x78)).modCfg fn fun c => { c with tag14 := bitAt n 2 }
  else if dw = tphAt fn + 2 then
    (s.guarded fn).modCfg fn fun c => { c with tphMode := BitVec.ofNat 3 n, tphEn := BitVec.ofNat 2 (bits n 9 8) }
  else if fn ≠ 1 ∧ (dw = atsAt fn + 1 ∨ dw = atsAt fn) then
    let s := s.guarded fn
    if dw = atsAt fn then s
    else if bitAt n 31 then s.atsUp fn (BitVec.ofNat 5 (bits n 20 16))
    else if (s.fn fn).cfg.atsEn then s.atsOff fn
    else s.modCfg fn fun c => { c with stu := BitVec.ofNat 5 (bits n 20 16) }
  else if fn = 0 then s.writePf0 dw new ones
  else s

/-- CONFIG_REQUEST (R51): Request Retry Status before configuration-ready and in FLR; Unsupported Request for a function
that does not exist; in the safe state reads from the frozen space and writes without effect (R450). -/
def State.configReq (fn off : Nat) (be : BitVec 4) (wr : Option W32) (s : State) : State :=
  if s.link.state = .down || s.nonPostedFull then s
  else
    let s := s.tlpRcvd fn (if wr.isSome then 4 else 0)
    if s.boot.mode = .boot || (s.boot.mode != .safe && (s.fn fn).flr) then s.complete fn .rrs []
    else if !s.fnExists fn || off ≥ 4096 then s.complete fn .ur []
    else
      match wr with
      | none => s.complete fn .sc (leBytes 4 (s.cfgRead fn (off / 4)).toNat)
      | some v => (if s.operating then s.cfgWrite fn (off / 4) be v else s).complete fn .sc []

/-- CONFIG_REQUEST (R42 to R51, R450). -/
def execConfigRequest (fn off : Nat) (be : BitVec 4) (wr : Option W32) (s : State) :=
  command (State.configReq fn off be wr) s

end Sys2Proof.Machine
end

