-- ==== Sys2Proof/Machine/Secure.lean ====
section
/-! DEFINITION. PF0's DOE mailbox (R44), IDE streams (R428 to R430) and TDISP (R431 to R433). The response codes and the order of
their fields are those of the base specification and TDISP, which the manual names and does not print (log entry 24). -/
namespace Sys2Proof.Machine

/-! ## The tenant's entries of the Yasil table (R76) -/

/-- TEN_STATUS.STATE code. -/
def tenCode : TenState → Nat
  | .absent => 0
  | .ready => 1
  | .wiping => 2

/-- The 32 B tenant allocation entry of a VF (R76). -/
def State.allocEntry (s : State) (vf : Nat) : Bytes :=
  match s.tenant vf with
  | none => leBytes 2 vf ++ zeros 30
  | some t =>
    leBytes 2 vf ++ leBytes 1 (tenCode t.state) ++ leBytes 1 t.group ++ leBytes 2 t.qps ++ leBytes 2 t.vectors ++
      leBytes 1 t.apts.length ++ leBytes 1 t.iwins.length ++ leBytes 2 t.ats ++ leBytes 2 t.ctx ++ leBytes 2 t.qsets ++
      leBytes 8 (s.fn (fnOfVf vf)).allowSet.toNat ++ zeros 8

/-- The tenant window list of a VF (R76). -/
def State.windowList (s : State) (vf : Nat) : Bytes :=
  match s.tenant vf with
  | none => []
  | some t => (t.apts.map fun n => [0, 0] ++ leBytes 2 n).flatten ++ (t.iwins.map fun n => [1, 0] ++ leBytes 2 n).flatten

/-! ## The mailbox -/

/-- A register or mailbox write reaches PF0: operation, and PF0 not in FLR. -/
def State.pf0Live (s : State) : Bool := s.operating && !(s.fn 0).flr

/-- A body as dwords, the last filled with 0. -/
def dwordsOf (b : Bytes) : List W32 := (List.range ((b.length + 3) / 4)).map fun i => BitVec.ofNat 32 (leAt (4 * i) 4 b)

/-- An answer on PF0's DOE mailbox: the object stands ready to be read, dword by dword, with an interrupt on vector 0 where
DOE Interrupt Enable is 1 (R42, R44). -/
def State.doeAnswer (s : State) (body : Bytes) : State :=
  let s := s.emit (.doe body)
  let s := { s with prov := { s.prov with doe := { s.prov.doe with busy := false, answer := dwordsOf body, intStatus := true } } }
  if bitAt (s.rawNat 0 0x102) 1 then s.msixTrigger 0 0 (tget s.plc.numa 0) else s

/-- Four free values: a nonce, or ephemeral exchange data, of 32 B. -/
def State.nonce (s : State) : Bytes × State :=
  let a := s.takeFree
  let b := a.2.takeFree
  let c := b.2.takeFree
  let d := c.2.takeFree
  (leBytes 8 a.1.toNat ++ leBytes 8 b.1.toNat ++ leBytes 8 c.1.toNat ++ leBytes 8 d.1.toNat, d.2)

/-- A DOE Discovery request (R44): the protocols Discovery, CMA/SPDM and Secured CMA/SPDM. -/
def State.discovery (index : Nat) (s : State) : State :=
  if !s.pf0Live then s
  else if index ≤ 2 then s.doeAnswer (leBytes 2 1 ++ leBytes 1 index ++ leBytes 1 (if index = 2 then 0 else index + 1))
  else s.doeAnswer (leBytes 2 0xFFFF ++ [0, 0])

/-- DOE_DISCOVERY (R44). -/
def execDoeDiscovery (index : Nat) (s : State) := command (State.discovery index) s

/-! ## IDE (R428, R429) -/

/-- Some VF of a group is in CONFIG_LOCKED, RUN or ERROR. -/
def State.groupLocked (s : State) (g : Nat) : Bool :=
  s.prov.tenants.any fun p => p.2.group == g && p.2.tdisp != .unlocked

/-- The binding of a stream as it stands. -/
def State.ideBind (s : State) (k : Nat) : IdeBind := tgetD s.prov.ide k { valid := false, secure := false, group := 0, void := false }

/-- A write of POOL_IDE_BIND (R429). -/
def State.bindWrite (s : State) (k : Nat) (v : W32) : State :=
  let old := s.ideBind k
  let g := v.toNat % 256
  let other := s.prov.ide.any fun p => p.1 != k && p.2.valid && p.2.group.toNat == g
  if !s.pf0Live || k > 254 || other || s.groupLocked old.group.toNat || s.groupLocked g then s
  else
    { s with prov := { s.prov with ide := tput s.prov.ide k { old with valid := bitAt v.toNat 31, group := BitVec.ofNat 8 g, void := false } } }

/-- POOL_IDE_BIND_WRITE (R429). -/
def execPoolIdeBindWrite (k : Nat) (v : W32) (s : State) := command (fun s => s.regWrite fun s => s.bindWrite k v) s

/-- A TLP fails its IDE check, or is misrouted (R428, R441, R451). -/
def State.ideFailed (stream : Option Nat) (misrouted : Bool) (s : State) : State :=
  if s.link.state = .down || !s.operating then s
  else if misrouted then (s.aer 0 aerMisroutedIde false).raise 354 faultPlain
  else
    let s := (s.streamInsecure stream).aer 0 aerIdeCheckFailed false
    match stream with
    | none => s.raise 352 faultPlain
    | some k => s.raise 353 (faultAt k)

/-- IDE_CHECK_FAILED (R428). -/
def execIdeCheckFailed (stream : Option Nat) (misrouted : Bool) (s : State) := command (State.ideFailed stream misrouted) s

/-- Keys are programmed and the stream enabled over a secured session, or rejected (R428, R441). -/
def State.ideKeys (stream : Option Nat) (accepted : Bool) (s : State) : State :=
  if !s.pf0Live || s.prov.spdm.isEmpty then s
  else if !accepted then s.raise 355 faultPlain
  else
    match stream with
    | none => { s with prov := { s.prov with linkIdeSecure := true } }
    | some k =>
      if k > 254 then s
      else { s with prov := { s.prov with ide := tput s.prov.ide k { s.ideBind k with secure := true } } }

/-- IDE_KEY_PROGRAMMING (R428). -/
def execIdeKeyProgramming (stream : Option Nat) (accepted : Bool) (s : State) := command (State.ideKeys stream accepted) s

/-! ## TDISP (R431, R432) -/

/-- A TDISP answer: message type and interface ID, then its body. -/
def State.tdispAnswer (s : State) (type vf : Nat) (body : Bytes) : State :=
  s.doeAnswer (leBytes 1 type ++ leBytes 4 (fnOfVf vf) ++ body)

/-- TDISP_ERROR with INVALID_INTERFACE_STATE. -/
def State.tdispRefuse (s : State) (vf : Nat) : State := s.tdispAnswer 0x7F vf (leBytes 4 0x0004)

/-- A TDISP request reaches Lining in a secured session. -/
def State.tdispDo (vf : Nat) (f : State → State) (s : State) : State :=
  if s.pf0Live && !s.prov.spdm.isEmpty && s.vfExists vf then f s else s

/-- The stream that carries a group: bound, VALID and Secure (R429). -/
def State.boundStream (s : State) (g : Nat) : Option Nat :=
  (s.prov.ide.find? fun p => p.2.valid && p.2.secure && !p.2.void && p.2.group.toNat == g).map (·.1)

/-- QPs of a function. -/
def State.qpsOf (s : State) (fn : Nat) : List Nat := tkeys (tkeep s.qps fun _ p => p.fn == fn)

/-- The lock's conditions (R432). -/
def State.lockStream (s : State) (vf : Nat) : Option Nat :=
  match s.tenant vf with
  | none => none
  | some t =>
    if t.state = .ready && t.tdisp = .unlocked && decide ((s.qpsOf (fnOfVf vf)).length ≤ t.ctx) then s.boundStream t.group
    else none

/-- LOCK_INTERFACE_REQUEST. -/
def State.lock (vf : Nat) (s : State) : State :=
  match s.lockStream vf with
  | none => s.tdispRefuse vf
  | some k =>
    let s := (s.qpsOf (fnOfVf vf)).foldl State.promoteNow s
    let s := s.modTenant vf fun t => { t with tdisp := .locked, stream := BitVec.ofNat 8 k }
    let s := s.holdFn (fnOfVf vf)
    let n := s.nonce
    n.2.tdispAnswer 0x03 vf n.1

/-- LOCK_INTERFACE_REQUEST (R431, R432). -/
def execLockInterfaceRequest (vf : Nat) (s : State) := command (State.tdispDo vf (State.lock vf)) s

/-- START_INTERFACE_REQUEST: CONFIG_LOCKED to RUN; the hold of the lock ends. -/
def State.startIf (vf : Nat) (s : State) : State :=
  if s.tdispIs (fnOfVf vf) .locked then
    ((s.modTenant vf fun t => { t with tdisp := .run }).resumeFn (fnOfVf vf)).tdispAnswer 0x06 vf []
  else s.tdispRefuse vf

/-- START_INTERFACE_REQUEST (R431). -/
def execStartInterfaceRequest (vf : Nat) (s : State) := command (State.tdispDo vf (State.startIf vf)) s

/-- STOP_INTERFACE_REQUEST: a wipe as under FLR, then CONFIG_UNLOCKED (log entry 25). -/
def State.stopIf (vf : Nat) (s : State) : State :=
  let fn := fnOfVf vf
  if s.tdispIs fn .locked || s.tdispIs fn .run || s.tdispIs fn .error then
    (((s.rotateKey fn).wipeAlive fn).tdispUnlock vf).tdispAnswer 0x07 vf []
  else s.tdispAnswer 0x07 vf []

/-- STOP_INTERFACE_REQUEST (R431). -/
def execStopInterfaceRequest (vf : Nat) (s : State) := command (State.tdispDo vf (State.stopIf vf)) s

/-- Start of a VF's BAR: the base in PF0's SR-IOV capability and the VF's place in it. -/
def State.vfBar (s : State) (dw size vf : Nat) : Nat :=
  ((s.cfgRead 0 dw).toNat / 16 * 16 + (s.cfgRead 0 (dw + 1)).toNat * 2 ^ 32) + (vf - 1) * size

/-- The report's content (R432): BAR0 and BAR2 with MSI-X table and PBA not TEE-owned, allocation entry, group, bound
stream, window list. -/
def State.report (s : State) (vf : Nat) (t : Tenant) : Bytes :=
  leBytes 8 (s.vfBar 0xF5 65536 vf) ++ leBytes 8 65536 ++ leBytes 8 (s.vfBar 0xF7 (2 ^ 30) vf) ++ leBytes 8 (2 ^ 30) ++
    leBytes 1 0x03 ++ s.allocEntry vf ++ leBytes 1 t.group ++ [t.stream] ++ s.windowList vf

/-- GET_DEVICE_INTERFACE_REPORT: in CONFIG_LOCKED and RUN, as TDISP has it. -/
def State.getReport (vf : Nat) (s : State) : State :=
  match s.tenant vf with
  | none => s.tdispRefuse vf
  | some t =>
    if t.tdisp = .locked || t.tdisp = .run then s.tdispAnswer 0x04 vf (s.report vf t) else s.tdispRefuse vf

/-- GET_DEVICE_INTERFACE_REPORT (R432). -/
def execGetDeviceInterfaceReport (vf : Nat) (s : State) := command (State.tdispDo vf (State.getReport vf)) s

end Sys2Proof.Machine
end

