-- ==== Sys2Proof/Machine/HostReq.lean ====
section
/-! DEFINITION. What the host sends to BAR2 and the MSI-X tables (R199 to R205, R248 to R251), and what it answers: read
completions (R193, R196, R452), translation completions (R240, R244), invalidations (R238, R239), timeouts (R50). -/
namespace Sys2Proof.Machine

/-! ## BAR2 (R199 to R205) -/

/-- APERTURE_WRITE (R199, R201, R203). -/
def execApertureWrite (fn off : Nat) (data : Bytes) (s : State) := command (State.aptWrite fn off data) s

/-- APERTURE_READ (R199, R202, R203). -/
def execApertureRead (fn off len htag : Nat) (s : State) := command (State.aptRead fn off len htag) s

/-- APERTURE_READ_LIMIT (R204). -/
def execApertureReadLimit (id : Nat) (s : State) := command (fun s => s.aptReadAbort id) s

/-- BAR2_UNMAPPED_ACCESS (R199, R200). -/
def execBar2UnmappedAccess (fn off len : Nat) (isRead : Bool) (s : State) := command (State.unmapped fn off len isRead) s

/-- A host request that no function serves (R38, R430, R432, R451); the safe state gives Completer Abort (R51). -/
def State.unserved (fn : Nat) (nonPosted : Bool) (s : State) : State :=
  if s.link.state = .down || (if nonPosted then s.nonPostedFull else s.postedHeld) then s
  else
    let s := s.tlpRcvd fn 0
    if s.boot.mode = .safe then (if nonPosted then s.complete fn .ca [] else s) else s.unsupported fn nonPosted true

/-- UNSUPPORTED_REQUEST (R38, R51, R430, R432, R451). -/
def execUnsupportedRequest (fn : Nat) (nonPosted : Bool) (s : State) := command (State.unserved fn nonPosted) s

/-- WIN_FLUSH_START (R205). -/
def execWinFlushStart (fn apt : Nat) (s : State) := command (fun s => (s.written fn 4).flushStart fn apt) s

/-! ## MSI-X tables (R248 to R251) -/

/-- A write of one dword of an entry: address, upper address, data, or Vector Control. -/
def MsixEntry.write (e : MsixEntry) (dword : Nat) (v : W32) : MsixEntry :=
  match dword with
  | 0 => { e with addr := BitVec.ofNat 64 (e.addr.toNat / 2 ^ 32 * 2 ^ 32 + v.toNat / 4 * 4) }
  | 1 => { e with addr := BitVec.ofNat 64 (v.toNat * 2 ^ 32 + e.addr.toNat % 2 ^ 32) }
  | 2 => { e with data := v }
  | 3 => { e with ctl := v &&& 0xFFFF0001 }
  | _ => e

/-- A host write of an MSI-X table entry; an entry at or above the count discards it (R45, R249). -/
def State.msixWrite (s : State) (fn vec dword : Nat) (v : W32) : State :=
  if s.regServed fn && decide (vec < s.vectorCount fn) then
    let e := tgetD (s.fn fn).msix vec MsixEntry.masked
    (s.modFn fn fun f => { f with msix := tput f.msix vec (e.write dword v) }).msixRelease fn
  else s

/-- MSIX_ENTRY_WRITE (R248 to R251). -/
def execMsixEntryWrite (fn vec dword : Nat) (v : W32) (s : State) := command (fun s => (s.written fn 4).msixWrite fn vec dword v) s

/-! ## Host reads end -/

/-- Free a request tag, and note for the queued invalidations of its function that its read has ended (R239). -/
def State.freeTag (s : State) (key : Nat) : State :=
  match tget s.tags key with
  | none => s
  | some t =>
    ({ s with tags := tdel s.tags key }).modFn t.fn fun f =>
      { f with invQueue := f.invQueue.map fun (x : Nat × List Nat) => (x.1, x.2.filter (· != key)) }

/-- The waiting read that a tag stands for. -/
def Tag.wait (t : Tag) : Wait :=
  { fn := t.fn, role := t.role, obj := t.obj, addr := t.addr, len := t.len, xunit := t.xunit, off := t.off, ats := true,
    asked := true }

/-- The outcome of a spill access that the host refuses or does not answer (R356). -/
def State.spillHostError (s : State) (q : Nat) : State :=
  ({ s with plc := { s.plc with spillFail := satInc s.plc.spillFail, retry := s.plc.retry ++ [q] } }).raise 704 faultPlain

/-- A host read that ends without data, by its use: UR, CA, poisoned data or a timeout (R174, R196, R209, R216, R356). -/
def State.readLost (s : State) (t : Tag) (cause : Byte) : State :=
  match t.role with
  | .descriptor => s.fetchFailed t.obj t.xunit cause
  | .payload =>
    match (tget s.units t.xunit).map XUnit.owner with
    | some (Owner.unit q i _) => s.qpError q (some i) cause
    | _ => s
  | .inbound => s.readFail t.xunit 0x04
  | .delayed => s.slotFail t.obj t.xunit 0x04
  | .prefetch => s.dropPrefetch fun x => x.win == t.obj && x.order == t.xunit
  | .spill => s.spillHostError t.obj
  | .image | .translation => s

/-- Data of a host read arrives (R21, R175, R211, R216, R219, R537). -/
def State.readData (s : State) (t : Tag) (data : Bytes) : State :=
  let d := fit t.len data
  match t.role with
  | .descriptor => s.fetchDone t.obj t.xunit d
  | .payload => s.landBytes t.xunit t.off d
  | .inbound => s.landBytes t.xunit t.off (laneData (((tget s.units t.xunit).map (·.rule)).getD false) d)
  | .delayed =>
    let s := s.charge t.fn 0x14 d.length
    { s with win := { s.win with slots := tmod s.win.slots t.obj fun x =>
        if x.order = t.xunit then { x with data := splice t.off d x.data, landed := x.landed + d.length } else x } }
  | .prefetch =>
    let s := s.charge t.fn 0x14 d.length
    { s with win := { s.win with prefetch := s.win.prefetch.map fun x =>
        if x.win = t.obj && x.order = t.xunit then { x with landed := x.landed + d.length, data := splice t.off d x.data }
        else x } }
  | .spill | .image | .translation => s

/-- The cache entry that a translated read used is removed (R244). -/
def State.dropEntry (s : State) (fn addr len : Nat) : State :=
  { s with xlt := { s.xlt with cache := s.xlt.cache.filter fun e => !e.covers fn addr len } }

/-- A completion for an outstanding request is accepted. -/
def State.readEnds (s : State) (key : Nat) (t : Tag) (st : CplStatus) (poisoned : Bool) (data : Bytes) : State :=
  let s := s.freeTag key
  if st = .sc && !poisoned then s.readData t data
  else
    let s := if poisoned then (s.aer t.fn aerPoisoned false).raise 342 faultPlain else s
    if t.translated && st != .sc then (s.dropEntry t.fn t.addr t.len).readFault t.wait 0x6
    else s.readLost t csHostAbort

/-- Unexpected Completion (R441, R451). -/
def State.unexpected (s : State) (rid : Nat) : State := (s.aer (s.aerFn rid) aerUnexpectedCompletion true).raise 340 faultPlain

/-- Count an orphan completion (R193, R452). -/
def State.orphan (s : State) (fn : Nat) : State := s.modFn fn fun f => { f with orphanCpl := satInc f.orphanCpl }

/-- Count a late completion (R196, R452). -/
def State.late (s : State) (fn : Nat) : State := s.modFn fn fun f => { f with lateCpl := satInc f.lateCpl }

/-- A completion arrives outside the bound stream of a VF in RUN (R430). -/
def State.offStream (s : State) (fn : Nat) (stream : Option Nat) : Bool :=
  s.tdispIs fn .run && (stream != (s.tenant (vfOf fn)).map (·.stream.toNat))

/-- A completion for a host read arrives (R452). -/
def State.completionIn (rid tag : Nat) (st : CplStatus) (poisoned : Bool) (stream : Option Nat) (data : Bytes) (s : State) :
    State :=
  if s.link.state = .down || !s.operating then s
  else
    let s := s.tlpRcvd rid data.length
    let key := tagKey rid tag
    match tget s.tags key with
    | none => s.unexpected rid
    | some t =>
      match t.state with
      | .quarantined => (s.freeTag key).orphan t.fn
      | .timedOut => (s.freeTag key).late t.fn
      | .outstanding =>
        if s.offStream t.fn stream then s.orphan t.fn
        else if t.role = .translation then s
        else s.readEnds key t st poisoned data

/-- COMPLETION_ARRIVAL (R193, R196, R452). -/
def execCompletionArrival (rid tag : Nat) (st : CplStatus) (poisoned : Bool) (stream : Option Nat) (data : Bytes) (s : State) :=
  command (State.completionIn rid tag st poisoned stream data) s

/-! ## Translation completions (R234, R240, R244, R245) -/

/-- The waiting uses of a function on the ATS path within a range fault with a cause. An event entry that faults is held
again, and goes on from there (R98). -/
def State.faultUses (s : State) (fn base len cause : Nat) : State :=
  let hitW (w : Wait) : Bool := w.fn == fn && w.ats && w.asked && overlap w.addr w.len base len
  let hitI (i : HItem) : Bool :=
    i.fn == fn && i.asked &&
      match i.kind with
      | .write addr data ats _ _ _ _ => ats && overlap addr data.length base len
      | .event _ _ => overlap (s.eventAddr fn) 32 base len
      | .msg _ _ _ => false
  let hitU (u : XUnit) : Option Nat :=
    if u.fn = fn && u.xasked && u.ats then
      ((s.hostTlps u).find? fun t => overlap t.1 t.2.length base len).map (·.1)
    else none
  let ws := s.waits.filter hitW
  let is := s.hostq.filter hitI
  let us := s.units.filterMap fun u => (hitU u.2).map fun addr => (u.1, u.2, addr)
  let s := { s with waits := s.waits.filter (fun w => !hitW w), hostq := s.hostq.filter (fun i => !hitI i) }
  let s := ws.foldl (fun s w => s.readFault w cause) s
  let s := us.foldl (fun s u => s.unitFault u.1 u.2.1 u.2.2 cause) s
  is.foldl (fun s i =>
    match i.kind with
    | .write addr _ _ _ role obj sqi => s.writeFault i role addr obj sqi cause
    | .event e final => s.eventFault i e final
    | .msg _ _ _ => s) s

/-- A translation completion that is none: a range below 4 KiB, or one that misses the page asked for (R441 source 386). -/
def malformed (x : Xlation) (base : Nat) : Bool :=
  decide (x.len < 4096) || x.base % 4096 != 0 || x.len % 4096 != 0 || decide (base < x.base) ||
    decide (x.base + x.len < base + 4096)

/-- Use the answer of a Translation Request. What the cache has no room for serves the uses that wait and goes (R235). -/
def State.xlateUse (s : State) (r : XReq) (st : CplStatus) (x : Xlation) : State :=
  match st with
  | .ca => s.faultUses r.fn r.base r.len 0x4
  | .ur | .rrs => s.faultUses r.fn r.base r.len 0x3
  | .sc =>
    if malformed x r.base then s.raise 386 faultPlain
    else if !x.r && !x.w then s.faultUses r.fn x.base x.len 0x1
    else ((s.xinsert r.fn r.base x).pump).xtrim r.fn

/-- A translation completion arrives (R240). -/
def State.xlateIn (rid tag : Nat) (st : CplStatus) (x : Xlation) (s : State) : State :=
  if s.link.state = .down || !s.operating then s
  else
    let s := s.tlpRcvd rid 0
    let key := tagKey rid tag
    match tget s.tags key with
    | none => s.unexpected rid
    | some t =>
      match t.state with
      | .quarantined => (s.freeTag key).orphan t.fn
      | .timedOut => (s.freeTag key).late t.fn
      | .outstanding =>
        match s.xlt.reqs.find? fun r => r.fn == rid && r.tag == tag with
        | none => s
        | some r =>
          let s := s.freeTag key
          let s := { s with xlt := { s.xlt with reqs := s.xlt.reqs.erase r } }
          if r.stale then { s with xlt := { s.xlt with staleTc := s.xlt.staleTc + 1 } }
          else s.xlateUse r st x

/-- TRANSLATION_COMPLETION (R234, R240, R244). -/
def execTranslationCompletion (rid tag : Nat) (st : CplStatus) (x : Xlation) (s : State) :=
  command (State.xlateIn rid tag st x) s

/-! ## Invalidation (R238, R239) -/

/-- Outstanding translated reads of a function that overlap a range. -/
def State.readsIn (s : State) (fn base len : Nat) (global : Bool) : List Nat :=
  tkeys (tkeep s.tags fun _ t => t.fn == fn && t.state == .outstanding && t.translated &&
    (global || overlap t.addr t.len base len))

/-- An Invalidate Request arrives. -/
def State.invalidate (fn itag base len : Nat) (global : Bool) (s : State) : State :=
  if s.link.state = .down || !s.operating then s
  else
    let s := ({ s with xlt := { s.xlt with invRcvd := s.xlt.invRcvd + 1 } }).occFn 0x0702 1 fn
    let absent := isVf fn && (s.tenant (vfOf fn)).isNone
    if fn = 1 || absent || (s.fn fn).flr then s.sendMsg fn (.invalidationCompletion itag)
    else if (s.fn fn).invQueue.length ≥ 32 then
      ({ s with xlt := { s.xlt with invOvf := satInc s.xlt.invOvf } }).raise 384 (faultAt fn)
    else
      let rd := s.readsIn fn base len global
      (s.xinvalidate fn base len global).modFn fn fun f => { f with invQueue := f.invQueue ++ [(itag, rd)] }

/-- INVALIDATE_REQUEST (R238, R239). -/
def execInvalidateRequest (fn itag base len : Nat) (global : Bool) (s : State) :=
  command (State.invalidate fn itag base len global) s

/-- The oldest invalidation of a function ends once the reads it waits for have ended. -/
def State.invalidated (fn : Nat) (s : State) : State :=
  match (s.fn fn).invQueue with
  | (itag, []) :: r => (s.modFn fn fun f => { f with invQueue := r }).sendMsg fn (.invalidationCompletion itag)
  | _ => s

/-- INVALIDATION_COMPLETION (R239). -/
def execInvalidationCompletion (fn : Nat) (s : State) := command (State.invalidated fn) s

/-! ## Timeouts (R50, R193, R196) -/

/-- The function that a timed-out read counts for: spill and image reads are PF0's (R451). -/
def Tag.aerFn (t : Tag) : Nat := if t.role = .spill || t.role = .image then 0 else t.fn

/-- A read or Translation Request times out: reported once, its tag kept (R50, R196, R244). -/
def State.timeout (key : Nat) (s : State) : State :=
  match tget s.tags key with
  | none => s
  | some t =>
    if t.state ≠ .outstanding || !s.operating then s
    else
      let s := s.freeTag key
      let s := { s with tags := tput s.tags key { t with state := .timedOut } }
      let s := (s.aer t.aerFn aerCompletionTimeout false).raise 341 (faultAt t.fn)
      if t.role = .translation then
        match s.xlt.reqs.find? fun r => r.fn == t.fn && tagKey r.fn r.tag == key with
        | none => s
        | some r =>
          let s := { s with xlt := { s.xlt with reqs := s.xlt.reqs.erase r } }
          if r.stale then s else s.faultUses r.fn r.base r.len 0x5
      else s.readLost t csCompletionTimeout

/-- COMPLETION_TIMEOUT (R50, R196). -/
def execCompletionTimeout (tag : Nat) (s : State) := command (State.timeout tag) s

/-- The quarantine timer of a tag expires (R193). -/
def State.quarantineOver (key : Nat) (s : State) : State :=
  match tget s.tags key with
  | none => s
  | some t => if t.state = .outstanding then s else s.freeTag key

/-- TAG_QUARANTINE_EXPIRY (R193). -/
def execTagQuarantineExpiry (tag : Nat) (s : State) := command (State.quarantineOver tag) s

end Sys2Proof.Machine
end

