-- ==== Sys2Proof/Machine/Layouts.lean ====
section
/-! DEFINITION. The layouts of the Yasil table (R75, R111): the request and response payloads of chapter 5 and the five
structures fixed in silicon (R91, R170, R173, R223, R229). The log entry 67 names what the layout tables leave open. -/
namespace Sys2Proof.Machine

/-- A field descriptor (R75) but for FIELD_ID, which is its position (R111). -/
structure LayoutField where
  off : Nat
  lsb : Nat
  width : Nat
  array : Nat
  deriving DecidableEq, Repr

/-- A layout: its ID, STRUCT_SIZE and its fields in the order of the table that defines them, reserved ones left out. -/
structure Layout where
  id : Nat
  size : Nat
  fields : List LayoutField
  deriving DecidableEq, Repr

/-- A field of whole bytes: a number of up to 8 B, else a byte array (R75). -/
def wholeField (x : Nat × Nat) : LayoutField :=
  if x.2 ≤ 8 then { off := x.1, lsb := 0, width := 8 * x.2, array := 0 } else { off := x.1, lsb := 0, width := 0, array := x.2 }

/-- A layout whose fields are whole bytes, each given by offset and size. DESIGN CHOICE: a field whose table gives it in
whole bytes has their width even where only some of its bits are used, and a payload of varying length is described at
its greatest one (log entry 67). -/
def layoutOf (id size : Nat) (fields : List (Nat × Nat)) : Layout := { id := id, size := size, fields := fields.map wholeField }

/-- Describe and identify (R120, R121): payloads of 0x01xx. -/
def layouts01 : List Layout :=
  [layoutOf 0x4101 40 [(0, 8), (8, 8), (0x10, 8), (0x18, 4), (0x1C, 2), (0x1E, 1), (0x1F, 1), (0x20, 1), (0x21, 1), (0x22, 1), (0x24, 4)],
   layoutOf 0x0102 8 [(0, 4), (4, 2)], layoutOf 0x4102 1520 [(0, 4), (4, 2), (8, 1512)]]

/-- Pools and tenants (R122 to R126): payloads of 0x02xx. -/
def layouts02 : List Layout :=
  [layoutOf 0x0201 4 [(0, 1), (2, 2)], layoutOf 0x0202 4 [(0, 1)],
   layoutOf 0x0203 32 [(0, 2), (3, 1), (4, 2), (6, 2), (8, 1), (9, 1), (0xA, 2), (0xC, 2), (0xE, 2), (0x10, 8)],
   layoutOf 0x0204 4 [(0, 2)], layoutOf 0x0205 4 [(0, 2)], layoutOf 0x4205 356 [(0, 32), (32, 2), (36, 320)],
   layoutOf 0x0206 16 [(0, 8), (8, 8)]]

/-- Queue sets and QPs (R128 to R133): payloads of 0x03xx. -/
def layouts03 : List Layout :=
  [layoutOf 0x0301 24 [(0, 1), (2, 2), (4, 2), (6, 2), (8, 4), (0x10, 8)],
   layoutOf 0x0302 24 [(0, 1), (2, 2), (4, 2), (6, 2), (8, 4), (0x10, 8)], layoutOf 0x0303 4 [(0, 1)],
   layoutOf 0x0304 32 [(0, 2), (4, 4), (8, 8), (0x10, 8), (0x18, 1), (0x19, 1)], layoutOf 0x4304 8 [(0, 2), (2, 1)],
   layoutOf 0x0305 8 [(0, 2), (2, 2), (4, 1)], layoutOf 0x4305 8 [(0, 1)], layoutOf 0x0306 8 [(0, 2), (2, 2)],
   layoutOf 0x0307 8 [(0, 2), (2, 2)],
   layoutOf 0x4307 32 [(0, 2), (2, 1), (3, 1), (4, 2), (6, 2), (8, 2), (0xA, 1), (0xC, 1), (0xD, 1), (0xE, 1), (0x10, 2), (0x18, 4)]]

/-- Windows (R134 to R137): payloads of 0x04xx. -/
def layouts04 : List Layout :=
  [layoutOf 0x0401 40 [(0, 2), (2, 1), (3, 1), (4, 1), (8, 8), (0x10, 8), (0x18, 4), (0x1C, 4), (0x20, 8)],
   layoutOf 0x0402 4 [(0, 2)],
   layoutOf 0x0403 40 [(0, 2), (2, 1), (3, 1), (4, 4), (8, 8), (0x10, 8), (0x18, 8), (0x20, 4)],
   layoutOf 0x0404 4 [(0, 2)], layoutOf 0x0405 4 [(0, 1), (2, 2)],
   layoutOf 0x4405 64 [(0, 1), (8, 40), (48, 8), (56, 4)]]

/-- Stitch (R138 to R140): payloads of 0x05xx. -/
def layouts05 : List Layout :=
  [layoutOf 0x0501 2024 [(0, 2), (2, 2), (8, 2016)], layoutOf 0x0502 4 [(0, 2), (2, 2)], layoutOf 0x0503 16 [(0, 2), (8, 8)],
   layoutOf 0x0504 4 [(0, 2)], layoutOf 0x4504 56 [(0, 32), (32, 8), (40, 8), (48, 4)]]

/-- Energy (R141 to R145): payloads of 0x06xx. -/
def layouts06 : List Layout :=
  [layoutOf 0x0601 8 [(0, 4), (4, 4)], layoutOf 0x0602 16 [(0, 8), (8, 8)], layoutOf 0x0603 16 [(0, 2), (8, 8)],
   layoutOf 0x0604 8 [(0, 8)], layoutOf 0x4604 8 [(0, 8)], layoutOf 0x0605 8 [(0, 2)],
   layoutOf 0x4605 40 [(0, 8), (8, 8), (0x10, 8), (0x18, 4), (0x1C, 1), (0x20, 8)]]

/-- The eleven floors of VOTE_SET, four bits each (R150). -/
def voteFields : List LayoutField := (List.range 11).map fun k => { off := k / 2, lsb := 4 * (k % 2), width := 4, array := 0 }

/-- Hints, telemetry and votes (R146 to R151): payloads of 0x07xx to 0x09xx. -/
def layouts07 : List Layout :=
  [layoutOf 0x0701 16 [(0, 1), (2, 2), (4, 1), (5, 1), (6, 1), (8, 2)], layoutOf 0x0702 8 [(0, 2), (2, 2), (4, 1)],
   layoutOf 0x0703 8 [(0, 2), (2, 2)], layoutOf 0x0801 8 [(0, 4), (4, 4)],
   layoutOf 0x0802 8 [(0, 2), (2, 2), (4, 1), (6, 2)], layoutOf 0x4803 8 [(0, 8)],
   { id := 0x0901, size := 8, fields := voteFields }, layoutOf 0x4902 64 [(0, 11), (16, 44), (60, 1)]]

/-- Faults and log (R152 to R154): payloads of 0x0Axx. -/
def layouts0A : List Layout :=
  [layoutOf 0x4A01 144 [(0, 144)], layoutOf 0x0A02 4 [(0, 2)],
   layoutOf 0x4A02 64 [(0, 2), (2, 1), (3, 1), (4, 4), (8, 8), (0x10, 8), (0x18, 40)], layoutOf 0x0A03 4 [(0, 2), (2, 2)],
   layoutOf 0x0A04 8 [(0, 4), (4, 2)], layoutOf 0x4A04 1520 [(0, 4), (4, 2), (8, 4), (16, 1504)]]

/-- Update and the 0x0Fxx class (R155 to R161). -/
def layouts0B : List Layout :=
  [layoutOf 0x0B01 8 [(0, 4)], layoutOf 0x4B01 8 [(0, 2), (2, 1)], layoutOf 0x0B02 24 [(0, 2), (4, 4), (8, 4), (0x10, 8)],
   layoutOf 0x0B03 8 [(0, 2)], layoutOf 0x0B04 4 [(0, 2)], layoutOf 0x0B05 4 [(0, 1)],
   layoutOf 0x4B06 24 [(0, 2), (2, 1), (3, 1), (4, 4), (8, 4), (0xC, 1), (0xD, 1), (0xE, 1), (0xF, 1)],
   layoutOf 0x0F01 2 [(0, 2)], layoutOf 0x0F02 1520 [(0, 1520)], layoutOf 0x4F02 1520 [(0, 1520)]]

/-- The five structures fixed in silicon (R75): the descriptor (R170), the completion record (R173), the Stitch map
entry (R223), the telemetry record (R229) and the event queue entry (R91). -/
def layoutsSilicon : List Layout :=
  [layoutOf 0x8001 64 [(0, 1), (1, 1), (2, 1), (4, 4), (8, 8), (0x10, 4), (0x14, 4), (0x18, 8), (0x20, 8), (0x28, 8)],
   layoutOf 0x8002 32 [(0, 2), (2, 1), (3, 1), (4, 1), (8, 4), (0xC, 4), (0x10, 8), (0x18, 8)],
   layoutOf 0x8003 32 [(0, 1), (1, 1), (2, 2), (4, 4), (8, 2), (0xA, 1), (0xB, 1), (0xC, 4), (0x10, 8), (0x18, 2), (0x1A, 2),
     (0x1C, 1), (0x1D, 1), (0x1E, 1)],
   layoutOf 0x8004 32 [(0, 1), (1, 1), (2, 2), (4, 4), (8, 8), (0x10, 8), (0x18, 8)],
   layoutOf 0x8005 32 [(0, 1), (1, 1), (2, 2), (4, 2), (6, 2), (8, 8), (0x10, 3), (0x13, 1), (0x14, 4), (0x18, 8)]]

/-- Every layout, in the order of the opcodes, the five silicon ones last. -/
def yasilLayouts : List Layout :=
  layouts01 ++ layouts02 ++ layouts03 ++ layouts04 ++ layouts05 ++ layouts06 ++ layouts07 ++ layouts0A ++ layouts0B ++ layoutsSilicon

/-- The field descriptors of a record, FIELD_ID counted from a number on. -/
def fieldRecords : Nat → List LayoutField → Bytes
  | _, [] => []
  | n, f :: r => leBytes 2 n ++ leBytes 2 f.off ++ leBytes 1 f.lsb ++ leBytes 1 f.width ++ leBytes 2 f.array ++ fieldRecords (n + 1) r

/-- A layout record (R75). -/
def layoutRecord (l : Layout) : Bytes :=
  leBytes 2 l.id ++ leBytes 2 (8 + 8 * l.fields.length) ++ leBytes 2 l.size ++ leBytes 2 l.fields.length ++ fieldRecords 1 l.fields

end Sys2Proof.Machine
end

