-- ==== Sys2Proof/Machine/Yasil.lean ====
section
/-! DEFINITION. The opcodes of Jalid command set J4.2 (R117 to R161) and the three views of the Yasil table built from them
(R74 to R77). -/
namespace Sys2Proof.Machine

/-- An opcode: its issuers (bit 0 PF0, bit 1 PF1, bit 2 VF), its class, its request size (none where it varies), whether
its response has a payload, the minor version that introduced it, and the reserved fields of its request (R75, R110,
R118). -/
structure OpInfo where
  code : Nat
  issuers : Nat
  long : Bool
  req : Option Nat
  rsp : Bool
  minor : Nat
  rsv : List (Nat × Nat)
  deriving DecidableEq, Repr

/-- IDENTIFY. -/
def opIdentify : OpInfo := { code := 0x0101, issuers := 7, long := false, req := some 0, rsp := true, minor := 0, rsv := [] }
/-- YASIL_READ. -/
def opYasilRead : OpInfo := { code := 0x0102, issuers := 7, long := false, req := some 8, rsp := true, minor := 0, rsv := [(6, 2)] }
/-- GROUP_CREATE. -/
def opGroupCreate : OpInfo := { code := 0x0201, issuers := 1, long := false, req := some 4, rsp := false, minor := 0, rsv := [(1, 1)] }
/-- GROUP_DESTROY. -/
def opGroupDestroy : OpInfo := { code := 0x0202, issuers := 1, long := false, req := some 4, rsp := false, minor := 0, rsv := [(1, 3)] }
/-- TENANT_CREATE. -/
def opTenantCreate : OpInfo := { code := 0x0203, issuers := 1, long := true, req := some 32, rsp := false, minor := 0, rsv := [(2, 1), (24, 8)] }
/-- TENANT_DESTROY. -/
def opTenantDestroy : OpInfo := { code := 0x0204, issuers := 1, long := true, req := some 4, rsp := false, minor := 0, rsv := [(2, 2)] }
/-- TENANT_QUERY. -/
def opTenantQuery : OpInfo := { code := 0x0205, issuers := 1, long := false, req := some 4, rsp := true, minor := 0, rsv := [(2, 2)] }
/-- SPILL_GRANT. -/
def opSpillGrant : OpInfo := { code := 0x0206, issuers := 1, long := false, req := some 16, rsp := false, minor := 0, rsv := [] }
/-- SPILL_REVOKE. -/
def opSpillRevoke : OpInfo := { code := 0x0207, issuers := 1, long := true, req := some 0, rsp := false, minor := 0, rsv := [] }
/-- QSET_CREATE. -/
def opQsetCreate : OpInfo := { code := 0x0301, issuers := 5, long := false, req := some 24, rsp := false, minor := 0, rsv := [(1, 1), (12, 4)] }
/-- QSET_MODIFY. -/
def opQsetModify : OpInfo := { code := 0x0302, issuers := 5, long := false, req := some 24, rsp := false, minor := 0, rsv := [(1, 1), (12, 4)] }
/-- QSET_DESTROY. -/
def opQsetDestroy : OpInfo := { code := 0x0303, issuers := 5, long := false, req := some 4, rsp := false, minor := 0, rsv := [(1, 3)] }
/-- QP_CREATE. -/
def opQpCreate : OpInfo := { code := 0x0304, issuers := 5, long := false, req := some 32, rsp := true, minor := 0, rsv := [(2, 2), (26, 6)] }
/-- QP_MODIFY. -/
def opQpModify : OpInfo := { code := 0x0305, issuers := 5, long := false, req := some 8, rsp := true, minor := 0, rsv := [(5, 3)] }
/-- QP_DESTROY. -/
def opQpDestroy : OpInfo := { code := 0x0306, issuers := 5, long := true, req := some 8, rsp := false, minor := 0, rsv := [(4, 4)] }
/-- QP_QUERY. -/
def opQpQuery : OpInfo := { code := 0x0307, issuers := 5, long := false, req := some 8, rsp := true, minor := 0, rsv := [(4, 4)] }
/-- APT_OPEN. -/
def opAptOpen : OpInfo := { code := 0x0401, issuers := 5, long := false, req := some 40, rsp := false, minor := 0, rsv := [(5, 3)] }
/-- APT_CLOSE. -/
def opAptClose : OpInfo := { code := 0x0402, issuers := 5, long := true, req := some 4, rsp := false, minor := 0, rsv := [(2, 2)] }
/-- IWIN_OPEN. -/
def opIwinOpen : OpInfo := { code := 0x0403, issuers := 5, long := false, req := some 40, rsp := false, minor := 0, rsv := [(36, 4)] }
/-- IWIN_CLOSE. -/
def opIwinClose : OpInfo := { code := 0x0404, issuers := 5, long := true, req := some 4, rsp := false, minor := 0, rsv := [(2, 2)] }
/-- WIN_QUERY. -/
def opWinQuery : OpInfo := { code := 0x0405, issuers := 5, long := false, req := some 4, rsp := true, minor := 0, rsv := [(1, 1)] }
/-- STITCH_LOAD. -/
def opStitchLoad : OpInfo := { code := 0x0501, issuers := 1, long := false, req := none, rsp := false, minor := 0, rsv := [(4, 4)] }
/-- STITCH_CLEAR. -/
def opStitchClear : OpInfo := { code := 0x0502, issuers := 1, long := false, req := some 4, rsp := false, minor := 0, rsv := [] }
/-- STITCH_SET. -/
def opStitchSet : OpInfo := { code := 0x0503, issuers := 1, long := false, req := some 16, rsp := false, minor := 0, rsv := [(2, 6)] }
/-- STITCH_QUERY. -/
def opStitchQuery : OpInfo := { code := 0x0504, issuers := 1, long := false, req := some 4, rsp := true, minor := 0, rsv := [(2, 2)] }
/-- CAP_SET. -/
def opCapSet : OpInfo := { code := 0x0601, issuers := 1, long := false, req := some 8, rsp := false, minor := 0, rsv := [] }
/-- RESERVE_SET. -/
def opReserveSet : OpInfo := { code := 0x0602, issuers := 1, long := false, req := some 16, rsp := false, minor := 0, rsv := [] }
/-- ALLOWANCE_SET. -/
def opAllowanceSet : OpInfo := { code := 0x0603, issuers := 1, long := false, req := some 16, rsp := false, minor := 0, rsv := [(2, 6)] }
/-- BORROW. -/
def opBorrow : OpInfo := { code := 0x0604, issuers := 5, long := false, req := some 8, rsp := true, minor := 1, rsv := [] }
/-- ENERGY_QUERY. -/
def opEnergyQuery : OpInfo := { code := 0x0605, issuers := 7, long := false, req := some 8, rsp := true, minor := 0, rsv := [(2, 6)] }
/-- HINT_SET. -/
def opHintSet : OpInfo := { code := 0x0701, issuers := 5, long := false, req := some 16, rsp := false, minor := 0, rsv := [(1, 1), (7, 1), (10, 6)] }
/-- PLACE_LIMITS. -/
def opPlaceLimits : OpInfo := { code := 0x0702, issuers := 1, long := false, req := some 8, rsp := false, minor := 0, rsv := [(5, 3)] }
/-- NUMA_MAP. -/
def opNumaMap : OpInfo := { code := 0x0703, issuers := 1, long := false, req := some 8, rsp := false, minor := 2, rsv := [(4, 4)] }
/-- TELEM_CONFIG. -/
def opTelemConfig : OpInfo := { code := 0x0801, issuers := 5, long := false, req := some 8, rsp := false, minor := 0, rsv := [] }
/-- COUNTER_SELECT. -/
def opCounterSelect : OpInfo := { code := 0x0802, issuers := 2, long := false, req := some 8, rsp := false, minor := 0, rsv := [(5, 1)] }
/-- TELEM_SNAPSHOT. -/
def opTelemSnapshot : OpInfo := { code := 0x0803, issuers := 2, long := false, req := some 0, rsp := true, minor := 1, rsv := [] }
/-- VOTE_SET. -/
def opVoteSet : OpInfo := { code := 0x0901, issuers := 3, long := false, req := some 8, rsp := false, minor := 0, rsv := [(6, 2)] }
/-- VOTE_QUERY. -/
def opVoteQuery : OpInfo := { code := 0x0902, issuers := 3, long := false, req := some 0, rsp := true, minor := 0, rsv := [] }
/-- FAULT_VECTOR. -/
def opFaultVector : OpInfo := { code := 0x0A01, issuers := 1, long := false, req := some 0, rsp := true, minor := 0, rsv := [] }
/-- FAULT_QUERY. -/
def opFaultQuery : OpInfo := { code := 0x0A02, issuers := 1, long := false, req := some 4, rsp := true, minor := 0, rsv := [(2, 2)] }
/-- FAULT_CLEAR. -/
def opFaultClear : OpInfo := { code := 0x0A03, issuers := 1, long := false, req := some 4, rsp := false, minor := 0, rsv := [] }
/-- LOG_READ. -/
def opLogRead : OpInfo := { code := 0x0A04, issuers := 3, long := false, req := some 8, rsp := true, minor := 0, rsv := [(6, 2)] }
/-- UPDATE_BEGIN. -/
def opUpdateBegin : OpInfo := { code := 0x0B01, issuers := 1, long := false, req := some 8, rsp := true, minor := 0, rsv := [(4, 4)] }
/-- UPDATE_WRITE. -/
def opUpdateWrite : OpInfo := { code := 0x0B02, issuers := 1, long := true, req := some 24, rsp := false, minor := 0, rsv := [(2, 2), (12, 4)] }
/-- UPDATE_COMMIT. -/
def opUpdateCommit : OpInfo := { code := 0x0B03, issuers := 1, long := true, req := some 8, rsp := false, minor := 0, rsv := [(2, 6)] }
/-- UPDATE_CANCEL. -/
def opUpdateCancel : OpInfo := { code := 0x0B04, issuers := 1, long := false, req := some 4, rsp := false, minor := 0, rsv := [(2, 2)] }
/-- UPDATE_ACTIVATE. -/
def opUpdateActivate : OpInfo := { code := 0x0B05, issuers := 1, long := false, req := some 4, rsp := false, minor := 0, rsv := [(1, 3)] }
/-- UPDATE_STATUS. -/
def opUpdateStatus : OpInfo := { code := 0x0B06, issuers := 1, long := false, req := some 0, rsp := true, minor := 2, rsv := [] }
/-- NOP. -/
def opNop : OpInfo := { code := 0x0F00, issuers := 7, long := false, req := some 0, rsp := false, minor := 0, rsv := [] }
/-- ABORT. -/
def opAbort : OpInfo := { code := 0x0F01, issuers := 7, long := false, req := some 2, rsp := false, minor := 0, rsv := [] }
/-- ECHO. -/
def opEcho : OpInfo := { code := 0x0F02, issuers := 7, long := false, req := none, rsp := true, minor := 0, rsv := [] }

/-- Every opcode, in the order of its number. -/
def opcodes : List OpInfo :=
  [opIdentify, opYasilRead, opGroupCreate, opGroupDestroy, opTenantCreate, opTenantDestroy, opTenantQuery,
   opSpillGrant, opSpillRevoke, opQsetCreate, opQsetModify, opQsetDestroy, opQpCreate, opQpModify,
   opQpDestroy, opQpQuery, opAptOpen, opAptClose, opIwinOpen, opIwinClose, opWinQuery, opStitchLoad,
   opStitchClear, opStitchSet, opStitchQuery, opCapSet, opReserveSet, opAllowanceSet, opBorrow,
   opEnergyQuery, opHintSet, opPlaceLimits, opNumaMap, opTelemConfig, opCounterSelect, opTelemSnapshot,
   opVoteSet, opVoteQuery, opFaultVector, opFaultQuery, opFaultClear, opLogRead, opUpdateBegin,
   opUpdateWrite, opUpdateCommit, opUpdateCancel, opUpdateActivate, opUpdateStatus, opNop, opAbort, opEcho]

/-! ## Views (R74 to R77) -/

/-- The CRC-32 of IEEE 802.3 over a byte string (R74). -/
def crc32 (b : Bytes) : Nat :=
  let bit (a : Nat) : Nat := if a % 2 = 1 then (a / 2) ^^^ 0xEDB88320 else a / 2
  let byte (a : Nat) (x : Byte) : Nat := bit (bit (bit (bit (bit (bit (bit (bit (a ^^^ x.toNat))))))))
  b.foldl byte 0xFFFFFFFF ^^^ 0xFFFFFFFF

/-- The view of a function: 0 full, 1 observer, else tenant. -/
def issuerBit (fn : Nat) : Nat := if fn = 0 then 0 else if fn = 1 then 1 else 2

/-- Opcodes that a view lists: all in the full table, else those the function may issue (R75, R80). -/
def viewOps (fn : Nat) : List OpInfo := if fn = 0 then opcodes else opcodes.filter fun o => bitAt o.issuers (issuerBit fn)

/-- An opcode entry. -/
def opEntry (o : OpInfo) : Bytes :=
  leBytes 2 o.code ++ leBytes 1 o.issuers ++ leBytes 1 (b2n o.long) ++ leBytes 2 (if o.req = some 0 then 0 else o.code) ++
    leBytes 2 (if o.rsp then o.code + 0x4000 else 0)

/-- The layout records a view carries: all in the full table, else those that the REQ_LAYOUT and RSP_LAYOUT of its
opcodes name (R75). DEDUCED: a structure fixed in silicon is named by no opcode, so only the full table describes it. -/
def viewLayouts (fn : Nat) : List Bytes :=
  (yasilLayouts.filter fun l => fn == 0 || (viewOps fn).any fun o => l.id == o.code || l.id == o.code + 0x4000).map layoutRecord

/-- A window map entry. -/
def mapEntry (e : Nat × Nat × Nat × Nat × Nat) : Bytes :=
  leBytes 1 e.1 ++ leBytes 1 e.2.1 ++ leBytes 2 e.2.2.1 ++ zeros 4 ++ leBytes 8 e.2.2.2.1 ++ leBytes 8 e.2.2.2.2

/-- The regions of PF0 (R58, R73): class, BAR, KIND, OFFSET, SIZE. BAR2 stands at its reset size. DESIGN CHOICE: R75 does
not say how regions are cut into entries, in which order they stand, or the KIND of the expansion ROM: the register
blocks that adjoin are one entry, reserved ranges have none, the order is this list's, and the ROM from its table on is a
Yasil view (log entry 67). -/
def mapPf0 : List (Nat × Nat × Nat × Nat × Nat) :=
  [(0, 0, 1, 0x0000000, 0x120000), (0, 0, 6, 0x1C0000, 0x8000), (0, 0, 7, 0x1C8000, 0x100),
   (0, 0, 9, 0x200000, 0xE00000), (0, 0, 3, 0x1000000, 0x1000), (0, 0, 4, 0x1002000, 0x1000),
   (0, 0, 2, 0x1010000, 0x10000), (0, 2, 8, 0, 2 ^ 38), (0, 0xFF, 5, 0x1000, 1044480)]

/-- The regions of PF1 (R59). -/
def mapPf1 : List (Nat × Nat × Nat × Nat × Nat) :=
  [(1, 0, 1, 0, 0x10000), (1, 0, 9, 0x10000, 0x8000), (1, 0, 3, 0xF00000, 0x1000), (1, 0, 5, 0xF01000, 0x1000),
   (1, 0, 6, 0xFF0000, 0x100), (1, 0, 7, 0xFF8000, 0x8)]

/-- The regions of every VF (R60). -/
def mapVf : List (Nat × Nat × Nat × Nat × Nat) :=
  [(2, 0, 2, 0, 0x1000), (2, 0, 3, 0x1000, 0x1000), (2, 0, 4, 0x2000, 0x1000), (2, 0, 5, 0x3000, 0x1000),
   (2, 0, 6, 0x4000, 0x4000), (2, 0, 7, 0x8000, 0x80), (2, 2, 8, 0, 2 ^ 30)]

/-- The status codes that a view lists (R116). -/
def statusCodes : List Nat :=
  [0x0000, 0x0001, 0x0002, 0x0003, 0x0010, 0x0011, 0x0012, 0x0013, 0x0014, 0x0015, 0x0016, 0x0020, 0x0021, 0x0030,
   0x0031, 0x0032, 0x0040]

/-- The limits (R75). -/
def limitEntries : List (Nat × Nat) :=
  [(1, 65536), (2, 65536), (3, 256), (4, 1024), (5, 65536), (6, 32768), (7, 128), (8, 1024), (9, 255), (10, 1024),
   (11, 16), (12, 64), (13, 65536), (14, 1073741824)]

/-- A section: type, entries, and the size of an entry, 0 where entries vary. -/
def State.viewSections (s : State) (fn : Nat) : List (Nat × List Bytes × Nat) :=
  let map := if fn = 0 then mapPf0 ++ mapPf1 ++ mapVf else if fn = 1 then mapPf1 else mapVf
  let list := s.windowList (vfOf fn)
  let windows := (List.range (list.length / 4)).map fun i => slice (4 * i) 4 list
  [(1, (viewOps fn).map opEntry, 8), (2, viewLayouts fn, 0), (3, map.map mapEntry, 24),
   (4, statusCodes.map (fun c => leBytes 2 c ++ zeros 2), 4), (5, limitEntries.map (fun l => leBytes 4 l.1 ++ leBytes 4 l.2), 8)] ++
    (if isVf fn then [(6, [s.allocEntry (vfOf fn)], 32), (7, windows, 4)] else [])

/-- The directory of the sections, from an offset on (R74). -/
def viewDirectory : Nat → List (Nat × List Bytes × Nat) → Bytes
  | _, [] => []
  | off, x :: r =>
    let n := x.2.1.flatten.length
    leBytes 2 x.1 ++ zeros 2 ++ leBytes 4 off ++ leBytes 4 n ++ leBytes 2 x.2.1.length ++ leBytes 2 x.2.2 ++
      viewDirectory (off + n) r

/-- GENERATION of a function's view (R78, R79). -/
def State.viewGeneration (s : State) (fn : Nat) : W32 := (s.fn fn).generation + s.prov.genAll

/-- The Yasil table of a function as bytes (R74). -/
def State.yasil (s : State) (fn : Nat) : Bytes :=
  let secs := s.viewSections fn
  let body := (secs.map fun x => x.2.1.flatten).flatten
  let total := 64 + 16 * secs.length + body.length
  let head (crc : Nat) : Bytes :=
    [0x59, 0x53, 0x4C, 0x31] ++ leBytes 2 64 ++ [0x01] ++ leBytes 1 (if fn = 0 then 0 else if fn = 1 then 2 else 1) ++
      leBytes 4 total ++ leBytes 4 crc ++ leBytes 4 (s.viewGeneration fn).toNat ++ [4, 2] ++ leBytes 2 secs.length ++
      leBytes 8 s.runningBuild.toNat ++ leBytes 2 2032 ++ leBytes 2 1520 ++ leBytes 2 fn ++ zeros 26
  let rest := viewDirectory (64 + 16 * secs.length) secs ++ body
  head (crc32 (head 0 ++ rest)) ++ rest

/-- The view as it reads (R79): 0 while Jalid starts or reloads. -/
def State.view (s : State) (fn : Nat) : Bytes := if s.boot.reloading || !s.operating then [] else s.yasil fn

end Sys2Proof.Machine
end

