-- ==== Sys2Proof/Machine/Jalid.lean ====
section
/-! DEFINITION. How a Pocket takes a request (R82 to R90), the order of Jalid's checks (R113, R536), the response and the
events of a command (R83, R88, R93), how objects are named (R112), and the ends of long commands (R119). -/
namespace Sys2Proof.Machine

/-- What the checks from step 6 on and the command itself answer: a refusal, a result, a refusal with a payload (R144), or
the acceptance of a long command on an object. -/
inductive Reply where
  | refuse (status : Nat)
  | done (payload : Bytes) (s : State)
  | exhausted (payload : Bytes)
  | accept (kind : LongKind) (obj : Nat) (s : State)

/-- What a command does once steps 1 to 5 and the first three checks of R536 have passed: caller, payload, state. -/
abbrev Body := Nat → Bytes → State → Reply

/-! ## Names (R112, R536) -/

/-- The function that a TARGET of a caller names: a status, or the function. -/
def State.target (s : State) (fn t : Nat) : Except Nat Nat :=
  if isVf fn then (if t = 0 then .ok fn else .error stNotPermitted)
  else if t = 0 then .ok fn
  else
    match s.tenant t with
    | none => .error stBadArgument
    | some x => if x.state = .wiping then .error stBusy else .ok (fnOfVf t)

/-- The QP of a function at a local index. -/
def State.qpAt (s : State) (fn idx : Nat) : Option (Nat × Qp) := s.qps.find? fun p => p.2.fn == fn && p.2.idx == idx

/-- Queue sets a function may have. -/
def State.qsetLimit (s : State) (fn : Nat) : Nat := if fn = 0 then 16 else ((s.tenant (vfOf fn)).map (·.qsets)).getD 0

/-- Outstanding long commands of every Pocket. -/
def State.allLongs (s : State) : List LongCmd := (s.fns.map fun p => p.2.pocket.longs).flatten

/-- An outstanding long command of a kind names an object (R114). -/
def State.longOn (s : State) (k : LongKind) (obj : Nat) : Bool := s.allLongs.any fun c => c.kind == k && c.obj == obj

/-- An outstanding long command of a kind. -/
def State.longAny (s : State) (k : LongKind) : Bool := s.allLongs.any fun c => c.kind == k

/-! ## Checks (R113) -/

/-- Step 1 (R84, R85). -/
def State.headerOk (s : State) (fn : Nat) (r : Request) : Bool :=
  decide (r.len ≤ 2032) && r.flags.toNat < 2 && (fit 6 r.rsv).all (· == 0) && r.doorbell.toNat % 65536 == r.token.toNat &&
    !((s.fn fn).pocket.longs.any fun c => c.token == r.token)

/-- Class of an opcode. -/
def OpInfo.cls (o : OpInfo) : Nat := o.code / 256

/-- CMD_FINAL slots of a Pocket (R98). -/
def finalSlots (fn : Nat) : Nat := if fn = 0 then 64 else 16

/-- CMD_FINAL slots in use: one per long command not final, and one per entry of an ended one that is not yet written
(R98, R99). -/
def State.finalsUsed (s : State) (fn : Nat) : Nat :=
  let p := (s.fn fn).pocket
  p.longs.length + (p.held.filter (·.final)).length +
    (s.hostq.filter fun i => i.fn == fn && match i.kind with | .event _ final => final | _ => false).length

/-- Steps 1 to 4, and step 5 for a long command; 0 where all pass. DESIGN CHOICE: a long command that finds every
CMD_FINAL slot in use, be it by entries of ended commands still unwritten, gets BUSY: it cannot reserve the slot of R98
(log entry 68). -/
def State.admitStatus (s : State) (o : OpInfo) (fn : Nat) (r : Request) : Nat :=
  let p := (s.fn fn).pocket
  let absent := isVf fn && (s.tenant (vfOf fn)).isNone
  if !s.headerOk fn r then stBadArgument
  else if decide (r.minor.toNat > 2) || decide (o.minor > r.minor.toNat) then stUnsupportedVersion
  else if !bitAt o.issuers (issuerBit fn) || (absent && o.cls != 1) then stNotPermitted
  else if o.long && !p.enable then stBadArgument
  else if o.long && (decide (s.finalsUsed fn ≥ finalSlots fn) || decide (s.allLongs.length ≥ 4096)) then stBusy
  else stDone

/-- A payload length that R110 allows for an opcode: its request size; STITCH_LOAD and ECHO have rules of their own. -/
def lengthOk (o : OpInfo) (payload : Bytes) : Bool :=
  match o.req with
  | some n => payload.length == n
  | none =>
    if o.code = 0x0F02 then decide (payload.length ≤ 1520)
    else
      let first := leAt 0 2 payload
      let count := leAt 2 2 payload
      decide (1 ≤ count) && decide (count ≤ 63) && decide (first + count ≤ 4096) && payload.length == 8 + 32 * count

/-- Step 6 on: the caller's WIPING state, the length, the reserved fields, then the command's own checks (R536). -/
def State.judge (s : State) (o : OpInfo) (body : Body) (fn : Nat) (r : Request) : Reply :=
  let payload := fit r.len r.payload
  let wiping := isVf fn && (s.tenant (vfOf fn)).map (·.state) == some .wiping
  if wiping && o.cls != 1 && o.cls != 0xF then .refuse stBusy
  else if !lengthOk o payload then .refuse stBadArgument
  else if o.rsv.any fun x => leNat (slice x.1 x.2 payload) != 0 then .refuse stBadArgument
  else body fn payload s

/-! ## The Pocket (R83 to R88) -/

/-- A byte string as a sparse buffer. -/
def bufferOf (b : Bytes) : Table Byte := ((b.zipIdx).filter fun x => x.1 != 0).map fun x => (x.2, x.1)

/-- The request buffer's content (R83). -/
def requestBytes (o : OpInfo) (r : Request) : Bytes :=
  leBytes 2 o.code ++ leBytes 2 r.token.toNat ++ leBytes 2 r.len ++ [r.flags, r.minor] ++ zeros 2 ++ fit 6 r.rsv ++
    fit (min r.len 2032) r.payload

/-- The response (R83). -/
def responseBytes (code : Nat) (r : Request) (status : Nat) (payload : Bytes) : Bytes :=
  leBytes 2 code ++ leBytes 2 r.token.toNat ++ leBytes 2 payload.length ++ [0, r.minor] ++ leBytes 2 status ++ zeros 6 ++
    payload

/-- Put the response into the Pocket. -/
def State.respond (s : State) (fn code : Nat) (r : Request) (status : Nat) (payload : Bytes) : State :=
  s.modPocket fn fun p => { p with state := .responded, rsp := responseBytes code r status payload }

/-- The Pocket is served: operation, the function exists, is not in FLR, Jalid is ready, and a request reaches it (R48,
R104 to R106, R432). -/
def State.pocketServed (s : State) (fn : Nat) : Bool :=
  s.regServed fn && !s.boot.reloading

/-- The NOTIFY entry of a quick command (R88). DESIGN CHOICE: R119 defines no DETAIL for a quick command: it is 0 (log
entry 68). -/
def State.notify (s : State) (fn : Nat) (r : Request) (judged : Bool) (status : Nat) : State :=
  if judged && bitAt r.flags.toNat 0 then s.cmdFinal fn r.token status 0 false else s

/-- Carry a reply out: the effect, the NOTIFY entry, the response. -/
def State.answerReq (s : State) (o : OpInfo) (fn : Nat) (r : Request) (x : Reply) : State :=
  match x with
  | .refuse st => (s.notify fn r (!o.long) st).respond fn o.code r st []
  | .exhausted d => (s.notify fn r (!o.long) stAllowanceExhausted).respond fn o.code r stAllowanceExhausted d
  | .done d t => (t.notify fn r true stDone).respond fn o.code r stDone d
  | .accept k obj t =>
    let c : LongCmd := { token := r.token, kind := k, obj := obj, payload := fit r.len r.payload }
    (t.modPocket fn fun p => { p with longs := p.longs ++ [c] }).respond fn o.code r stAccepted []

/-- A doorbell is accepted: the request is copied, TOKEN set, DROP cleared, the command charged (R86, R372). -/
def State.takeRequest (s : State) (o : OpInfo) (fn : Nat) (r : Request) : State :=
  (s.modPocket fn fun p =>
    { p with state := .working, token := BitVec.ofNat 16 r.doorbell.toNat, drop := false, req := bufferOf (requestBytes o r) }).charge
    fn 0x1A 1

/-- One request: it wakes CTL where that sleeps (R107), is written into the buffer, its token rung, examined and carried out
(R83 to R90, R113). While WORKING, and for a doorbell with a bit of [31:16] set, nothing happens but DROP. A request refused
at steps 1 to 5 writes no NOTIFY entry: it is not judged as a quick command, or it is a long one (R88). -/
def State.jalid (o : OpInfo) (body : Body) (fn : Nat) (r : Request) (s : State) : State :=
  if !s.pocketServed fn then s
  else if (s.fn fn).pocket.state = .working || r.doorbell.toNat ≥ 65536 then
    (s.accessWake .ctl).modPocket fn fun p => { p with drop := true }
  else
    let st := s.admitStatus o fn r
    let t := (s.accessWake .ctl).takeRequest o fn r
    if st = stDone then t.answerReq o fn r (t.judge o body fn r)
    else t.respond fn o.code r st []

/-- A command of Jalid. -/
def request (o : OpInfo) (body : Body) (fn : Nat) (r : Request) (s : State) : Host.Outcome State Fault Refusal :=
  command (State.jalid o body fn r) s

/-! ## Ends of long commands -/

/-- The outstanding long command of a kind on an object, with its Pocket. -/
def State.findLong (s : State) (k : LongKind) (obj : Nat) : Option (Nat × LongCmd) :=
  (s.fns.filterMap fun p => (p.2.pocket.longs.find? fun c => c.kind == k && c.obj == obj).map fun c => (p.1, c)).head?

/-- End the long command of a kind on an object, if its Pocket still holds it. -/
def State.finishOn (s : State) (k : LongKind) (obj status detail : Nat) : State :=
  match s.findLong k obj with
  | some (fn, c) => s.finishLong fn c.token status detail
  | none => s

/-! ## NOP, ECHO, IDENTIFY and YASIL_READ (R120, R121, R161) -/

/-- NOP. -/
def nopBody : Body := fun _ _ s => .done [] s

/-- NOP (R161). -/
def execNop (fn : Nat) (r : Request) (s : State) := request opNop nopBody fn r s

/-- ECHO. -/
def echoBody : Body := fun _ d s => .done d s

/-- ECHO (R161). -/
def execEcho (fn : Nat) (r : Request) (s : State) := request opEcho echoBody fn r s

/-- IDENTIFY. -/
def identifyBody : Body := fun fn _ s =>
  .done (leBytes 8 Config.serial.toNat ++ leBytes 8 s.runningBuild.toNat ++ leBytes 8 s.clk.timebase.toNat ++
    leBytes 4 s.tp.node ++ leBytes 2 fn ++ [0xA1] ++ leBytes 1 (b2n Config.gradeFE) ++ leBytes 1 s.modeCode ++ [4, 2, 0] ++
    leBytes 4 (s.viewGeneration fn).toNat) s

/-- IDENTIFY (R120). -/
def execIdentify (fn : Nat) (r : Request) (s : State) := request opIdentify identifyBody fn r s

/-- YASIL_READ. -/
def yasilReadBody : Body := fun fn d s =>
  let off := leAt 0 4 d
  let len := leAt 4 2 d
  if len < 1 || len > 1512 then .refuse stBadArgument
  else .done (leBytes 4 (s.viewGeneration fn).toNat ++ leBytes 2 len ++ zeros 2 ++ slice off len (s.view fn)) s

/-- YASIL_READ (R121). -/
def execYasilRead (fn : Nat) (r : Request) (s : State) := request opYasilRead yasilReadBody fn r s

end Sys2Proof.Machine
end

