-- ==== Sys2Proof/Machine/Budget.lean ====
section
/-! DEFINITION. The device budget and what the rules compare with it (R375 to R379): cap, window, allowances, the limit of a
function, pause and resumption, the ALLOWANCE event. -/
namespace Sys2Proof.Machine

/-- Femtojoules in a microjoule: accounts are kept in fJ and shown in uJ. -/
def fJ : Nat := 1000000000

/-- Effective cap C in mW: the lower of the two that are set, 44,000 without one (R141, R375). -/
def State.capMw (s : State) : Nat :=
  if s.el.pfCap = 0 then (if s.el.opCap = 0 then 44000 else s.el.opCap)
  else if s.el.opCap = 0 then s.el.pfCap else min s.el.pfCap s.el.opCap

/-- EL_STATUS.CAP_SRC: whose cap is effective; PF0's where both are equal. -/
def State.capSrc (s : State) : Nat :=
  if s.el.pfCap = 0 then (if s.el.opCap = 0 then 0 else 2)
  else if s.el.opCap = 0 || s.el.pfCap ≤ s.el.opCap then 1 else 2

/-- The window that applies from the next boundary on: the operator's where it has set one, else PF0's, else 100 ms
(R141, R375). -/
def State.windowNext (s : State) : Nat :=
  if s.el.opWindow ≠ 0 then s.el.opWindow else if s.el.pfWindow ≠ 0 then s.el.pfWindow else 100

/-- Budget B of the current window, in uJ (R375). -/
def State.budget (s : State) : Nat := s.capMw * s.el.window

/-- Sum of the allowances set, over the functions but one (R376): an exempt function adds 0. -/
def State.allowances (s : State) (but : Option Nat) : Nat :=
  (s.fns.filter fun p => some p.1 != but).foldl (fun n p => n + p.2.allowSet.toNat) 0

/-- Limit of a function in this window, in uJ; none for an exempt one (R376, R377). -/
def Fn.limit (f : Fn) : Option Nat := if f.exempt then none else some (f.allowance.toNat + f.borrowed.toNat)

/-- CONSUMED of a function in uJ. -/
def Fn.used (f : Fn) : Nat := f.consumed / fJ

/-- CONSUMED has reached the limit. -/
def Fn.exhausted (f : Fn) : Bool :=
  match f.limit with
  | none => false
  | some l => decide (f.used ≥ l)

/-- The charge of a queue set has reached its sub-allowance (R377). -/
def QSet.exhausted (x : QSet) : Bool := x.subAllowance ≠ 0 && decide (x.charged / fJ ≥ x.subAllowance.toNat)

/-- An ALLOWANCE event (R378): for a function, or for one of its queue sets. -/
def State.allowanceEvent (s : State) (fn : Nat) (q : Option Nat) (what used : Nat) : State :=
  let d := what + min used (2 ^ 56 - 1) * 256
  match q with
  | none => s.event fn (s.mkEvent 0x05 0 0x00 d)
  | some n => s.event fn (s.mkEvent 0x05 n 0x04 d)

/-- A function whose limit no longer binds resumes: RESUMED, and its QPs go on (R144, R377). -/
def State.resumeFnPause (s : State) (fn : Nat) : State :=
  if (s.fn fn).paused && !(s.fn fn).exhausted then
    ((s.modFn fn fun f => { f with paused := false }).allowanceEvent fn none 0x03 (s.fn fn).used).kickFn fn
  else s

/-- A queue set whose sub-allowance no longer binds resumes (R377). -/
def State.resumeSetPause (s : State) (fn q : Nat) : State :=
  match tget (s.fn fn).qsets q with
  | none => s
  | some x =>
    if x.paused && !x.exhausted then
      ((s.modQset fn q fun x => { x with paused := false }).allowanceEvent fn (some q) 0x03 (x.charged / fJ)).kickFn fn
    else s

end Sys2Proof.Machine
end

