-- ==== Sys2Proof/Machine/JalidEnergy.lean ====
section
/-! DEFINITION. Jalid class 0x06: caps, reserve, allowances, borrowing and the energy accounts (R141 to R145). -/
namespace Sys2Proof.Machine

/-! ## CAP_SET, RESERVE_SET, ALLOWANCE_SET (R141 to R143, R375, R376) -/

/-- CAP_SET. -/
def capSetBody : Body := fun _ d s =>
  let cap := leAt 0 4 d
  let win := leAt 4 4 d
  if cap ≠ 0 && (cap < 12000 || cap > 44000) then .refuse stBadArgument
  else if win < 10 || win > 10000 then .refuse stBadArgument
  else .done [] { s with el := { s.el with pfCap := cap, pfWindow := win } }

/-- CAP_SET (R141, R375): a new cap recomputes the budget at once, a new window waits for the next boundary. -/
def execCapSet (fn : Nat) (r : Request) (s : State) := request opCapSet capSetBody fn r s

/-- RESERVE_SET. -/
def reserveSetBody : Body := fun _ d s =>
  let res := leAt 0 8 d
  if res + s.allowances none > s.budget then .refuse stNoResource
  else
    .done [] { s with el := { s.el with reserve := BitVec.ofNat 64 res, reserveForce := BitVec.ofNat 64 res,
                                        borrowMax := BitVec.ofNat 64 (leAt 8 8 d) } }

/-- RESERVE_SET (R142, R376, R379): the reserve left follows at the next window boundary. -/
def execReserveSet (fn : Nat) (r : Request) (s : State) := request opReserveSet reserveSetBody fn r s

/-- The function that ENERGY_QUERY of PF0 names by a tenant number: a status, or the function. A query is not held up by a
TENANT_CREATE outstanding on the VF (R114, R145). -/
def State.tenantQueried (s : State) (t : Nat) : Except Nat Nat :=
  if t > 1024 then .error stBadArgument
  else
    match s.tenant t with
    | some x => if x.state = .wiping then .error stBusy else .ok (fnOfVf t)
    | none => .error stWrongState

/-- The function whose allowance ALLOWANCE_SET changes: BUSY while a TENANT_CREATE of the VF is outstanding (R114). -/
def State.tenantTarget (s : State) (t : Nat) : Except Nat Nat :=
  if decide (t ≤ 1024) && (s.tenant t).isNone && s.longOn .tenantCreate t then .error stBusy else s.tenantQueried t

/-- ALLOWANCE_SET: a tenant's view changes with its allowance, the full table never does (R78). -/
def allowanceSetBody : Body := fun _ d s =>
  let t := leAt 0 2 d
  let a := leAt 8 8 d
  match if t = 0 then .ok 0 else s.tenantTarget t with
  | .error st => .refuse st
  | .ok fn =>
    if a + s.allowances (some fn) + s.el.reserve.toNat > s.budget then .refuse stNoResource
    else
      let t := s.modFn fn fun f => { f with allowSet := BitVec.ofNat 64 a }
      .done [] (if fn = 0 || (s.fn fn).allowSet.toNat = a then t else t.bumpView fn)

/-- ALLOWANCE_SET (R143, R376): the new allowance applies from the next window on. -/
def execAllowanceSet (fn : Nat) (r : Request) (s : State) := request opAllowanceSet allowanceSetBody fn r s

/-! ## BORROW (R144, R379) -/

/-- What BORROW grants of an amount: the least of it, the caller's unused BORROW_MAX and the reserve left. -/
def State.borrowGrant (s : State) (fn amount : Nat) : Nat :=
  min amount (min (s.el.borrowMax.toNat - (s.fn fn).borrowed.toNat) s.el.reserveLeft.toNat)

/-- BORROW. -/
def borrowBody : Body := fun fn d s =>
  let g := s.borrowGrant fn (leAt 0 8 d)
  if g = 0 then .exhausted (leBytes 8 0)
  else
    let s := s.modFn fn fun f => { f with borrowed := f.borrowed + BitVec.ofNat 64 g }
    .done (leBytes 8 g) { s with el := { s.el with reserveLeft := s.el.reserveLeft - BitVec.ofNat 64 g } }

/-- BORROW (R144): paused queue sets resume at the next planning epoch. -/
def execBorrow (fn : Nat) (r : Request) (s : State) := request opBorrow borrowBody fn r s

/-! ## ENERGY_QUERY (R145) -/

/-- Microseconds to the end of the window under way (R375). -/
def State.windowLeft (s : State) : Nat := s.el.window * 1000 - (s.clk.localCount - s.el.windowAt) / 1000

/-- The accounts of the device, kept in nJ. -/
def State.deviceAccounts (s : State) : Bytes :=
  let borrowed := s.fns.foldl (fun n p => n + p.2.borrowed.toNat) 0
  leBytes 8 (s.el.devWindow / 1000) ++ leBytes 8 s.budget ++ leBytes 8 borrowed ++ leBytes 4 s.windowLeft ++ zeros 4 ++
    leBytes 8 (s.el.devTotal / 1000)

/-- The accounts of a function, kept in fJ. -/
def State.functionAccounts (s : State) (fn : Nat) : Bytes :=
  let f := s.fn fn
  leBytes 8 f.used ++ leBytes 8 f.allowance.toNat ++ leBytes 8 f.borrowed.toNat ++ leBytes 4 s.windowLeft ++
    leBytes 1 (b2n f.paused) ++ zeros 3 ++ leBytes 8 (f.total / fJ)

/-- ENERGY_QUERY. -/
def energyQueryBody : Body := fun fn d s =>
  let t := leAt 0 2 d
  if fn = 0 then
    if t = 0 then .done s.deviceAccounts s
    else
      match s.tenantQueried t with
      | .error st => .refuse st
      | .ok n => .done (s.functionAccounts n) s
  else if t ≠ 0 then .refuse (if isVf fn then stNotPermitted else stBadArgument)
  else if fn = 1 then .done s.deviceAccounts s
  else .done (s.functionAccounts fn) s

/-- ENERGY_QUERY (R145). -/
def execEnergyQuery (fn : Nat) (r : Request) (s : State) := request opEnergyQuery energyQueryBody fn r s

end Sys2Proof.Machine
end

