-- ==== Sys2Proof/Machine/JalidHints.lean ====
section
/-! DEFINITION. Jalid classes 0x07 to 0x0A: placement hints and limits (R146, R147, R346), Buttonhole's counters (R149,
R491, R492), power votes (R150, R151), faults and the event log (R152 to R154, R463). -/
namespace Sys2Proof.Machine

/-! ## HINT_SET, PLACE_LIMITS, NUMA_MAP (R146, R147) -/

/-- The hints of a request are in range (R146). -/
def hintsOk (d : Bytes) : Bool :=
  decide (leAt 4 1 d ≤ 2) && decide (leAt 5 1 d ≤ 2) && decide (leAt 6 1 d ≤ 2) &&
    (decide (leAt 8 2 d ≤ 1023) || leAt 8 2 d == 0xFFFF)

/-- The QPs of a queue set. -/
def State.qpsOfSet (s : State) (fn q : Nat) : List Nat := tkeys (tkeep s.qps fun _ p => p.fn == fn && p.qset == q)

/-- HINT_SET. -/
def hintSetBody : Body := fun fn d s =>
  let i := leAt 2 2 d
  let res : Byte := BitVec.ofNat 8 (leAt 4 1 d)
  let slv : Byte := BitVec.ofNat 8 (leAt 5 1 d)
  let lat : Byte := BitVec.ofNat 8 (leAt 6 1 d)
  let numa : W16 := BitVec.ofNat 16 (leAt 8 2 d)
  match leAt 0 1 d with
  | 0 =>
    match s.qpAt fn i with
    | none => .refuse stBadArgument
    | some (q, _) =>
      if !hintsOk d then .refuse stBadArgument
      else if s.longOn .qpDestroy q then .refuse stBusy
      else
        .done [] ((s.modQp q fun p =>
          { p with hintRes := res, hintSlv := slv, hintLat := lat, hintNuma := numa }).resteerIdle q)
  | 1 =>
    if (tget (s.fn fn).qsets i).isNone || !hintsOk d then .refuse stBadArgument
    else
      let s := s.modQset fn i fun x => { x with hintRes := res, hintSlv := slv, hintLat := lat, hintNuma := numa }
      .done [] ((s.qpsOfSet fn i).foldl State.resteerIdle s)
  | _ => .refuse stBadArgument

/-- HINT_SET (R146). -/
def execHintSet (fn : Nat) (r : Request) (s : State) := request opHintSet hintSetBody fn r s

/-- PLACE_LIMITS. -/
def placeLimitsBody : Body := fun _ d s =>
  let mig := leAt 0 2 d
  let eng := leAt 2 2 d
  let slv := leAt 4 1 d
  if mig > 256 || eng = 0 || slv = 0 || slv > 3 then .refuse stBadArgument
  else
    .done [] { s with plc := { s.plc with maxMig := BitVec.ofNat 9 mig, engineMask := BitVec.ofNat 16 eng,
                                          sleeveMask := BitVec.ofNat 2 slv } }

/-- PLACE_LIMITS (R147, R346). -/
def execPlaceLimits (fn : Nat) (r : Request) (s : State) := request opPlaceLimits placeLimitsBody fn r s

/-- NUMA_MAP. -/
def numaMapBody : Body := fun _ d s =>
  let node := leAt 0 2 d
  let st := leAt 2 2 d
  if node > 1023 then .refuse stBadArgument
  else
    let map := if st = 0xFFFF then tdel s.plc.numa node else tput s.plc.numa node (BitVec.ofNat 16 st)
    let s := { s with plc := { s.plc with numa := map } }
    .done [] ((tkeys s.qps).foldl State.resteerIdle s)

/-- NUMA_MAP (R147, R364). -/
def execNumaMap (fn : Nat) (r : Request) (s : State) := request opNumaMap numaMapBody fn r s

/-! ## COUNTER_SELECT, TELEM_SNAPSHOT (R149, R491, R492) -/

/-- A counter selection is one that R491 allows. -/
def selectOk (event kind filter : Nat) : Bool :=
  bhExists event && decide (kind ≤ 2) && bhAllows event kind &&
    (kind != 1 || decide (filter ≤ 1025)) && (kind != 2 || decide (filter ≤ 255))

/-- A client has raised a floor: a domain below it, or on its way below it, comes up (R150, R387). -/
def State.floorWake (s : State) (d : Domain) (floor : Nat) : State :=
  if floor > floorCode (s.dom d).depth then s.wake d else s

/-- Select what a counter counts (R491). -/
def State.bhSelect (s : State) (n event kind filter : Nat) : State :=
  let x : BhSel := { event := BitVec.ofNat 16 event, kind := BitVec.ofNat 2 kind, filter := BitVec.ofNat 11 filter }
  ({ s with bh := { s.bh with sel := tput s.bh.sel n x, count := tdel s.bh.count n } }).floorWake .bh
    (if event = 0 then 0 else 4)

/-- COUNTER_SELECT. -/
def counterSelectBody : Body := fun _ d s =>
  let n := leAt 0 2 d
  let event := leAt 2 2 d
  let kind := leAt 4 1 d
  let filter := leAt 6 2 d
  if n > 4095 || !selectOk event kind filter then .refuse stBadArgument
  else .done [] (s.bhSelect n event kind filter)

/-- COUNTER_SELECT (R149, R491). -/
def execCounterSelect (fn : Nat) (r : Request) (s : State) := request opCounterSelect counterSelectBody fn r s

/-- TELEM_SNAPSHOT. -/
def telemSnapshotBody : Body := fun _ _ s =>
  .done (leBytes 8 s.clk.timebase.toNat)
    { s with bh := { s.bh with snap := s.bh.count, snapTime := s.clk.timebase } }

/-- TELEM_SNAPSHOT (R149, R492). -/
def execTelemSnapshot (fn : Nat) (r : Request) (s : State) := request opTelemSnapshot telemSnapshotBody fn r s

/-! ## VOTE_SET, VOTE_QUERY (R150, R151) -/

/-- Field k of a vote. -/
def voteOf (d : Bytes) (k : Nat) : Nat := bits (leNat (fit 8 d)) (4 * k + 3) (4 * k)

/-- A vote that its caller may cast: floors 0 to 4, fields 11 to 15 zero, of PF1 only HST and BH. -/
def voteOk (fn : Nat) (d : Bytes) : Bool :=
  ((List.range 16).all fun k => decide (voteOf d k ≤ (if k < 11 then 4 else 0))) &&
    (fn == 0 || (List.range 11).all fun k => k == Domain.hst.num || k == Domain.bh.num || voteOf d k == 0)

/-- Record the floor of PF0 or PF1 for a domain; one for AON is ignored. -/
def State.voteOne (fn : Nat) (d : Bytes) (s : State) (x : Domain) : State :=
  let f := voteOf d x.num
  let s := s.modDom x fun m => if fn = 0 then { m with pf0Floor := f } else { m with pf1Floor := f }
  s.floorWake x f

/-- VOTE_SET. -/
def voteSetBody : Body := fun fn d s =>
  if !voteOk fn d then .refuse stBadArgument
  else .done [] ((if fn = 0 then allDomains else [Domain.hst, Domain.bh]).foldl (State.voteOne fn d) s)

/-- VOTE_SET (R150). -/
def execVoteSet (fn : Nat) (r : Request) (s : State) := request opVoteSet voteSetBody fn r s

/-- VOTE_QUERY. -/
def voteQueryBody : Body := fun _ _ s =>
  .done ((s.pwr.doms.map fun x => BitVec.ofNat 8 (pwrCode x.state)) ++ zeros 5 ++
    (s.pwr.doms.map fun x => leBytes 4 x.refuse.toNat).flatten ++ leBytes 1 s.pwr.lastClient.toNat ++ zeros 3) s

/-- VOTE_QUERY (R151). -/
def execVoteQuery (fn : Nat) (r : Request) (s : State) := request opVoteQuery voteQueryBody fn r s

/-! ## FAULT_VECTOR, FAULT_QUERY, FAULT_CLEAR (R152, R153, R440) -/

/-- FAULT_VECTOR. -/
def faultVectorBody : Body := fun _ _ s =>
  .done (leBytes 144 (maskOf ((List.range 1152).map fun n => tgetD s.fc.sticky n false))) s

/-- FAULT_VECTOR (R152). -/
def execFaultVector (fn : Nat) (r : Request) (s : State) := request opFaultVector faultVectorBody fn r s

/-- The log of a source as FAULT_QUERY returns it. -/
def faultLogBytes (l : Option FaultLog) : Bytes :=
  match l with
  | none => zeros 60
  | some l =>
    leBytes 4 l.count.toNat ++ leBytes 8 l.first.toNat ++ leBytes 8 l.last.toNat ++ leBytes 4 l.detail.code.toNat ++
      leBytes 4 l.detail.inst.toNat ++ leBytes 8 l.detail.addr.toNat ++ leBytes 8 l.detail.syndrome.toNat ++ zeros 16

/-- FAULT_QUERY. -/
def faultQueryBody : Body := fun _ d s =>
  let n := leAt 0 2 d
  if n > 1151 then .refuse stBadArgument
  else
    .done (leBytes 2 n ++ leBytes 1 (b2n (tgetD s.fc.sticky n false)) ++ [s.reactOf n] ++ faultLogBytes (tget s.fc.logs n)) s

/-- FAULT_QUERY (R152, R440). -/
def execFaultQuery (fn : Nat) (r : Request) (s : State) := request opFaultQuery faultQueryBody fn r s

/-- Clear the sticky bits and logs of sources; a line still asserted asserts again (R153). -/
def State.faultClear (s : State) (first count : Nat) : State :=
  let within (n : Nat) : Bool := decide (first ≤ n) && decide (n < first + count)
  let live := (tkeep s.fc.sticky fun n on => on && within n && s.lineHeld n).map fun x =>
    (x.1, ((tget s.fc.logs x.1).map (·.detail)).getD faultPlain)
  { s with fc := { s.fc with sticky := tkeep s.fc.sticky (fun n _ => !within n),
                             logs := tkeep s.fc.logs (fun n _ => !within n), asserted := s.fc.asserted ++ live } }

/-- FAULT_CLEAR. -/
def faultClearBody : Body := fun _ d s =>
  let first := leAt 0 2 d
  let count := leAt 2 2 d
  if count < 1 || count > 1152 || first + count > 1152 then .refuse stBadArgument
  else .done [] (s.faultClear first count)

/-- FAULT_CLEAR (R153). -/
def execFaultClear (fn : Nat) (r : Request) (s : State) := request opFaultClear faultClearBody fn r s

/-! ## LOG_READ (R154, R460, R463) -/

/-- A record as its 32 B (R460). -/
def logBytes (x : LogRec) : Bytes :=
  leBytes 4 x.seq.toNat ++ [x.type, x.flags] ++ leBytes 2 x.code.toNat ++ leBytes 8 x.time.toNat ++ fit 16 x.data

/-- The record continues the one before it. -/
def LogRec.cont (x : LogRec) : Bool := bitAt x.flags.toNat 0

/-- The records at hand for a FROM: none beyond the newest, all for one older than the oldest kept; a CONT record is not
returned without the one it continues. -/
def State.logFrom (s : State) (from' : W32) : List LogRec :=
  let newest := s.lin.nextSeq - 1
  let ahead := (from' - newest).toNat
  let at_ := s.lin.log.dropWhile fun x => x.seq != from'
  if 1 ≤ ahead && ahead < 2 ^ 31 then []
  else (if at_.isEmpty then s.lin.log else at_).dropWhile (·.cont)

/-- The first n records, less a record that the next one would continue. -/
def logTake (n : Nat) (l : List LogRec) : List LogRec :=
  if ((l.drop n).head?.map (·.cont)).getD false then l.take (n - 1) else l.take n

/-- FIRST, COUNT, NEXT and the records (R154). -/
def State.logAnswer (s : State) (from' : W32) (max : Nat) : Bytes :=
  let l := logTake max (s.logFrom from')
  let first := (l.head?.map (·.seq)).getD s.lin.nextSeq
  let next := (l.getLast?.map (·.seq + 1)).getD s.lin.nextSeq
  leBytes 4 first.toNat ++ leBytes 2 l.length ++ zeros 2 ++ leBytes 4 next.toNat ++ zeros 4 ++ (l.map logBytes).flatten

/-- LOG_READ. -/
def logReadBody : Body := fun _ d s =>
  let max := leAt 4 2 d
  if max < 1 || max > 47 then .refuse stBadArgument
  else .done (s.logAnswer (BitVec.ofNat 32 (leAt 0 4 d)) max) s

/-- LOG_READ (R154, R463). -/
def execLogRead (fn : Nat) (r : Request) (s : State) := request opLogRead logReadBody fn r s

end Sys2Proof.Machine
end

