-- ==== Sys2Proof/Machine/JalidUpdate.lean ====
section
/-! DEFINITION. Jalid class 0x0B, the update session (R155 to R160, R472, R473), ABORT (R102), the event queue registers
(R94, R96, R99), and Jalid's reload (R79, R105). -/
namespace Sys2Proof.Machine

/-! ## The session (R155, R472) -/

/-- The slot a session opened now would write; none while an activation is pending. -/
def State.targetSlot (s : State) : Option Slot :=
  let b := s.boot
  if b.running = .recovery then some b.next.twin
  else if b.running = b.next then some b.running.twin
  else none

/-- Open a session on a slot: its header is erased, the slot is invalid (R155, R472). -/
def State.sessionOpen (s : State) (slot : Slot) (pldm : Bool) (len xfer : Nat) : State :=
  let i := s.boot.slot slot
  let x : Session := { id := s.lin.session.id + 1, isOpen := true, pldm := pldm, slot := slot, imageLen := len, written := 0,
                       via := .smbus, named := !pldm, maxXfer := xfer, got := 0, transferred := false }
  ({ s with boot := s.boot.setSlot slot { i with valid := false, erased := true },
            lin := { s.lin with session := x } }).logUpdate 0x01 0

/-- Close the session. -/
def State.sessionClose (s : State) : State :=
  { s with lin := { s.lin with session := { s.lin.session with isOpen := false } } }

/-- UPDATE_BEGIN. -/
def updateBeginBody : Body := fun _ d s =>
  let len := leAt 0 4 d
  if len % 4096 ≠ 0 || len > 2 ^ 25 then .refuse stBadArgument
  else if s.lin.session.isOpen then .refuse stBusy
  else
    match s.targetSlot with
    | none => .refuse stBusy
    | some slot =>
      let s := s.sessionOpen slot false len 0
      .done (leBytes 2 s.lin.session.id.toNat ++ leBytes 1 (slotCode slot) ++ zeros 5) s

/-- UPDATE_BEGIN (R155, R472). -/
def execUpdateBegin (fn : Nat) (r : Request) (s : State) := request opUpdateBegin updateBeginBody fn r s

/-- The request names the session open over the Pocket path. -/
def State.sessionIs (s : State) (d : Bytes) : Bool :=
  let u := s.lin.session
  u.isOpen && !u.pldm && u.id.toNat == leAt 0 2 d

/-- A write or commit of the session is not final. -/
def State.sessionBusy (s : State) : Bool := s.longAny .updateWrite || s.longAny .updateCommit

/-- Object that the image reads carry: above every QP number. -/
def imageObj : Nat := 65536

/-- Queue the image reads of an UPDATE_WRITE: PF0's, never on the ATS path (R156, R231). -/
def State.imageRead (s : State) (addr len : Nat) : State :=
  let ws := (pieces addr len (s.mrrs 0)).map fun x =>
    ({ fn := 0, role := .image, obj := imageObj, addr := addr + x.1, len := x.2, xunit := 0, off := x.1, ats := false,
       asked := false } : Wait)
  { s with waits := s.waits ++ ws }

/-- UPDATE_WRITE. -/
def updateWriteBody : Body := fun _ d s =>
  let u := s.lin.session
  let off := leAt 4 4 d
  let len := leAt 8 4 d
  if len % 4096 ≠ 0 || len < 4096 || len > 2 ^ 22 then .refuse stBadArgument
  else if !s.sessionIs d then .refuse stWrongState
  else if off ≠ u.written || off + len > u.imageLen then .refuse stBadArgument
  else if s.sessionBusy then .refuse stBusy
  else .accept .updateWrite u.id.toNat (s.imageRead (leAt 16 8 d) len)

/-- UPDATE_WRITE (R156). -/
def execUpdateWrite (fn : Nat) (r : Request) (s : State) := request opUpdateWrite updateWriteBody fn r s

/-- Every image read has been issued and has ended. -/
def State.imageIn (s : State) : Bool :=
  !(s.waits.any fun w => w.role == RdRole.image) &&
    !(s.tags.any fun t => t.2.role == RdRole.image && t.2.state == .outstanding)

/-- The flash reports the end of an UPDATE_WRITE (R156, R473); a failure is source 69 (R441). -/
def State.writeEnd (flashOk : Bool) (s : State) : State :=
  match (s.fn 0).pocket.longs.find? fun c => c.kind == .updateWrite with
  | none => s
  | some c =>
    let u := s.lin.session
    if !s.imageIn then s
    else if flashOk then
      let n := u.written + leAt 8 4 c.payload
      ({ s with lin := { s.lin with session := { u with written := n } } }).finishLong 0 c.token stDone n
    else (s.raise 69 faultPlain).finishLong 0 c.token stFlashError u.written

/-- UPDATE_WRITE_COMPLETE (R119, R156, R473). -/
def execUpdateWriteComplete (flashOk : Bool) (s : State) := command (State.writeEnd flashOk) s

/-- UPDATE_COMMIT. -/
def updateCommitBody : Body := fun _ d s =>
  if !s.sessionIs d then .refuse stWrongState
  else if s.sessionBusy then .refuse stBusy
  else if s.lin.session.written < s.lin.session.imageLen then .refuse stWrongState
  else .accept .updateCommit s.lin.session.id.toNat s

/-- UPDATE_COMMIT (R157). -/
def execUpdateCommit (fn : Nat) (r : Request) (s : State) := request opUpdateCommit updateCommitBody fn r s

/-- Status of an install whose checks found this (R157, R435, R436, R473): manifest, anti-rollback, sections, flash. -/
def State.installStatus (s : State) (f : Found) (flashOk : Bool) : Nat :=
  if !manifestGood f then stVerifyFailed
  else if f.manifest.secVer < s.boot.fuses then stRollbackRefused
  else if !sectionsGood f then stVerifyFailed
  else if !flashOk then stFlashError
  else stDone

/-- The slot header has been written in full: the slot is valid (R157, R473). -/
def State.install (s : State) (f : Found) : State :=
  { s with boot := s.boot.setSlot s.lin.session.slot { valid := true, erased := false, secVer := f.manifest.secVer,
                                                       build := f.manifest.build } }

/-- An install ends: the slot, the log and the session (R157, R461). -/
def State.installEnd (s : State) (f : Found) (st : Nat) : State :=
  let s := if st = stFlashError then s.raise 69 faultPlain else s
  let s := if st = stDone then (s.install f).logUpdate 0x02 st else s.logUpdate 0x03 st
  s.sessionClose

/-- UPDATE_COMMIT ends. -/
def State.commitEnd (f : Found) (flashOk : Bool) (s : State) : State :=
  match (s.fn 0).pocket.longs.find? fun c => c.kind == .updateCommit with
  | none => s
  | some c =>
    let st := s.installStatus f flashOk
    let slot := slotCode s.lin.session.slot
    (s.installEnd f st).finishLong 0 c.token st slot

/-- UPDATE_COMMIT_COMPLETE (R119, R157, R473). -/
def execUpdateCommitComplete (found : Found) (flashOk : Bool) (s : State) := command (State.commitEnd found flashOk) s

/-- UPDATE_CANCEL. -/
def updateCancelBody : Body := fun _ d s =>
  if !s.sessionIs d then .refuse stWrongState
  else if s.sessionBusy then .refuse stBusy
  else .done [] (s.logUpdate 0x04 0).sessionClose

/-- UPDATE_CANCEL (R158). -/
def execUpdateCancel (fn : Nat) (r : Request) (s : State) := request opUpdateCancel updateCancelBody fn r s

/-- Name a slot to boot at the next reset (R408); the record names the path (R461). -/
def State.activate (s : State) (slot : Slot) (pldm : Bool) : State :=
  let s := s.log 0x08 0x06 (leBytes 2 s.lin.session.id.toNat ++ leBytes 1 (slotCode slot) ++ leBytes 1 (b2n pldm))
  { s with boot := { s.boot with next := slot, prev := s.boot.running, pendingBoot := true, attempts := 0 } }

/-- UPDATE_ACTIVATE. -/
def updateActivateBody : Body := fun _ d s =>
  let n := leAt 0 1 d
  let slot := if n = 0 then Slot.a else .b
  if n > 1 then .refuse stBadArgument
  else if s.lin.session.isOpen then .refuse stBusy
  else if !(s.boot.slot slot).valid then .refuse stWrongState
  else .done [] (s.activate slot false)

/-- UPDATE_ACTIVATE (R158, R408). -/
def execUpdateActivate (fn : Nat) (r : Request) (s : State) := request opUpdateActivate updateActivateBody fn r s

/-- UPDATE_STATUS. -/
def updateStatusBody : Body := fun _ _ s =>
  let u := s.lin.session
  let b := s.boot
  .done (leBytes 2 u.id.toNat ++ leBytes 1 (b2n u.isOpen) ++ leBytes 1 (b2n u.pldm) ++
    leBytes 4 (if u.isOpen then u.imageLen else 0) ++ leBytes 4 (if u.isOpen then u.written else 0) ++
    leBytes 1 (slotCode b.running) ++ leBytes 1 (slotCode b.next) ++
    leBytes 1 (maskOf [b.slotA.valid, b.slotB.valid, b.slotR.valid]) ++ leBytes 1 b.attempts ++ zeros 8) s

/-- UPDATE_STATUS (R160). -/
def execUpdateStatus (fn : Nat) (r : Request) (s : State) := request opUpdateStatus updateStatusBody fn r s

/-! ## ABORT (R102) -/

/-- What an aborted long command takes back beyond its own entry: unread image data, the session of a commit. -/
def State.abortEffect (s : State) (c : LongCmd) : State :=
  match c.kind with
  | .updateWrite => { s with waits := s.waits.filter (fun w => w.role != RdRole.image) }
  | .updateCommit => (s.logUpdate 0x03 stAborted).sessionClose
  | _ => s

/-- ABORT. -/
def abortBody : Body := fun fn d s =>
  match (s.fn fn).pocket.longs.find? fun c => c.token.toNat == leAt 0 2 d with
  | none => .refuse stAbortTooLate
  | some c =>
    if c.kind.lateCommit then .done [] ((s.abortEffect c).finishLong fn c.token stAborted (s.abortDetail c))
    else .refuse stAbortTooLate

/-- ABORT (R102, R119). -/
def execAbort (fn : Nat) (r : Request) (s : State) := request opAbort abortBody fn r s

/-! ## The event queue registers (R94, R96, R99) -/

/-- A write of PKT_EVQ_HEAD (R96). -/
def State.evqHead (s : State) (fn : Nat) (v : W32) : State :=
  if !s.regServed fn then s
  else
    let p := (s.fn fn).pocket
    let n := p.ringSize
    let old := p.head.toNat % n
    let new := v.toNat % n
    let moved := (new + n - old) % n
    let used := (p.tail.toNat + n - old) % n
    if moved = 0 then s
    else if moved ≤ used then
      (s.modPocket fn fun p => { p with head := BitVec.ofNat 12 new, headErr := false }).releaseEvents fn
    else s.modPocket fn fun p => { p with headErr := true }

/-- PKT_EVQ_HEAD_WRITE (R96). -/
def execPktEvqHeadWrite (fn : Nat) (v : W32) (s : State) := command (fun s => (s.written fn 4).evqHead fn v) s

/-- A write of PKT_EVQ_SIZE: ENABLE from 0 to 1 starts the ring afresh, LOG2 is fixed while the queue is enabled (R93,
R94). -/
def State.evqSize (s : State) (fn : Nat) (v : W32) : State :=
  if !s.regServed fn then s
  else
    let on := bitAt v.toNat 31
    let vec : BitVec 11 := BitVec.ofNat 11 (bits v.toNat 26 16)
    let s := s.modPocket fn fun p =>
      let p := { p with vector := vec, log2 := if p.enable then p.log2 else BitVec.ofNat 4 (bits v.toNat 3 0) }
      if on && !p.enable then
        { p with enable := true, head := 0, tail := 0, phase := true, headErr := false, evqFault := false }
      else { p with enable := on }
    s.releaseEvents fn

/-- EVQ_ENABLE (R94, R99). -/
def execEvqEnable (fn : Nat) (v : W32) (s : State) := command (fun s => (s.written fn 4).evqSize fn v) s

/-- EVQ_DISABLE (R94, R98). -/
def execEvqDisable (fn : Nat) (v : W32) (s : State) := command (fun s => (s.written fn 4).evqSize fn v) s

/-- HELD_EVENT_WRITE (R99): held entries are written while nothing holds them. -/
def execHeldEventWrite (fn : Nat) (s : State) := command (fun s => s.releaseEvents fn) s

/-! ## Jalid's reload (R79, R105) -/

/-- JALID_RELOAD (R79, R105, R159). -/
def execJalidReload (s : State) := command (fun s => if s.operating && !s.boot.reloading then s.reloadStart else s) s

/-- The new views are readable and the Pockets IDLE, once every long command has its CMD_FINAL entry (R78, R79, R105). -/
def State.reloadEnd (s : State) : State :=
  let open_ := s.fns.any fun p => !p.2.flr && !p.2.pocket.longs.isEmpty
  if s.boot.reloading && !open_ then
    { s with boot := { s.boot with reloading := false }, prov := { s.prov with genAll := s.prov.genAll + 1 } }
  else s

/-- JALID_RELOAD_COMPLETE (R78, R79, R105). -/
def execJalidReloadComplete (s : State) := command State.reloadEnd s

end Sys2Proof.Machine
end

