-- ==== Sys2Proof/Machine/JalidPools.lean ====
section
/-! DEFINITION. Jalid class 0x02: tenant groups, tenants and the spill grant (R63 to R70, R122 to R127). -/
namespace Sys2Proof.Machine

/-! ## Groups (R63, R64, R122) -/

/-- GROUP_CREATE. -/
def groupCreateBody : Body := fun _ d s =>
  let g := leAt 0 1 d
  let floor := leAt 2 2 d
  if g = 0 || (tget s.prov.groups g).isSome then .refuse stBadArgument
  else if floor > 128 then .refuse stBadArgument
  else if floor > s.freeStg then .refuse stNoResource
  else .done [] { s with prov := { s.prov with groups := tput s.prov.groups g floor } }

/-- GROUP_CREATE (R63, R64, R122). -/
def execGroupCreate (fn : Nat) (r : Request) (s : State) := request opGroupCreate groupCreateBody fn r s

/-- A tenant of the group exists, or an outstanding TENANT_CREATE names it (R64). -/
def State.groupBusy (s : State) (g : Nat) : Bool :=
  s.prov.tenants.any (fun p => p.2.group == g) || s.allLongs.any fun c => c.kind == .tenantCreate && leAt 3 1 c.payload == g

/-- GROUP_DESTROY. -/
def groupDestroyBody : Body := fun _ d s =>
  let g := leAt 0 1 d
  if g = 0 || (tget s.prov.groups g).isNone then .refuse stBadArgument
  else if s.groupBusy g then .refuse stBusy
  else .done [] (s.groupGone g)

/-- GROUP_DESTROY (R64, R122). -/
def execGroupDestroy (fn : Nat) (r : Request) (s : State) := request opGroupDestroy groupDestroyBody fn r s

/-! ## TENANT_CREATE (R65, R66, R123) -/

/-- The fields of a TENANT_CREATE request are in range (R65, R66, R123). -/
def State.createOk (s : State) (d : Bytes) : Bool :=
  let vf := leAt 0 2 d
  let qps := leAt 4 2 d
  let vec := leAt 6 2 d
  let ats := leAt 0x0A 2 d
  let sets := leAt 0x0E 2 d
  let allow := leAt 0x10 8 d
  s.prov.vfEnable && decide (1 ≤ vf) && decide (vf ≤ s.prov.numVFs.toNat) && (s.tenant vf).map (·.state) != some .ready &&
    (tget s.prov.groups (leAt 3 1 d)).isSome && decide (1 ≤ qps) && decide (qps ≤ 1024) && decide (1 ≤ vec) &&
    decide (vec ≤ 1024) && decide (leAt 8 1 d ≤ 16) && decide (leAt 9 1 d ≤ 64) && decide (16 ≤ ats) &&
    decide (ats ≤ 4096) && ats % 16 == 0 && decide (leAt 0x0C 2 d ≤ qps) && decide (1 ≤ sets) && decide (sets ≤ 16) &&
    decide ((qps + 63) / 64 ≤ sets) && (allow == 0 || decide (allow + s.el.reserveForce.toNat ≤ s.budget))

/-- TENANT_CREATE. DESIGN CHOICE: a request that names a WIPING VF and has another field out of range gets BAD_ARGUMENT:
R66 gives both statuses, R536 takes this command out of its WIPING rules, and no rule orders the two (log entry 67). -/
def tenantCreateBody : Body := fun _ d s =>
  let vf := leAt 0 2 d
  if !s.createOk d then .refuse stBadArgument
  else if (s.tenant vf).isSome || s.longOn .tenantCreate vf then .refuse stBusy
  else .accept .tenantCreate vf s

/-- TENANT_CREATE (R65, R66, R123). -/
def execTenantCreate (fn : Nat) (r : Request) (s : State) := request opTenantCreate tenantCreateBody fn r s

/-- Every pool can satisfy the allocation (R27, R119, R123). -/
def State.poolsHold (s : State) (d : Bytes) : Bool :=
  let allow := leAt 0x10 8 d
  decide (leAt 4 2 d ≤ s.freeQp) && decide (leAt 6 2 d ≤ s.freeVec) && decide (leAt 8 1 d ≤ s.freeApt) &&
    decide (leAt 9 1 d ≤ s.freeIwin) && decide (leAt 0x0A 2 d ≤ s.freeAts) && decide (leAt 0x0C 2 d ≤ s.freeCtx) &&
    (allow == 0 || decide (allow + s.allowances (some (fnOfVf (leAt 0 2 d))) + s.el.reserve.toNat ≤ s.budget))

/-- An aperture allocated to a function and closed. -/
def Apt.closedFor (fn : Nat) : Apt :=
  { state := .closed, alloc := true, owner := fn, rule := false, vc := 0, readLimit := 0, bar2 := 0, size := 0, node := 0,
    tag := 0, fbase := 0, late := 0, rdca := 0, unack := 0, flushPending := false, flushFailed := 0, flushAt := 0,
    failsOpen := 0, drainFails := 0 }

/-- An inbound window allocated to a function and closed. -/
def Iwin.closedFor (fn : Nat) : Iwin :=
  { state := .closed, alloc := true, owner := fn, rule := false, access := 0, tag := 0, foff := 0, size := 0, iova := 0,
    source := 0, pfd := 0, deny := 0, drainDiscards := 0 }

/-- The allocation is made: the tenant is READY (R65, R67). -/
def State.tenantNew (s : State) (d : Bytes) : State :=
  let vf := leAt 0 2 d
  let fn := fnOfVf vf
  let apts := freeNumbers 256 (leAt 8 1 d) fun n => ((tget s.win.apts n).map (·.alloc)).getD false
  let iwins := freeNumbers 1024 (leAt 9 1 d) fun n => ((tget s.win.iwins n).map (·.alloc)).getD false
  let t : Tenant := { state := .ready, group := leAt 3 1 d, qps := leAt 4 2 d, vectors := leAt 6 2 d, apts := apts,
                      iwins := iwins, ats := leAt 0x0A 2 d, ctx := leAt 0x0C 2 d, qsets := leAt 0x0E 2 d,
                      destroying := false, tdisp := .unlocked, stream := 0xFF, rejects := 0 }
  let allow : W64 := BitVec.ofNat 64 (leAt 0x10 8 d)
  let win := { s.win with apts := apts.foldl (fun t n => tput t n (Apt.closedFor fn)) s.win.apts,
                          iwins := iwins.foldl (fun t n => tput t n (Iwin.closedFor fn)) s.win.iwins }
  let s := { s with prov := { s.prov with tenants := tput s.prov.tenants vf t }, win := win }
  let s := s.modFn fn fun f =>
    { f with allowSet := allow, allowance := allow, exempt := allow == 0, borrowed := 0, consumed := 0, total := 0, paused := false,
             thresholdSent := false, lateCpl := 0, orphanCpl := 0, xltFaults := 0, bytesOut := 0, bytesIn := 0,
             telemMask := 0, telemInterval := 0, telem := [], stitched := [], latSum := 0, latMax := 0, latN := 0 }
  ((s.msixReset fn).xtrim 0).bumpView fn

/-- A TENANT_CREATE of PF0 reaches its commit point and its end (R119). -/
def State.tenantCreateEnd (token : W16) (s : State) : State :=
  match (s.fn 0).pocket.longs.find? fun c => c.token == token && c.kind == .tenantCreate with
  | none => s
  | some c =>
    let d := c.payload
    if s.poolsHold d then
      (s.tenantNew d).finishLong 0 token stDone (c.obj + leAt 8 1 d * 65536 + leAt 9 1 d * 16777216)
    else s.finishLong 0 token stNoResource c.obj

/-- TENANT_CREATE_COMPLETE (R65, R119, R123). -/
def execTenantCreateComplete (token : W16) (s : State) := command (State.tenantCreateEnd token) s

/-! ## TENANT_DESTROY (R67, R68, R124) -/

/-- A destruction is accepted: a READY tenant is wiped as under FLR (R67); one in FLR ends after it. -/
def State.destroyBegin (s : State) (vf : Nat) : State :=
  let ready := (s.tenant vf).map (·.state) == some .ready
  let s := s.modTenant vf fun t => { t with destroying := true }
  if ready then (((s.rotateKey (fnOfVf vf)).wipeAlive (fnOfVf vf)).tdispUnlock vf).setTenState vf .wiping else s

/-- TENANT_DESTROY. -/
def tenantDestroyBody : Body := fun _ d s =>
  let vf := leAt 0 2 d
  if vf = 0 || vf > 1024 then .refuse stBadArgument
  else if s.longOn .tenantDestroy vf || s.longOn .tenantCreate vf || ((s.tenant vf).map (·.destroying)).getD false then
    .refuse stBusy
  else if (s.tenant vf).isNone then .refuse stWrongState
  else .accept .tenantDestroy vf (s.destroyBegin vf)

/-- TENANT_DESTROY (R68, R124). -/
def execTenantDestroy (fn : Nat) (r : Request) (s : State) := request opTenantDestroy tenantDestroyBody fn r s

/-- The wipe of a tenant to be destroyed is done: its allocation returns, it is ABSENT, the command that asked ends
(R67, R68, R69). -/
def State.destroyEnd (vf : Nat) (s : State) : State :=
  match s.tenant vf with
  | none => s
  | some t =>
    if t.destroying && t.state = .wiping && !(s.fn (fnOfVf vf)).flr then
      ((s.tenantGone vf).floorsFree).finishOn .tenantDestroy vf stDone vf
    else s

/-- TENANT_DESTROY_COMPLETE (R67 to R69). -/
def execTenantDestroyComplete (vf : Nat) (s : State) := command (State.destroyEnd vf) s

/-- TENANT_QUERY. -/
def tenantQueryBody : Body := fun _ d s =>
  let vf := leAt 0 2 d
  let list := s.windowList vf
  if vf = 0 || vf > 1024 then .refuse stBadArgument
  else .done (s.allocEntry vf ++ leBytes 2 (list.length / 4) ++ zeros 2 ++ list) s

/-- TENANT_QUERY (R125). -/
def execTenantQuery (fn : Nat) (r : Request) (s : State) := request opTenantQuery tenantQueryBody fn r s

/-! ## The spill grant (R126, R127) -/

/-- SPILL_GRANT. -/
def spillGrantBody : Body := fun _ d s =>
  let base := leAt 0 8 d
  let size := leAt 8 8 d
  let mib2 := 2 ^ 21
  if base % mib2 ≠ 0 then .refuse stBadArgument
  else if size % mib2 ≠ 0 || size < mib2 || size > 2 ^ 36 then .refuse stBadArgument
  else if s.prov.spill then .refuse stWrongState
  else
    .done [] { s with prov := { s.prov with spill := true, spillBase := BitVec.ofNat 64 base,
                                            spillSize := BitVec.ofNat 64 size } }

/-- SPILL_GRANT (R126). -/
def execSpillGrant (fn : Nat) (r : Request) (s : State) := request opSpillGrant spillGrantBody fn r s

/-- SPILL_REVOKE. -/
def spillRevokeBody : Body := fun _ _ s =>
  if s.longAny .spillRevoke then .refuse stBusy
  else if !s.prov.spill then .refuse stWrongState
  else if s.qps.length > 32768 then .refuse stNoResource
  else .accept .spillRevoke 0 s

/-- SPILL_REVOKE (R127). -/
def execSpillRevoke (fn : Nat) (r : Request) (s : State) := request opSpillRevoke spillRevokeBody fn r s

/-- Every spilled context has moved on-die and the region is left (R119, R127); while PF0 may issue no request the contexts
cannot be read and the command waits (R103). -/
def State.revokeEnd (s : State) : State :=
  if s.longAny .spillRevoke && s.prov.spill && !s.spillOpen && s.qps.any (fun x => x.2.record.isSome) then s
  else if s.longAny .spillRevoke && s.prov.spill then
    let gone := tkeys (tkeep s.qps fun _ p => p.record.isSome)
    let n := (s.qps.filter fun x => s.qpAway x.1 x.2 || x.2.serviceLoaded).length
    ((gone.foldl State.promoteNow s).spillWithdraw).finishOn .spillRevoke 0 stDone n
  else if s.longAny .spillRevoke then s.finishOn .spillRevoke 0 stDone 0
  else s

/-- SPILL_REVOKE_COMPLETE (R127). -/
def execSpillRevokeComplete (s : State) := command State.revokeEnd s

end Sys2Proof.Machine
end

