-- ==== Sys2Proof/Machine/JalidQueues.lean ====
section
/-! DEFINITION. Jalid class 0x03: queue sets and QPs (R72, R128 to R133, R187, R352). -/
namespace Sys2Proof.Machine

/-! ## Queue sets (R128, R129, R191) -/

/-- The fields that QSET_CREATE and QSET_MODIFY share are in range (R128). -/
def State.qsetOk (s : State) (fn : Nat) (d : Bytes) : Bool :=
  decide (leAt 0 1 d < s.qsetLimit fn) && decide (leAt 2 2 d < s.vectorCount fn) && decide (leAt 4 2 d ≤ 1024) &&
    decide (leAt 16 8 d ≤ (s.fn fn).allowSet.toNat)

/-- Replace the fields of a queue set that a request carries; the bucket, brought up to date, as R191 says. -/
def QSet.load (x : QSet) (now : Nat) (d : Bytes) : QSet :=
  let rate := leAt 8 4 d
  let depth := 1000 * bucketDepth rate
  let bucket := if rate = 0 then 0 else if x.rate = 0 then depth else min (x.filled now).bucket depth
  { x with vector := BitVec.ofNat 16 (leAt 2 2 d), modCount := BitVec.ofNat 16 (leAt 4 2 d),
           modTime := BitVec.ofNat 16 (leAt 6 2 d), rate := BitVec.ofNat 32 rate,
           subAllowance := BitVec.ofNat 64 (leAt 16 8 d), bucket := bucket, fillAt := now }

/-- A queue set with nothing in it. -/
def QSet.blank : QSet :=
  { vector := 0, modCount := 0, modTime := 0, rate := 0, subAllowance := 0, unannounced := 0,
    lastSt := none, bucket := 0, fillAt := 0, paused := false, charged := 0, thresholdSent := false, hintRes := 0, hintSlv := 0, hintLat := 0xFF, hintNuma := 0xFFFF }

/-- Hold queue set q of a function. -/
def State.putQset (s : State) (fn q : Nat) (x : QSet) : State := s.modFn fn fun f => { f with qsets := tput f.qsets q x }

/-- QSET_CREATE. -/
def qsetCreateBody : Body := fun fn d s =>
  let q := leAt 0 1 d
  if !s.qsetOk fn d then .refuse stBadArgument
  else if (tget (s.fn fn).qsets q).isSome then .refuse stWrongState
  else .done [] (s.putQset fn q (QSet.blank.load s.clk.localCount d))

/-- QSET_CREATE (R128). -/
def execQsetCreate (fn : Nat) (r : Request) (s : State) := request opQsetCreate qsetCreateBody fn r s

/-- QSET_MODIFY. -/
def qsetModifyBody : Body := fun fn d s =>
  let q := leAt 0 1 d
  if !s.qsetOk fn d then .refuse stBadArgument
  else
    match tget (s.fn fn).qsets q with
    | none => .refuse stWrongState
    | some x => .done [] ((s.putQset fn q (x.load s.clk.localCount d)).kickFn fn)

/-- QSET_MODIFY (R128). -/
def execQsetModify (fn : Nat) (r : Request) (s : State) := request opQsetModify qsetModifyBody fn r s

/-- A queue set ends: records not announced are announced by one message first (R129). -/
def State.qsetGone (s : State) (fn q : Nat) : State :=
  let due := ((tget (s.fn fn).qsets q).map fun x => x.unannounced != 0).getD false
  let s := if due then s.announceDue fn q else s
  s.modFn fn fun f => { f with qsets := tdel f.qsets q }

/-- QSET_DESTROY. -/
def qsetDestroyBody : Body := fun fn d s =>
  let q := leAt 0 1 d
  if q ≥ s.qsetLimit fn || (tget (s.fn fn).qsets q).isNone then .refuse stBadArgument
  else if s.qps.any fun x => x.2.fn == fn && x.2.qset == q then .refuse stBusy
  else .done [] (s.qsetGone fn q)

/-- QSET_DESTROY (R129). -/
def execQsetDestroy (fn : Nat) (r : Request) (s : State) := request opQsetDestroy qsetDestroyBody fn r s

/-! ## QP_CREATE (R28, R130, R352) -/

/-- State code of R130. -/
def qpCode : QpState → Nat
  | .stopped => 0
  | .active => 1
  | .error => 2
  | .draining => 3

/-- The fields of QP_CREATE are in range and its position is free (R72, R130). -/
def State.qpCreateOk (s : State) (fn : Nat) (d : Bytes) : Bool :=
  let idx := leAt 0 2 d
  let flags := leAt 4 4 d
  let sq := leAt 0x18 1 d
  let cq := leAt 0x19 1 d
  decide (idx < 1024) && (tget (s.fn fn).qsets (idx / 64)).isSome && (s.qpAt fn idx).isNone &&
    bits flags 7 3 == 0 && flags / 2048 == 0 && leAt 8 8 d % 4096 == 0 && leAt 16 8 d % 4096 == 0 &&
    decide (6 ≤ sq) && decide (sq ≤ 16) && decide (sq ≤ cq) && decide (cq ≤ 16)

/-- The QP may exist beside the others (R28, R65, R72, R127, R352, R432). -/
def State.qpFits (s : State) (fn : Nat) : Bool :=
  let mine := (s.qpsOf fn).length
  let total := s.qps.length
  let allowed :=
    if fn = 0 then decide (s.freeQp > 0)
    else
      match s.tenant (vfOf fn) with
      | none => false
      | some t => decide (mine < t.qps) && (t.tdisp == .unlocked || decide (mine < t.ctx))
  let top := if !s.prov.spill || s.longAny .spillRevoke then 32768 else min 65536 (32768 + s.spillCapacity)
  allowed && decide (total < top) && s.slotToBe fn

/-- The engine of a new QP: of the active ones in ENGINE_MASK the one with the fewest QPs, the lowest first (R347, R361;
the spec names the balance and not the first choice: log entry 26). -/
def State.pickEngine (s : State) : Nat :=
  let count (e : Nat) : Nat := (s.qps.filter fun x => x.2.engine == e).length
  let able := (List.range 16).filter fun e => bitAt s.plc.engineMask.toNat e && bitAt s.plc.engActive.toNat e
  (able.foldl (fun (b : Option (Nat × Nat)) e =>
    match b with
    | none => some (e, count e)
    | some x => if count e < x.2 then some (e, count e) else b) none).elim 0 (·.1)

/-- The new QP: STOPPED, counters 0 (R130, R187). -/
def newQp (fn : Nat) (d : Bytes) (engine : Nat) : Qp :=
  let flags := leAt 4 4 d
  { fn := fn, idx := leAt 0 2 d, ats := bitAt flags 0, nsOk := bitAt flags 1, tph := bitAt flags 2,
    vc := BitVec.ofNat 3 (bits flags 10 8), sqBase := BitVec.ofNat 64 (leAt 8 8 d),
    cqBase := BitVec.ofNat 64 (leAt 16 8 d), sqLog2 := leAt 0x18 1 d, cqLog2 := leAt 0x19 1 d, state := .stopped,
    held := false, mgrStop := false, cause := 0, prod := 0, cons := 0, cqProd := 0, cqCons := 0, phase := true, rings := [],
    fetching := 0, life := 0, descs := [], lateWrites := 0, fenceFails := 0, drainFails := 0, residence := .onDie, engine := engine,
    made := 0, st := 0xFFFF, hintRes := 0, hintSlv := 0, hintLat := 0xFF, hintNuma := 0xFFFF, rate := 0, sample := 0, unitsEp := 0,
    bytesEp := 0, load := 0, epDescs := 0,
    epBytes := 0, meanBytes := 0, loading := false, keptCq := none,
    lastFlow := none, sendFlows := [], record := none, keptDoorbell := none, serviceLoaded := false }

/-- Place of a new QP in the order of creation. -/
def State.nextMade (s : State) : Nat := s.qps.foldl (fun n x => max n x.2.made) 0 + 1

/-- The QP takes the smallest free global number (R72: the Y7 chooses; log entry 26) and a slot (R352). -/
def State.qpNew (s : State) (fn : Nat) (d : Bytes) : Nat × State :=
  let s := if s.slotFree fn then s else ((s.victim fn).map s.demoteNow).getD s
  let q := smallestFree (tkeys s.qps)
  (q, ({ s with qps := tput s.qps q { newQp fn d s.pickEngine with made := s.nextMade } }).resteer q)

/-- QP_CREATE. -/
def qpCreateBody : Body := fun fn d s =>
  if !s.qpCreateOk fn d then .refuse stBadArgument
  else if !s.qpFits fn then .refuse stNoResource
  else
    let x := s.qpNew fn d
    .done (leBytes 2 x.1 ++ [0] ++ zeros 5) x.2

/-- QP_CREATE (R130). -/
def execQpCreate (fn : Nat) (r : Request) (s : State) := request opQpCreate qpCreateBody fn r s

/-! ## QP_MODIFY (R131, R187, R189) -/

/-- A QP stopped or started by the manager writes QP_STATE with its state (R189). -/
def State.mgrEvent (s : State) (q : Nat) (mgr : Bool) : State :=
  match s.qp q with
  | none => s
  | some p => if mgr then s.qpStateEvent p.fn q (qpCode p.state) 0 else s

/-- START of a STOPPED QP that is not held (R131). -/
def State.qpStart (s : State) (q : Nat) (mgr : Bool) : State :=
  let s := s.modQp q fun p => if s.busBlocked p.fn then { p with held := true, mgrStop := false }
                              else { p with state := .active, mgrStop := false }
  (s.startUnits q).mgrEvent q mgr

/-- STOP of an ACTIVE or held QP (R131). -/
def State.qpStop (s : State) (q : Nat) (mgr : Bool) : State :=
  (s.modQp q fun p => { p with state := .stopped, held := false, mgrStop := p.mgrStop || mgr }).mgrEvent q mgr

/-- What an action makes of a QP; none for WRONG_STATE. -/
def State.qpAct (s : State) (q : Nat) (p : Qp) (action : Nat) (mgr : Bool) : Option State :=
  match action, p.state with
  | 1, .stopped => if p.held || (p.mgrStop && !mgr) then none else some (s.qpStart q mgr)
  | 2, .active => some (s.qpStop q mgr)
  | 2, .stopped => if p.held then some (s.qpStop q mgr) else none
  | 3, .error => some (s.recoverQp q)
  | _, _ => none

/-- QP_MODIFY: TARGET, QP_INDEX and ACTION in payload order, then the QP's state. -/
def qpModifyBody : Body := fun fn d s =>
  let t := leAt 0 2 d
  let action := leAt 4 1 d
  match s.target fn t with
  | .error st => .refuse st
  | .ok owner =>
    match s.qpAt owner (leAt 2 2 d) with
    | none => .refuse stBadArgument
    | some (q, p) =>
      if action = 0 || action > 3 then .refuse stBadArgument
      else if action = 3 && owner ≠ fn then .refuse stNotPermitted
      else if p.state = .draining then .refuse stBusy
      else
        match s.qpAct q p action (owner ≠ fn) with
        | none => .refuse stWrongState
        | some s' => .done (leBytes 1 (((s'.qp q).map fun x => qpCode x.state).getD 0) ++ zeros 7) s'

/-- QP_MODIFY_START (R131): the request's ACTION says which action it is. -/
def execQpModifyStart (fn : Nat) (r : Request) (s : State) := request opQpModify qpModifyBody fn r s

/-- QP_MODIFY_STOP (R131). -/
def execQpModifyStop (fn : Nat) (r : Request) (s : State) := request opQpModify qpModifyBody fn r s

/-- QP_MODIFY_RECOVER (R131). -/
def execQpModifyRecover (fn : Nat) (r : Request) (s : State) := request opQpModify qpModifyBody fn r s

/-! ## QP_DESTROY (R132) -/

/-- The QP drains: nothing more is fetched, units not committed and requests not sent are dropped, a migration is
abandoned (R132, R360). -/
def State.qpDrain (s : State) (q : Nat) : State :=
  match s.qp q with
  | none => s
  | some p =>
    let s := s.dropMove q
    let s := s.modQp q fun p => { p with state := .draining, held := false, cause := 0, drainFails := 0 }
    let s := { s with waits := s.waits.filter (fun w => !(w.obj == q && (w.role == RdRole.descriptor || w.role == RdRole.payload))) }
    s.dropDescWork q (p.descs.map Desc.sqi)

/-- QP_DESTROY. DESIGN CHOICE: a TARGET other than 0 from PF0 gets BAD_ARGUMENT: R132 names no status for it (log entry
68). -/
def qpDestroyBody : Body := fun fn d s =>
  let t := leAt 0 2 d
  if t ≠ 0 then .refuse (if isVf fn then stNotPermitted else stBadArgument)
  else
    match s.qpAt fn (leAt 2 2 d) with
    | none => .refuse stBadArgument
    | some (q, p) => if p.state = .draining then .refuse stBusy else .accept .qpDestroy q (s.qpDrain q)

/-- QP_DESTROY (R132). -/
def execQpDestroy (fn : Nat) (r : Request) (s : State) := request opQpDestroy qpDestroyBody fn r s

/-- Nothing of a draining QP is staged or unacknowledged, and no reset marker of it waits to be emitted (R132, R179). -/
def State.qpDrained (s : State) (q : Nat) : Bool :=
  !(s.units.any fun u => u.2.owner.qp? == some q) &&
    !(s.tp.tx.any fun f => f.2.unacked.any (fun t => t.owner.qp? == some q && t.pkt.kind != 0x08) || (f.2.kept ++ f.2.queue).any (fun t => t.owner.qp? == some q))

/-- A QP's drain has ended: its context is wiped, its number free (R119, R132). -/
def State.qpDestroyEnd (q : Nat) (s : State) : State :=
  match s.qp q with
  | none => s
  | some p =>
    if p.state = .draining && s.qpDrained q then
      (s.wipeQp q).finishOn .qpDestroy q stDone (q + p.drainFails.toNat * 65536)
    else s

/-- QP_DESTROY_COMPLETE (R132). -/
def execQpDestroyComplete (qp : Nat) (s : State) := command (State.qpDestroyEnd qp) s

/-! ## QP_QUERY (R133) -/

/-- SLEEVE of a QP: that of the flow of its last fetched transfer; 2 for none. -/
def State.qpSleeve (s : State) (p : Qp) : Nat :=
  match p.lastFlow.bind fun f => tget s.tp.tx (flowKey f.1 f.2) with
  | none => 2
  | some f => if f.live then f.sleeve.num else 2

/-- RESIDENCE code. -/
def resCode : Residence → Nat
  | .onDie => 0
  | .spilled => 1
  | .migrating => 2

/-- The 32 B answer of QP_QUERY. -/
def State.qpAnswer (s : State) (q : Nat) (p : Qp) : Bytes :=
  leBytes 2 q ++ leBytes 1 (qpCode p.state) ++ [p.cause] ++ leBytes 2 p.prod.toNat ++ leBytes 2 p.cons.toNat ++
    leBytes 2 p.cqProd.toNat ++ leBytes 1 (b2n p.mgrStop) ++ [0] ++ leBytes 1 (resCode p.residence) ++
    leBytes 1 p.engine ++ leBytes 1 (s.qpSleeve p) ++ [0] ++ leBytes 2 ((s.qpTph p).getD 0xFFFF).toNat ++ zeros 6 ++
    leBytes 4 p.lateWrites.toNat ++ zeros 4

/-- QP_QUERY. -/
def qpQueryBody : Body := fun fn d s =>
  match s.target fn (leAt 0 2 d) with
  | .error st => .refuse st
  | .ok owner =>
    match s.qpAt owner (leAt 2 2 d) with
    | none => .refuse stBadArgument
    | some (q, p) => .done (s.qpAnswer q p) s

/-- QP_QUERY (R133). -/
def execQpQuery (fn : Nat) (r : Request) (s : State) := request opQpQuery qpQueryBody fn r s

end Sys2Proof.Machine
end

