-- ==== Sys2Proof/Machine/Queues.lean ====
section
/-! DEFINITION. The queue engines' commands: doorbells (R167 to R169, R351), descriptor fetch (R165, R537), the six
opcodes (R175 to R183), the moderation holdoff (R190) and the token bucket (R191). -/
namespace Sys2Proof.Machine

/-! ## Doorbells (R61, R167, R168) -/

/-- The QP that a doorbell write reaches; none where R168 discards it whatever its kind. -/
def State.bellQp (s : State) (fn slot : Nat) (d : Doorbell) : Option (Nat × Qp) :=
  let i := d.qpIndex.toNat
  if !s.regServed fn || !s.fnReady fn || d.rsvHi ≠ 0 || d.rsvLo ≠ 0 || slot ≠ (if isVf fn then i % 64 else i) then none
  else (s.qpAt fn i).filter fun x => x.2.state != .draining

/-- Count a doorbell: an 8 B write to the function (R489). -/
def State.bellSeen (s : State) (fn : Nat) : State := if s.link.state = .down then s else (s.written fn 8).occFn 0x0104 1 fn

/-- A doorbell or packet for a spilled QP asks for its record, unless it has been asked for (R351, R357). -/
def State.serviceLoad (s : State) (q : Nat) : State :=
  match s.qp q with
  | none => s
  | some p =>
    match p.record with
    | none => s
    | some r =>
      if p.loading || s.plc.retry.contains q || !s.spillOpen then s
      else
        let s := { s with plc := { s.plc with spillLoad := s.plc.spillLoad + 1 } }
        (s.occFn 0x0803 1 p.fn).spillRead q r

/-- A doorbell ends the quiescence that a demotion under way needs (R359). -/
def State.undemote (s : State) (q : Nat) : State :=
  if s.plc.moves.any fun m => m.1 == q && m.2.1 == .demote then s.dropMove q else s

/-- An SQ doorbell (R168, R351). -/
def State.sqBell (fn slot : Nat) (d : Doorbell) (s : State) : State :=
  let s := s.bellSeen fn
  match s.bellQp fn slot d with
  | none => s
  | some (q, p) =>
    if s.qpAway q p then (s.modQp q fun p => { p with keptDoorbell := some d.index }).serviceLoad q
    else (s.undemote q).ringSq q d.index

/-- SQ_DOORBELL (R168). -/
def execSqDoorbell (fn slot : Nat) (d : Doorbell) (s : State) := command (State.sqBell fn slot d) s

/-- A CQ doorbell (R164, R168, R351). -/
def State.cqBell (fn slot : Nat) (d : Doorbell) (s : State) : State :=
  let s := s.bellSeen fn
  match s.bellQp fn slot d with
  | none => s
  | some (q, p) =>
    if s.qpAway q p then (s.modQp q fun p => { p with keptCq := some d.index }).serviceLoad q
    else s.ringCq q d.index

/-- CQ_DOORBELL (R168). -/
def execCqDoorbell (fn slot : Nat) (d : Doorbell) (s : State) := command (State.cqBell fn slot d) s

/-! ## Descriptors -/

/-- DESCRIPTOR_FETCH (R165, R537). -/
def execDescriptorFetch (qp : Nat) (s : State) := command (fun s => s.fetch qp) s

/-- The descriptor moves data from this end. -/
def Desc.moves (d : Desc) : Bool := d.opcode == 0x01 || d.opcode == 0x02 || d.opcode == 0x03

/-- The fetched descriptor that a QP may begin: of an opcode, not begun, its QP ACTIVE, and every earlier one of the same
side (data movers, or RECVs) begun before it. -/
def State.toBegin (s : State) (q : Nat) (sqi : W16) (op : Byte) : Option Desc :=
  match s.qp q with
  | none => none
  | some p =>
    let peer (d : Desc) : Bool := if op = 0x04 then d.opcode == 0x04 else d.moves
    let before := p.descs.takeWhile fun d => d.sqi != sqi
    let due := !(before.any fun d => peer d && !d.started && d.status.isNone) || op == 0x05 || op == 0x06
    match p.desc? sqi with
    | none => none
    | some d => if p.state == .active && d.opcode == op && !d.started && d.status.isNone && due then some d else none

/-- Begin a descriptor. -/
def State.begin_ (op : Byte) (q : Nat) (sqi : W16) (s : State) : State :=
  match s.toBegin q sqi op with
  | none => s
  | some d => (s.modDesc q d.sqi fun d => { d with started := true }).startUnits q

/-- PUT (R175, R183, R184): its units' host reads are issued in unit order. -/
def execPut (qp : Nat) (sqi : W16) (s : State) := command (State.begin_ 0x01 qp sqi) s

/-- GET (R176, R183): one read request packet per unit. -/
def execGet (qp : Nat) (sqi : W16) (s : State) := command (fun s => s.begin_ 0x02 qp sqi) s

/-- SEND (R177, R183): its units are staged for the destination QP. -/
def execSendD (qp : Nat) (sqi : W16) (s : State) := command (fun s => s.begin_ 0x03 qp sqi) s

/-- RECV (R178): its buffer is posted. -/
def execRecv (qp : Nat) (sqi : W16) (s : State) := command (fun s => s.begin_ 0x04 qp sqi) s

/-- FENCE (R181): fetching has stopped behind it. -/
def execFence (qp : Nat) (sqi : W16) (s : State) := command (fun s => s.begin_ 0x05 qp sqi) s

/-- NOTE (R182). -/
def execNote (qp : Nat) (sqi : W16) (s : State) := command (fun s => s.begin_ 0x06 qp sqi) s

/-- Some PUT or SEND unit of the QP is neither acknowledged nor failed: staged, emitted, or to be emitted. -/
def State.writesPending (s : State) (q : Nat) : Bool :=
  let mine (o : Owner) : Bool :=
    match o with
    | .unit q' _ _ => q' == q
    | _ => false
  s.units.any (fun u => mine u.2.owner && !u.2.hostBound) ||
    s.tp.tx.any fun f => f.2.unacked.any (fun t => mine t.owner) || f.2.queue.any fun t => mine t.owner

/-- A FENCE completes (R181), also while its QP is STOPPED or held: SUCCESS, or WRITES_FAILED with the count. -/
def State.fenceEnd (q : Nat) (sqi : W16) (s : State) : State :=
  match s.qp q with
  | none => s
  | some p =>
    let before := p.descs.takeWhile fun d => d.sqi != sqi
    match p.desc? sqi with
    | none => s
    | some d =>
      if d.opcode = 0x05 && d.started && d.status.isNone && (p.state = .active || p.state = .stopped) && before.all (·.status.isSome) &&
          !s.writesPending q then
        let n := p.fenceFails
        let st := if n = 0 then csSuccess else csWritesFailed
        let s := s.modDesc q sqi fun d => { d with status := some st, data := BitVec.ofNat 64 n.toNat }
        (s.modQp q fun p => { p with fenceFails := 0 }).advance q
      else s

/-- FENCE_COMPLETE (R181). -/
def execFenceComplete (qp : Nat) (sqi : W16) (s : State) := command (State.fenceEnd qp sqi) s

/-- A NOTE's record has become the next to be written, whether its QP runs or is STOPPED (R182). -/
def State.noteEnd (q : Nat) (sqi : W16) (s : State) : State :=
  match s.qp q with
  | none => s
  | some p =>
    match p.descs with
    | [] => s
    | d :: _ =>
      if d.sqi = sqi && d.opcode = 0x06 && d.started && d.status.isNone && (p.state = .active || p.state = .stopped) then
        (s.modDesc q sqi fun d => { d with status := some csSuccess, data := s.clk.timebase }).advance q
      else s

/-- NOTE_COMPLETE (R182). -/
def execNoteComplete (qp : Nat) (sqi : W16) (s : State) := command (State.noteEnd qp sqi) s

/-! ## Moderation and rate (R190, R191) -/

/-- MOD_TIME has passed since the oldest record of a set not yet announced. -/
def State.holdoff (fn q : Nat) (s : State) : State :=
  match tget (s.fn fn).qsets q with
  | none => s
  | some x => if x.modTime ≠ 0 && x.unannounced ≠ 0 then s.announceDue fn q else s

/-- MODERATION_HOLDOFF (R190). -/
def execModerationHoldoff (fn qset : Nat) (s : State) := command (State.holdoff fn qset) s

/-- The bucket of a set is brought up to date, and the units that it now holds enough for start (R191). -/
def State.refill (fn q : Nat) (s : State) : State :=
  let s := s.modQset fn q (·.filled s.clk.localCount)
  (s.qpsOfSet fn q).foldl State.startUnits s

/-- TOKEN_BUCKET_REFILL (R191). -/
def execTokenBucketRefill (fn qset : Nat) (s : State) := command (State.refill fn qset) s

end Sys2Proof.Machine
end

