-- ==== Sys2Proof/Machine/Pleat.lean ====
section
/-! DEFINITION. Transfer units on their way out, and the pleat commands: commit and emission (R21, R184, R256), pleats,
grants, lapses and starvation (R255 to R266). -/
namespace Sys2Proof.Machine

/-! ## Commit (R21, R184, R210) -/

/-- Units of this kind commit in the order of their QP, aperture or window flow. -/
def XUnit.ordered (u : XUnit) : Bool :=
  match u.kind with
  | .put | .sendMsg | .aptWrite | .inWrite => true
  | _ => false

/-- The last byte of a unit has landed: it commits; an inbound write or message may be acknowledged (R313), but for one whose
receive state has gone (R308, R309). -/
def State.commitUnit (n : Nat) (s : State) : State :=
  match tget s.units n with
  | none => s
  | some u =>
    let behind := u.ordered && s.units.any fun x => decide (x.1 < n) && x.2.source == u.source && x.2.ordered && !x.2.committed
    if u.committed || u.landed < u.len || !u.xlated || u.grantUnits ≠ 0 || behind then s
    else
      let s := s.modUnit n fun u => { u with committed := true, commitNo := s.stamp }
      let s := { s with stamp := s.stamp + 1 }
      match u.kind, u.pkt with
      | .inWrite, some p | .recvData, some p => if u.cutOff then s else s.committedRx p
      | _, _ => s

/-- UNIT_COMMIT (R21, R184, R210). -/
def execUnitCommit (u : Nat) (s : State) := command (State.commitUnit u) s

/-! ## Emission (R175, R176, R256) -/

/-- A host-bound unit in the transmit queue may be emitted. -/
def State.hostReady (s : State) (u : XUnit) : Bool := u.committed && !s.busBlocked u.fn

/-- A fabric-bound unit in the transmit queue may be emitted. -/
def State.fabricReady (s : State) (n : Nat) (u : XUnit) : Bool :=
  match tget s.tp.tx u.flow, u.pkt with
  | some f, some p =>
    u.committed && s.slvReady f.sleeve (packetFlits p.len) &&
      (if u.resend then (f.unacked.find? (·.again)).bind (·.xunit) == some n
       else f.admits (windowUnits p.len) && s.keptTurn f (some n) && !s.requestBefore n u)
  | _, _ => false

/-- The unit may be emitted. -/
def State.unitReady (s : State) (n : Nat) (u : XUnit) : Bool :=
  u.granted.isSome && (if u.hostBound then s.hostReady u else s.fabricReady n u)

/-- No unit of the same transmit queue committed before it (R256). -/
def State.firstOut (s : State) (n : Nat) (u : XUnit) : Bool :=
  let q := (s.arb (s.unitArb u)).queue
  q.contains n && !(q.any fun m =>
    match tget s.units m with
    | none => false
    | some v => v.committed && decide (v.commitNo < u.commitNo))

/-- A second crossing of the Seam crossbar is charged: the packet leaves by another Sleeve than its slice's (R20, R372). -/
def State.crossAgain (s : State) (u : XUnit) : State :=
  if s.unitArb u = u.slice then s else s.charge u.fn 0x14 u.len

/-- The packet of a unit as its flow kept it across a RETIRE, where it did (R309). -/
def State.keptOf (s : State) (n k : Nat) : Option TxPkt :=
  (tget s.tp.tx k).bind fun f => f.kept.find? fun t => t.xunit == some n

/-- A fabric-bound unit leaves as one packet; a PUT without ACKED has then completed it (R175, R207, R299). One kept across a
RETIRE leaves again in the new incarnation (R309). -/
def State.emitFabric (s : State) (n : Nat) (u : XUnit) (p : Packet) : State :=
  let k := u.flow
  let s := s.crossAgain u
  if u.resend then
    match (tget s.tp.tx k).bind fun f => (f.unacked.find? (·.again)).map fun t => (f, t) with
    | none => s
    | some (f, t) =>
      let s := (s.ungrant n).modUnit n fun u => { u with resend := false }
      (s.emitAgain k f.sleeve t).pumpFlow k
  else
    let new : TxPkt := { seq := 0, pkt := { p with payload := u.data ++ p.payload }, units := windowUnits p.len, sentAt := 0,
                         firstAt := s.clk.localCount, xunit := some n, owner := u.owner, fn := u.fn, resent := false,
                         again := false, sampled := false, order := n }
    let kept := s.keptOf n k
    let t : TxPkt := match kept with
      | some t => { t with resent := false, again := false, sampled := false }
      | none => new
    let s := (s.ungrant n).modUnit n fun u => { u with emitted := true }
    let s := if kept.isSome then s.modFlow k (·.keptDone t.order) else s
    let s := s.emitNew k t
    let s := match u.owner with
      | .unit q i no => if u.kind == UnitKind.put && !u.acked && kept.isNone then s.unitDone q i no else s
      | .aptWrite a => s.modApt a fun x => { x with unack := x.unack + 1 }
      | _ => s
    s.pumpFlow k

/-- A unit's last flit or TLP has gone. -/
def State.emitUnit (n : Nat) (s : State) : State :=
  match tget s.units n with
  | none => s
  | some u =>
    if !s.unitReady n u || !s.firstOut n u then s
    else if u.hostBound then s.emitHost n u
    else
      match u.pkt with
      | none => s
      | some p => s.emitFabric n u p

/-- UNIT_EMITTED (R21, R175, R176, R256). -/
def execUnitEmitted (u : Nat) (s : State) := command (State.emitUnit u) s

/-! ## Pleats (R255 to R263) -/

/-- All three arbiters. -/
def allArbs : List Arb := [.host, .sla, .slb]

/-- The pleat that the local count names: 12.8 ns each (R255). -/
def State.pleatNow (s : State) : Nat := s.clk.localCount * 10 / 128

/-- The next pleat begins and is pending at every arbiter; an owner with a requester triggers (R255, R257, R263). -/
def State.pleatNext (s : State) : State :=
  let p := s.plt.current + 1
  let s := { s with plt := { s.plt with current := p } }
  let s := allArbs.foldl (fun s a => s.modArb a fun x => { x with pendings := x.pendings ++ [p] }) s
  allArbs.foldl State.pleatTrigger s

/-- Pleats begin one after the other. -/
def State.pleatsN : Nat → State → State
  | 0, s => s
  | n + 1, s => State.pleatsN n s.pleatNext

/-- Every pleat up to p begins, where the local count has reached it (R255). -/
def State.pleatStart (p : Nat) (s : State) : State :=
  if p > s.pleatNow then s else State.pleatsN (p - s.plt.current) s

/-- PLEAT_BEGIN (R255, R257, R263). -/
def execPleatBegin (pleat : Nat) (s : State) := command (State.pleatStart pleat) s

/-- A pending pleat has been overtaken by 4 further ones (R257). -/
def State.pleatLapse (a : Arb) (s : State) : State :=
  match (s.arb a).pendings with
  | p :: r =>
    if p + 4 ≤ s.plt.current then
      (s.modArb a fun x => { x with pendings := r, lapsed := x.lapsed + 1 }).occ (0x0603 + 4 * a.num) 1 none none
    else s
  | [] => s

/-- PLEAT_LAPSED (R257). -/
def execPleatLapsed (arb : Arb) (s : State) := command (State.pleatLapse arb) s

/-- GRANT_OPPORTUNITY (R256, R262). -/
def execGrantOpportunity (arb : Arb) (s : State) := command (fun s => s.grantOne arb) s

/-- A requester has waited beyond PLT_STARVE_LIMIT, which counts once for it; the first one sets STARVED, which is source 519
(R266, R441). -/
def State.starve (a : Arb) (n : Nat) (s : State) : State :=
  match tget s.units n with
  | none => s
  | some u =>
    if !s.requests a n u || u.starved || s.clk.localCount ≤ u.arrived + 1000 * s.plt.starveLimit.toNat then s
    else
      let first := !(s.arb a).starved
      let s := (s.modUnit n fun u => { u with starved := true }).modArb a fun x =>
        { x with starved := true, lastGroup := BitVec.ofNat 8 u.group, starveCnt := satInc x.starveCnt }
      if first then
        (s.event 0 (s.mkEvent 0x06 0 0x00 (a.num + u.group * 256 + u.fn * 65536))).raise 519 (faultAt a.num)
      else s

/-- STARVATION (R266). -/
def execStarvation (arb : Arb) (u : Nat) (s : State) := command (State.starve arb u) s

end Sys2Proof.Machine
end

