-- ==== Sys2Proof/Machine/JalidWindows.lean ====
section
/-! DEFINITION. Jalid class 0x04: outbound apertures and inbound windows (R134 to R137, R200, R206, R212). -/
namespace Sys2Proof.Machine

/-! ## Names -/

/-- The function may name aperture n: a VF its own, PF0 any that is not a tenant's (R112). -/
def State.aptNamed (s : State) (fn n : Nat) : Bool :=
  if isVf fn then ((s.tenant (vfOf fn)).map fun t => t.apts.contains n).getD false
  else decide (n < 256) && ((tget s.win.apts n).map fun x => !x.alloc || x.owner == 0).getD true

/-- The function may name inbound window n. -/
def State.iwinNamed (s : State) (fn n : Nat) : Bool :=
  if isVf fn then ((s.tenant (vfOf fn)).map fun t => t.iwins.contains n).getD false
  else decide (n < 1024) && ((tget s.win.iwins n).map fun x => !x.alloc || x.owner == 0).getD true

/-- State of aperture n. -/
def State.aptState (s : State) (n : Nat) : WinState := ((tget s.win.apts n).map (·.state)).getD .closed

/-- State of inbound window n. -/
def State.iwinState (s : State) (n : Nat) : WinState := ((tget s.win.iwins n).map (·.state)).getD .closed

/-- WIN_APT_CFG.STATE code. -/
def winCode : WinState → Nat
  | .closed => 0
  | .opened => 1
  | .closing => 2

/-! ## Apertures (R134, R136, R206) -/

/-- The fields of APT_OPEN are in range (R134, R200). -/
def State.aptOpenOk (s : State) (fn : Nat) (d : Bytes) : Bool :=
  let limit := leAt 4 1 d
  let off := leAt 8 8 d
  let size := leAt 16 8 d
  let node := leAt 24 4 d
  let clash := s.win.apts.any fun p =>
    p.2.owner == fn && p.2.state == .opened && p.1 != leAt 0 2 d && overlap p.2.bar2 p.2.size off size
  s.aptNamed fn (leAt 0 2 d) && decide (leAt 2 1 d ≤ 1) && decide (leAt 3 1 d ≤ 7) &&
    (limit == 0 || (decide (2 ≤ limit) && decide (limit ≤ 40))) && off % 65536 == 0 && size % 65536 == 0 &&
    decide (0 < size) && decide (off + size ≤ s.ctlPage fn) && !clash && decide (node < 2 ^ 20) && node != s.tp.node &&
    leAt 32 8 d % 4096 == 0

/-- The open aperture that a request describes. -/
def aptOf (fn : Nat) (d : Bytes) : Apt :=
  { Apt.closedFor fn with
    state := .opened, rule := leAt 2 1 d = 1, vc := BitVec.ofNat 3 (leAt 3 1 d), readLimit := leAt 4 1 d,
    bar2 := leAt 8 8 d, size := leAt 16 8 d, node := leAt 24 4 d, tag := BitVec.ofNat 32 (leAt 28 4 d),
    fbase := leAt 32 8 d }

/-- APT_OPEN. -/
def aptOpenBody : Body := fun fn d s =>
  let n := leAt 0 2 d
  if !s.aptOpenOk fn d then .refuse stBadArgument
  else if s.longOn .aptClose n then .refuse stBusy
  else if s.aptState n ≠ .closed then .refuse stWrongState
  else .done [] { s with win := { s.win with apts := tput s.win.apts n (aptOf fn d) } }

/-- APT_OPEN (R134). -/
def execAptOpen (fn : Nat) (r : Request) (s : State) := request opAptOpen aptOpenBody fn r s

/-- APT_CLOSE. -/
def aptCloseBody : Body := fun fn d s =>
  let n := leAt 0 2 d
  if !s.aptNamed fn n then .refuse stBadArgument
  else if s.longOn .aptClose n then .refuse stBusy
  else if s.aptState n ≠ .opened then .refuse stWrongState
  else .accept .aptClose n (s.modApt n Apt.closing)

/-- APT_CLOSE (R136, R206). -/
def execAptClose (fn : Nat) (r : Request) (s : State) := request opAptClose aptCloseBody fn r s

/-- A closing aperture whose writes have all ended closes; PF0's number returns to the pool. A close by a new BAR2 size
writes no event (R119, R136, R206). -/
def State.aptCloseEnd (n : Nat) (s : State) : State :=
  match tget s.win.apts n with
  | none => s
  | some x =>
    if x.state = .closing && !s.aptCovered n s.nextUnit then
      let s := s.modApt n fun x => { x with state := .closed, readLimit := 0, alloc := x.alloc && x.owner != 0 }
      s.finishOn .aptClose n stDone (n + x.drainFails.toNat * 65536)
    else s

/-- APT_CLOSE_COMPLETE (R136, R206). -/
def execAptCloseComplete (n : Nat) (s : State) := command (State.aptCloseEnd n) s

/-! ## Inbound windows (R135, R136, R212) -/

/-- The fields of IWIN_OPEN are in range (R135). -/
def State.iwinOpenOk (s : State) (fn : Nat) (d : Bytes) : Bool :=
  let access := leAt 3 1 d
  let off := leAt 8 8 d
  let size := leAt 16 8 d
  let clash := s.win.iwins.any fun p =>
    p.2.state == .opened && p.1 != leAt 0 2 d && overlap p.2.foff p.2.size off size
  s.iwinNamed fn (leAt 0 2 d) && decide (leAt 2 1 d ≤ 1) && decide (1 ≤ access) && decide (access ≤ 7) &&
    off % 4096 == 0 && size % 4096 == 0 && decide (0 < size) && !clash && leAt 24 8 d % 4096 == 0 &&
    decide (leAt 32 4 d < 2 ^ 20)

/-- The open window that a request describes. -/
def iwinOf (fn : Nat) (d : Bytes) : Iwin :=
  { Iwin.closedFor fn with
    state := .opened, rule := leAt 2 1 d = 1, access := BitVec.ofNat 3 (leAt 3 1 d), tag := BitVec.ofNat 32 (leAt 4 4 d),
    foff := leAt 8 8 d, size := leAt 16 8 d, iova := leAt 24 8 d, source := leAt 32 4 d }

/-- IWIN_OPEN. -/
def iwinOpenBody : Body := fun fn d s =>
  let n := leAt 0 2 d
  if !s.iwinOpenOk fn d then .refuse stBadArgument
  else if s.longOn .iwinClose n then .refuse stBusy
  else if s.iwinState n ≠ .closed then .refuse stWrongState
  else .done [] { s with win := { s.win with iwins := tput s.win.iwins n (iwinOf fn d) } }

/-- IWIN_OPEN (R135). -/
def execIwinOpen (fn : Nat) (r : Request) (s : State) := request opIwinOpen iwinOpenBody fn r s

/-- The window accepts no new request; its prefetched bytes go (R136, R219). -/
def State.iwinShut (s : State) (n : Nat) : State :=
  (s.modIwin n fun x => { x with state := .closing, drainDiscards := 0 }).dropPrefetch fun p => p.win == n

/-- IWIN_CLOSE. -/
def iwinCloseBody : Body := fun fn d s =>
  let n := leAt 0 2 d
  if !s.iwinNamed fn n then .refuse stBadArgument
  else if s.longOn .iwinClose n then .refuse stBusy
  else if s.iwinState n ≠ .opened then .refuse stWrongState
  else .accept .iwinClose n (s.iwinShut n)

/-- IWIN_CLOSE (R136, R212). -/
def execIwinClose (fn : Nat) (r : Request) (s : State) := request opIwinClose iwinCloseBody fn r s

/-- A closing window whose slots are all free closes (R119, R136). -/
def State.iwinCloseEnd (n : Nat) (s : State) : State :=
  match tget s.win.iwins n with
  | none => s
  | some x =>
    if x.state = .closing && !(s.win.slots.any fun d => d.2.win == n) then
      let s := s.modIwin n fun x => { x with state := .closed, alloc := x.alloc && x.owner != 0 }
      let s := { s with win := { s.win with lastEnd := s.win.lastEnd.filter (fun e => e.1 != n) } }
      s.finishOn .iwinClose n stDone (n + x.drainDiscards.toNat * 65536)
    else s

/-- IWIN_CLOSE_COMPLETE (R136). -/
def execIwinCloseComplete (n : Nat) (s : State) := command (State.iwinCloseEnd n) s

/-! ## WIN_QUERY (R137) -/

/-- The open request of an aperture. -/
def Apt.request (n : Nat) (x : Apt) : Bytes :=
  leBytes 2 n ++ leBytes 1 (b2n x.rule) ++ leBytes 1 x.vc.toNat ++ leBytes 1 x.readLimit ++ zeros 3 ++ leBytes 8 x.bar2 ++
    leBytes 8 x.size ++ leBytes 4 x.node ++ leBytes 4 x.tag.toNat ++ leBytes 8 x.fbase

/-- The open request of a window. -/
def Iwin.request (n : Nat) (x : Iwin) : Bytes :=
  leBytes 2 n ++ leBytes 1 (b2n x.rule) ++ leBytes 1 x.access.toNat ++ leBytes 4 x.tag.toNat ++ leBytes 8 x.foff ++
    leBytes 8 x.size ++ leBytes 8 x.iova ++ leBytes 4 x.source ++ zeros 4

/-- The 64 B answer: a closed object shows its STATE and zeros. -/
def State.winAnswer (s : State) (kind n : Nat) : Bytes :=
  if kind = 0 then
    match tget s.win.apts n with
    | none => zeros 64
    | some x =>
      if x.state = .closed then zeros 64
      else leBytes 1 (winCode x.state) ++ zeros 7 ++ x.request n ++ zeros 8 ++ leBytes 4 x.late.toNat ++ zeros 4
  else
    match tget s.win.iwins n with
    | none => zeros 64
    | some x =>
      if x.state = .closed then zeros 64
      else leBytes 1 (winCode x.state) ++ zeros 7 ++ x.request n ++ leBytes 8 x.pfd.toNat ++ zeros 8

/-- WIN_QUERY: PF0 may query any number. -/
def winQueryBody : Body := fun fn d s =>
  let kind := leAt 0 1 d
  let n := leAt 2 2 d
  let named := if kind = 0 then (if fn = 0 then decide (n < 256) else s.aptNamed fn n)
    else if fn = 0 then decide (n < 1024) else s.iwinNamed fn n
  if kind > 1 || !named then .refuse stBadArgument else .done (s.winAnswer kind n) s

/-- WIN_QUERY (R137). -/
def execWinQuery (fn : Nat) (r : Request) (s : State) := request opWinQuery winQueryBody fn r s

end Sys2Proof.Machine
end

