-- ==== Sys2Proof/Machine/Stitch.lean ====
section
/-! DEFINITION. The Stitch engine (R222 to R230) and Jalid class 0x05 (R138 to R140): the map, its checks, the exact
arithmetic, status frames, output frames, sensors that go stale, and the telemetry records. -/
namespace Sys2Proof.Machine

/-! ## Entries (R223) -/

/-- Read an entry from its 32 B. -/
def parseStitch (b : Bytes) : Stitch :=
  { kind := BitVec.ofNat 8 (leAt 0 1 b), flags := BitVec.ofNat 8 (leAt 1 1 b), frame := BitVec.ofNat 16 (leAt 2 2 b),
    node := leAt 4 4 b, srcBit := leAt 8 2 b, srcWidth := leAt 10 1 b, shift := leAt 11 1 b,
    mul := BitVec.ofNat 32 (leAt 12 4 b), add := BitVec.ofNat 64 (leAt 16 8 b), dst := leAt 24 2 b,
    dstBit := leAt 26 2 b, dstWidth := leAt 28 1 b, uom := BitVec.ofNat 8 (leAt 29 1 b),
    modifier := BitVec.ofNat 8 (leAt 30 1 b), lastIn := 0, lastOut := 0, updates := 0, fresh := false, body := 0 }

/-- The 32 B of an entry. -/
def Stitch.bytes (e : Stitch) : Bytes :=
  [e.kind, e.flags] ++ leBytes 2 e.frame.toNat ++ leBytes 4 e.node ++ leBytes 2 e.srcBit ++ leBytes 1 e.srcWidth ++
    leBytes 1 e.shift ++ leBytes 4 e.mul.toNat ++ leBytes 8 e.add.toNat ++ leBytes 2 e.dst ++ leBytes 2 e.dstBit ++
    leBytes 1 e.dstWidth ++ [e.uom, e.modifier, 0]

/-- The input fields of KIND 0x01 to 0x03, or of KIND 0x04, are well formed (R223, R225). -/
def Stitch.inputOk (e : Stitch) : Bool :=
  decide (1 ≤ e.srcWidth) && decide (e.srcWidth ≤ 64) && decide (e.shift ≤ 31) && decide (e.node < 2 ^ 20) &&
    (!e.srcLe || (e.srcBit % 8 == 0 && e.srcWidth % 8 == 0))

/-- The bits of a repack or control entry lie inside the output frame it names. -/
def frameHolds (m : Table Stitch) (e : Stitch) : Bool :=
  match tget m e.dst with
  | none => false
  | some o => o.kind == 5 && decide (1 ≤ e.dstWidth) && decide (e.dstWidth ≤ 64) && decide (e.dstBit + e.dstWidth ≤ 8 * o.len)

/-- The rules of R226 on valid entry n of a map, at a bridge with this node. -/
def stitchOk (m : Table Stitch) (node n : Nat) (e : Stitch) : Bool :=
  let plain := e.uom == 0 && e.modifier == 0
  match e.kind.toNat with
  | 1 =>
    e.inputOk && e.flags.toNat < 4 && decide (0x1000 ≤ e.dst) && decide (e.dst ≤ 0x1FFF) && decide (e.dstWidth ≤ 5) &&
      e.dstBit == 0 && !(m.any fun p => p.1 != n && p.2.kind == 1 && p.2.dst == e.dst)
  | 2 => e.inputOk && e.flags.toNat < 4 && plain && decide (e.dst ≤ 1024) && decide (e.dstBit ≤ 111) && e.dstWidth == 0
  | 3 => e.inputOk && e.flags.toNat < 8 && plain && frameHolds m e
  | 4 => e.inputOk && e.flags.toNat < 8 && plain && frameHolds m e && e.frame == 0 && e.node == 0 && e.srcBit == 0
  | 5 =>
    e.flags == 0 && plain && decide (1 ≤ e.len) && decide (e.len ≤ 220) && decide (e.srcWidth ≤ 7) && e.shift == 0 &&
      (e.mul == 0 || (decide (10 ≤ e.mul.toNat) && decide (e.mul.toNat ≤ 1000000))) && e.add == 0 && e.dst == 0 &&
      e.dstBit == 0 && e.dstWidth == 0 && e.node != node && decide (e.node < 2 ^ 20)
  | _ => false

/-- Every valid entry of a map keeps the rules. -/
def mapOk (m : Table Stitch) (node : Nat) : Bool := m.all fun p => stitchOk m node p.1 p.2

/-! ## Bodies of output frames (R227) -/

/-- After a change of the map the bits that no entry writes are 0; the others hold the last value packed. -/
def rebuild (m : Table Stitch) : Table Stitch :=
  let clear := tmap m fun _ e => if e.kind = 5 then { e with body := 0 } else e
  (m.filter fun p => (p.2.kind == 3 || p.2.kind == 4) && p.2.updates != 0).foldl (fun m p => packInto m p.2) clear

/-! ## Loading (R138, R139) -/

/-- The entries of a STITCH_LOAD payload, from entry number n on. -/
def loadEntries : Nat → Nat → Bytes → Table Stitch → Table Stitch
  | 0, _, _, m => m
  | k + 1, n, b, m =>
    let e := parseStitch (slice 0 32 b)
    loadEntries k (n + 1) (b.drop 32) (if e.kind = 0 then tdel m n else tput m n e)

/-- The reserved byte of every entry is 0, and an invalid entry is 0 throughout (R223). -/
def entriesClean : Nat → Bytes → Bool
  | 0, _ => true
  | k + 1, b => leAt 31 1 b == 0 && (leAt 0 1 b != 0 || leNat (slice 0 32 b) == 0) && entriesClean k (b.drop 32)

/-- STITCH_LOAD. -/
def stitchLoadBody : Body := fun _ d s =>
  let count := leAt 2 2 d
  let m := loadEntries count (leAt 0 2 d) (d.drop 8) s.sti.map
  if !entriesClean count (d.drop 8) || !mapOk m s.tp.node then .refuse stBadArgument
  else .done [] { s with sti := { s.sti with map := rebuild m } }

/-- STITCH_LOAD (R138, R226). -/
def execStitchLoad (fn : Nat) (r : Request) (s : State) := request opStitchLoad stitchLoadBody fn r s

/-- STITCH_CLEAR. -/
def stitchClearBody : Body := fun _ d s =>
  let first := leAt 0 2 d
  let count := leAt 2 2 d
  let m := tkeep s.sti.map fun n _ => decide (n < first) || decide (n ≥ first + count)
  if count = 0 || count > 4096 || first + count > 4096 || !mapOk m s.tp.node then .refuse stBadArgument
  else .done [] { s with sti := { s.sti with map := rebuild m } }

/-- STITCH_CLEAR (R139, R226). -/
def execStitchClear (fn : Nat) (r : Request) (s : State) := request opStitchClear stitchClearBody fn r s

/-! ## Control values and queries (R139, R140) -/

/-- STITCH_SET. -/
def stitchSetBody : Body := fun _ d s =>
  let n := leAt 0 2 d
  if n ≥ 4096 then .refuse stBadArgument
  else
    match tget s.sti.map n with
    | none => .refuse stWrongState
    | some e => if e.kind = 4 then .done [] (s.stitchApply n e (e.raw (leAt 8 8 d))) else .refuse stWrongState

/-- STITCH_SET (R139, R224). -/
def execStitchSet (fn : Nat) (r : Request) (s : State) := request opStitchSet stitchSetBody fn r s

/-- STITCH_QUERY. -/
def stitchQueryBody : Body := fun _ d s =>
  let n := leAt 0 2 d
  if n ≥ 4096 then .refuse stBadArgument
  else
    match tget s.sti.map n with
    | none => .done (zeros 56) s
    | some e =>
      .done (e.bytes ++ leBytes 8 e.lastIn.toNat ++ leBytes 8 e.lastOut.toNat ++ leBytes 4 e.updates.toNat ++ zeros 4) s

/-- STITCH_QUERY (R140). -/
def execStitchQuery (fn : Nat) (r : Request) (s : State) := request opStitchQuery stitchQueryBody fn r s

/-! ## Output frames (R227, R341) -/

/-- Send an output frame: on Sleeve A, on B when A is down, else over the Belt. It takes no window and no sequence (R303). -/
def State.outputFrame (n : Nat) (s : State) : State :=
  match tget s.sti.map n with
  | none => s
  | some e => if e.kind ≠ 5 || !s.operating then s else (s.frameDue e).framesOut

/-- STITCH_OUTPUT_FRAME (R227, R341). -/
def execStitchOutputFrame (e : Nat) (s : State) := command (State.outputFrame e) s

/-! ## Sensors (R228) -/

/-- STALE_MS has passed without an update of a sensor. -/
def State.staleSensor (n : Nat) (s : State) : State :=
  { s with sti := { s.sti with map := tmod s.sti.map n fun e => if e.kind = 1 then { e with fresh := false } else e } }

/-- SENSOR_STALE (R228). -/
def execSensorStale (e : Nat) (s : State) := command (State.staleSensor e) s

/-! ## Telemetry records (R148, R229) -/

/-- TELEM_CONFIG. -/
def telemConfigBody : Body := fun fn d s =>
  let mask := leAt 0 4 d
  let iv := leAt 4 4 d
  if mask ≥ 16 || iv < 100 || iv > 1000000 || iv % 100 ≠ 0 then .refuse stBadArgument
  else
    .done [] (s.modFn fn fun f =>
      { f with telemMask := BitVec.ofNat 32 mask, telemInterval := BitVec.ofNat 32 iv,
               telem := tkeep f.telem fun k _ => if k < 16 then bitAt mask k else bitAt mask 3 })

/-- TELEM_CONFIG (R148, R229). -/
def execTelemConfig (fn : Nat) (r : Request) (s : State) := request opTelemConfig telemConfigBody fn r s

/-- One refresh of a record: SEQ counts it, TIME is now. -/
def Fn.refresh (f : Fn) (k : Nat) (now v0 v1 : W64) : Fn :=
  let n := match tget f.telem k with
    | some r => r.seq + 1
    | none => 1
  { f with telem := tput f.telem k { seq := n, time := now, v0 := v0, v1 := v1 } }

/-- The refresh of a function's records at the end of an INTERVAL. Records 0 to 2 are TRAFFIC, LATENCY and ENERGY; 16 + s
is STITCH slot s. The latency samples start again. -/
def State.telemetry (fn : Nat) (s : State) : State :=
  let f := s.fn fn
  let now := s.clk.timebase
  if !s.operating || !s.fnReady fn || f.flr || f.telemInterval = 0 then s
  else
    let m := f.telemMask.toNat
    let f := if bitAt m 0 then f.refresh 0 now f.bytesOut f.bytesIn else f
    let mean := if f.latN = 0 then 0 else f.latSum / f.latN
    let f := if bitAt m 1 then f.refresh 1 now (BitVec.ofNat 64 mean) (BitVec.ofNat 64 f.latMax) else f
    let f := if bitAt m 2 then f.refresh 2 now (BitVec.ofNat 64 f.used) (BitVec.ofNat 64 (f.total / fJ)) else f
    let f := if bitAt m 3 then f.stitched.foldl (fun f (x : Nat × W64 × W64) => f.refresh (16 + x.1) now x.2.1 x.2.2) f else f
    s.setFn fn { f with latSum := 0, latMax := 0, latN := 0 }

/-- TELEMETRY_REFRESH (R148, R229). -/
def execTelemetryRefresh (fn : Nat) (s : State) := command (State.telemetry fn) s

end Sys2Proof.Machine
end

