-- ==== Sys2Proof/Machine/InPacket.lean ====
section
/-! DEFINITION. Packets that arrive on a Sleeve (R302 to R315): the checks, acceptance in sequence, and what each kind does
on delivery: inbound writes and reads (R208 to R211), delayed reads (R216 to R219), responses (R204, R313), messages (R178,
R179, R314, R421) and status frames (R224). -/
namespace Sys2Proof

/-! ## Fields of a received packet (R303) -/

/-- Destination QP of a SEND. -/
def Packet.sendTo (p : Packet) : Nat := bits p.offset.toNat 63 48

/-- FIRST. -/
def Packet.first (p : Packet) : Bool := bitAt p.flags.toNat 6

/-- LAST. -/
def Packet.last (p : Packet) : Bool := bitAt p.flags.toNat 5

/-- HANDLE of a COLLECT. -/
def Packet.handle (p : Packet) : Nat := bits p.offset.toNat 63 48

/-- The packet's flow. -/
def Packet.rxFlow (p : Packet) : Nat := Machine.flowKey p.src p.vc.toNat

/-- Data bytes of a SEND packet, without the IMMEDIATE of the last one (R303). -/
def Packet.sendData (p : Packet) : Bytes := if p.last then p.payload.take (p.len - 8) else p.payload

/-- The answer to a packet waits for its commit (R313). -/
def Packet.waits (p : Packet) : Bool := p.kind == 0x01 || p.kind == 0x07 || p.kind == 0x08

end Sys2Proof

namespace Sys2Proof.Machine

/-! ## The header (R302 to R304) -/

/-- LENGTH ranges by kind (R303). -/
def packetLenOk (p : Packet) : Bool :=
  match p.kind.toNat with
  | 0x01 => decide (1 ≤ p.len) && decide (p.len ≤ 4096)
  | 0x02 => p.len == 4
  | 0x03 | 0x06 => decide (p.len ≤ 4096)
  | 0x04 | 0x05 | 0x08 => p.len == 0
  | 0x07 => decide (1 ≤ p.len) && decide (p.len ≤ 4104)
  | 0x09 => decide (5 ≤ p.len) && decide (p.len ≤ 224)
  | _ => false

/-- The reserved parts of TAG, OFFSET, SEQ, FLAGS and STATUS are 0 in a kind. -/
def packetFieldsOk (p : Packet) : Bool :=
  let o := p.offset.toNat
  let plain := p.flags.toNat / 32 % 4 == 0
  let quiet := p.status == 0
  match p.kind.toNat with
  | 0x01 | 0x02 | 0x05 => plain && quiet
  | 0x03 => plain && p.tag.toNat / 2 ^ 24 == 0
  | 0x04 => plain && p.tag.toNat / 2 ^ 24 == 0 && bits o 47 32 == 0
  | 0x06 => plain && p.tag == 0
  | 0x07 => quiet && (if bitAt p.flags.toNat 6 then bits o 31 30 == 0 else bits o 31 18 == 0)
  | 0x08 => plain && quiet && bits o 63 48 == 0 && bits o 31 0 == 0
  | 0x09 => plain && quiet && p.tag == 0 && p.offset == 0 && p.seq == 0
  | _ => false

/-- The packet passes R304 at a node. -/
def packetOk (p : Packet) (node : Nat) : Bool :=
  packetLenOk p && p.payload.length == p.len && packetFieldsOk p && p.flags.toNat % 32 == 0 &&
    p.rsv == 0 && p.vc.toNat / 8 == 0 && decide (p.src < 2 ^ 20) && p.dst == node

/-! ## Answers -/

/-- An accepted packet leaves grant space at once (R310). -/
def State.drainPkt (s : State) (p : Packet) : State := s.drain p.src p.vc.toNat (windowUnits p.len)

/-- Stage a unit in grant space, land its bytes, and move it into its group's share while that has room (R310). -/
def State.landIn (s : State) (u : XUnit) (units : Nat) (d : Bytes) : State :=
  let n := s.nextUnit
  ((s.addUnit { u with grantUnits := units }).landBytes n 0 d).moveIn u.slice u.group

/-! ## Inbound writes (R208, R210) -/

/-- Steering tag of inbound writes: the owner's event queue vector (R253). -/
def State.inTph (s : State) (fn : Nat) : Option W16 := s.tphTag fn (s.evqVector fn) (tget s.plc.numa 0) false

/-- An accepted inbound write is staged for the host port; on the ATS path it waits for a translation that permits it. -/
def State.stageInWrite (s : State) (w : Nat) (x : Iwin) (p : Packet) : State :=
  let off := p.offset.toNat
  let s := s.dropPrefetch fun f => f.win == w && overlap f.off f.len off p.len
  let n := s.nextUnit
  let host := x.iova + (off - x.foff)
  let u := { blankUnit .inWrite x.owner (s.groupOf x.owner) .host p.len with
             obj := w, addr := host, pkt := some p, ats := true, st := s.inTph x.owner, xlated := !s.atsOn x.owner,
             rule := x.rule }
  let s := s.landIn u (windowUnits p.len) p.payload
  if s.atsOn x.owner then
    let wt : Wait := { fn := x.owner, role := .translation, obj := w, addr := host, len := p.len, xunit := n, off := 0,
                       ats := true, asked := false }
    { s with waits := s.waits ++ [wt] }
  else s

/-- A WRITE is delivered (R208, R210). -/
def State.takeWrite (s : State) (p : Packet) : State :=
  match s.iwinAt p.offset.toNat with
  | none => ((s.inDenied none).drainPkt p).refuse p 0x01
  | some (w, x) =>
    let st := s.inStatus x p p.offset.toNat p.len true
    if st ≠ 0 then ((s.inDenied (some w)).drainPkt p).refuse p st else s.stageInWrite w x p

/-! ## Inbound reads (R211, R216) -/

/-- The host reads of runs: offset within the access, host address, length (R37, R214). -/
def hostReads (runs : List (Nat × Nat × Nat)) (limit : Nat) : List (Nat × Nat × Nat) :=
  (runs.map fun r => (pieces r.2.1 r.2.2 limit).map fun q => (r.1 + q.1, r.2.1 + q.1, q.2)).flatten

/-- What is staged of a range that COLLECTs take later: the bytes before its first one, and the bytes in all. Under the
data-invariant rule the element depends on the COLLECT, so whole 8 B elements are staged (R214; log entry 18). -/
def rawSpan (rule : Bool) (off len : Nat) : Nat × Nat := if rule then (off % 8, (off % 8 + len + 7) / 8 * 8) else (0, len)

/-- Queue the host reads of a range of a window for a role. -/
def State.askHost (s : State) (role : RdRole) (fn obj xunit base : Nat) (rs : List (Nat × Nat × Nat)) : State :=
  { s with waits := s.waits ++ rs.map fun r =>
      ({ fn := fn, role := role, obj := obj, addr := r.2.1, len := r.2.2, xunit := xunit, off := base + r.1, ats := true,
         asked := false } : Wait) }

/-- An immediate read: its response is staged in the slice of the Sleeve it came on (R211). -/
def State.readNow (s : State) (sl : Sleeve) (w : Nat) (x : Iwin) (p : Packet) (len : Nat) : State :=
  let off := p.offset.toNat
  let host := x.iova + (off - x.foff)
  let vc := p.vc.toNat
  let s := (s.dropPrefetch fun f => f.win == w && f.node == p.src).ensureFlow p.src vc none x.owner
  let n := s.nextUnit
  let u := { blankUnit .readRsp x.owner (s.groupOf x.owner) sl.arb len with
             obj := w, addr := host, pkt := some (mkPacket 0x03 p.src vc len p.seq.toNat off), grantUnits := 1,
             rule := x.rule }
  let s := (s.addUnit u).moveIn sl.arb u.group
  s.askHost .inbound x.owner n n 0 (hostReads (laneRuns x.rule host len) (s.mrrs x.owner))

/-- The prefetched bytes with which a delayed read begins (R219). -/
def State.prefetched (s : State) (w node off : Nat) : Option Prefetch :=
  s.win.prefetch.find? fun f => f.win == w && f.node == node && f.off == off && f.landed == f.data.length

/-- A delayed read finds a slot and staging (R216). -/
def State.slotRoom (s : State) (sl : Sleeve) (w : Nat) (x : Iwin) (len : Nat) : Bool :=
  decide (s.win.slots.length < 512) && decide ((s.win.slots.filter fun d => d.2.win == w).length < 32) &&
    s.shareRoom sl.arb (s.groupOf x.owner) len

/-- End of the previous delayed read of a node in a window. -/
def State.lastEndOf (s : State) (w node : Nat) : Option Nat :=
  (s.win.lastEnd.find? fun e => e.1 == w && e.2.1 == node).map (·.2.2)

/-- A delayed read takes a slot and asks for what the prefetched bytes do not give it (R216, R219). -/
def State.takeSlot (s : State) (sl : Sleeve) (w : Nat) (x : Iwin) (p : Packet) (len : Nat) (pre : Option Prefetch) : State :=
  let off := p.offset.toNat
  let h := smallestFree (tkeys s.win.slots)
  let have_ := (pre.map (·.data)).getD []
  let (lead, total) := rawSpan x.rule off len
  let d : DrSlot := { win := w, node := p.src, vc := p.vc.toNat, sl := sl, seq := p.seq, off := off, len := len, lead := lead,
                      landed := have_.length, ready := false, data := have_ ++ zeros (total - have_.length),
                      collected := [], sequential := s.lastEndOf w p.src == some off, order := s.nextUnit }
  let ends := (s.win.lastEnd.filter fun e => !(e.1 == w && e.2.1 == p.src)) ++ [(w, p.src, off + len)]
  let s := { s with win := { s.win with slots := tput s.win.slots h d, lastEnd := ends }, nextUnit := s.nextUnit + 1 }
  let rest := (have_.length, x.iova + (off - x.foff) - lead + have_.length, total - have_.length)
  s.askHost .delayed x.owner h d.order 0 (hostReads [rest] (s.mrrs x.owner))

/-- A delayed read (R216, R219). -/
def State.readLater (s : State) (sl : Sleeve) (w : Nat) (x : Iwin) (p : Packet) (len : Nat) : State :=
  let off := p.offset.toNat
  let pre := s.prefetched w p.src off
  if s.slotRoom sl w x len then
    let s := match pre with
      | some _ => { s with win := { s.win with prefetch := s.win.prefetch.filter fun f => !(f.win == w && f.node == p.src) } }
      | none => s.dropPrefetch fun f => f.win == w && f.node == p.src
    s.takeSlot sl w x p len pre
  else
    let s := if pre.isSome then s else s.dropPrefetch fun f => f.win == w && f.node == p.src
    s.sendPkt (rspNone p.src p.vc.toNat p.seq p.offset 0x06) .other x.owner

/-- A READ is delivered (R208, R211, R216, R313). -/
def State.takeRead (s : State) (sl : Sleeve) (p : Packet) : State :=
  let len := beNat (p.payload.take 4)
  let deny (s : State) (fn st : Nat) : State := s.sendPkt (rspNone p.src p.vc.toNat p.seq p.offset st) .other fn
  match s.iwinAt p.offset.toNat with
  | none => deny (s.inDenied none) 0 0x01
  | some (w, x) =>
    let st := s.inStatus x p p.offset.toNat len false
    if st ≠ 0 then deny (s.inDenied (some w)) x.owner st
    else if len ≤ 4096 then s.readNow sl w x p len
    else s.readLater sl w x p len

/-! ## Collects (R216, R217) -/

/-- Every byte below n has been collected. The first argument bounds the search. -/
def coversN : Nat → List (Nat × Nat) → Nat → Nat → Bool
  | 0, _, at_, n => decide (n ≤ at_)
  | k + 1, l, at_, n =>
    if n ≤ at_ then true
    else
      match l.find? fun r => decide (r.1 ≤ at_) && decide (at_ < r.1 + r.2) with
      | some r => coversN k l (r.1 + r.2) n
      | none => false

/-- The fabric's bytes of a COLLECT, by the byte lanes of its own payload (R214). -/
def DrSlot.collect (d : DrSlot) (rule : Bool) (off len : Nat) : Bytes :=
  ((laneRuns rule (d.off + off) len).map fun r => laneData rule (slice (r.2.1 + d.lead - d.off) r.2.2 d.data)).flatten

/-- Send the data of a COLLECT: at most 64 B at once, more as a unit that requests at its arbiter (R258, R259). -/
def State.sendCollect (s : State) (h : Nat) (d : DrSlot) (fn : Nat) (rule : Bool) (off len : Nat) : State :=
  let data := d.collect rule off len
  let p := mkPacket 0x06 d.node d.vc len 0 (h <<< 48 ||| off <<< 16 ||| len)
  if len ≤ 64 then s.sendPkt { p with payload := data } .other fn
  else
    let s := s.ensureFlow d.node d.vc none fn
    let u := { blankUnit .collectRsp fn (s.groupOf fn) d.sl.arb len with
               obj := d.win, unitNo := h, pkt := some p, data := data, landed := len }
    let n := s.nextUnit
    (s.addUnit u).arriveUnit n

/-- A COLLECT is delivered. -/
def State.takeCollect (s : State) (p : Packet) : State :=
  let h := p.handle
  let off := bits p.offset.toNat 47 16
  let len := bits p.offset.toNat 15 0
  let answer (s : State) (fn st : Nat) : State := s.sendPkt (collectNone p.src p.vc.toNat p.offset st) .other fn
  match tget s.win.slots h with
  | none => answer s 0 0x07
  | some d =>
    match tget s.win.iwins d.win with
    | none => answer s 0 0x07
    | some x =>
      if !d.ready || d.node ≠ p.src || off + len > d.len then answer s x.owner 0x07
      else
        let st := s.inStatus x p (d.off + off) len false
        let st := if len > 4096 && (st = 0 || st = 0x05) then 0x08 else st
        if st ≠ 0 then answer (s.inDenied (some d.win)) x.owner st
        else
          let s := s.sendCollect h d x.owner x.rule off len
          let got := d.collected ++ [(off, len)]
          if coversN (got.length + 1) got 0 d.len then s.freeSlot h
          else { s with win := { s.win with slots := tput s.win.slots h { d with collected := got } } }

/-! ## Responses (R176, R202, R204, R313) -/

/-- The packet of a request of ours that a response answers gives its delay sample (R325). -/
def State.sampleAnswer (s : State) (k : Nat) (seq : BitVec 24) : State :=
  match ((tget s.tp.tx k).map (·.unacked)).bind fun l => l.find? (·.seq == seq) with
  | none => s
  | some t => (s.ccSample k t).modUnacked k seq fun t => { t with sampled := true }

/-- Offset of unit no within a descriptor's buffer. -/
def Desc.unitAt (d : Desc) (no : Nat) : Nat := ((d.units.take no).map (·.1)).foldl (· + ·) 0

/-- Stage data of the fabric for a QP's buffer; cut tells that the receive state of its packet has gone. -/
def State.stageQp (s : State) (kind : UnitKind) (q : Nat) (qp : Qp) (d : Desc) (no off : Nat) (o : Owner) (p : Packet)
    (cut : Bool) (data : Bytes) : State :=
  let u := { blankUnit kind qp.fn (s.groupOf qp.fn) .host data.length with
             obj := q, sqi := d.sqi, unitNo := no, addr := d.iova + off, pkt := some p, owner := o, ats := qp.ats,
             noSnoop := s.asksNs qp d, st := s.qpTph (qp.steered d), cutOff := cut }
  (s.modDesc q d.sqi fun d => { d with steer := some (d.steer.getD qp.st) }).landIn u (windowUnits p.len) data

/-- Response of a GET unit: data for its buffer, or its status (R176, R209). -/
def State.takeGetRsp (s : State) (a : Await) (q : Nat) (i : W16) (no : Nat) (p : Packet) : State :=
  match (s.qp q).bind fun x => (x.desc? i).map fun d => (x, d) with
  | none => (s.drainPkt p).tpLate
  | some (x, d) =>
    if d.status.isSome then (s.drainPkt p).tpLate
    else if p.status ≠ 0 then (s.drainPkt p).qpError q (some i) (csOfInbound p.status.toNat)
    else s.stageQp .getData q x d no (d.unitAt no) a.owner p false (fit a.len p.payload)

/-- Response of a piece of an aperture read. -/
def State.takeAptRsp (s : State) (a : Await) (id piece : Nat) (p : Packet) : State :=
  let s := s.drainPkt p
  match tget s.win.reads id with
  | none => s.tpLate
  | some r =>
    if p.status ≠ 0 then s.aptReadAbort id
    else
      let data := fit a.len p.payload
      let r := { r with pieces := lmod r.pieces piece fun x => (x.1, x.2.1, some data) }
      (({ s with win := { s.win with reads := tput s.win.reads id r } }).charge r.fn 0x14 data.length).aptReadDone id r

/-- A READ_RSP is delivered: matched to the request that awaits it, or late. -/
def State.takeReadRsp (s : State) (p : Packet) : State :=
  let seq := BitVec.ofNat 24 p.tag.toNat
  match s.tp.awaits.find? fun a => a.node == p.src && a.vc == p.vc.toNat && a.seq == seq with
  | none => (s.drainPkt p).tpLate
  | some a =>
    let s := { s with tp := { s.tp with awaits := s.tp.awaits.erase a } }
    let s := s.sampleAnswer p.rxFlow seq
    match a.owner with
    | .get q i no => s.takeGetRsp a q i no p
    | .aptRead id piece => s.takeAptRsp a id piece p
    | _ => (s.drainPkt p).tpLate

/-! ## Messages (R178, R179, R314, R421) -/

/-- The function has an open inbound window with WRITE access that admits the packet's tag and source (R421). -/
def State.tagAdmitted (s : State) (fn : Nat) (p : Packet) : Bool :=
  s.win.iwins.any fun w =>
    w.2.owner == fn && w.2.state == .opened && bitAt w.2.access.toNat 1 && w.2.tag == p.tag &&
      (w.2.source == 0xFFFFF || w.2.source == p.src)

/-- Refuse a message's unit, every later one of it, and, where a QP refuses, every later message of its source QP (R179, R314).
cut tells that the receive state of the packet has gone: nothing is answered. -/
def State.refuseSend (s : State) (cut : Bool) (p : Packet) (st : Nat) : State :=
  let s := s.refuseFrom p st
  if cut then s else (s.drainPkt p).refuse p st

/-- The IMMEDIATE of a message's last packet; no rule gives it where LENGTH leaves it less than 8 bytes: a free value (log
entry 16). -/
def State.sendImm (s : State) (p : Packet) : W64 × State :=
  if p.last && p.len < 8 then s.takeFree else (BitVec.ofNat 64 (leNat (p.payload.drop (p.len - 8))), s)

/-- One unit of a matched message lands in the RECV's buffer; the last one brings IMMEDIATE (R178). One without data is done at
once. -/
def State.recvUnit (s : State) (q : Nat) (x : Qp) (d : Desc) (src left : Nat) (total : Nat) (cut : Bool) (p : Packet) : State :=
  let data := p.sendData.take left
  let no := d.units.length
  let off := d.unitAt no
  let (imm, s) := s.sendImm p
  let s := s.modDesc q d.sqi fun d =>
    { d with units := d.units ++ [(data.length, false)], started := true, matched := some (p.src, src, total, left - data.length),
             nextByte := if p.last then d.len else d.nextByte, immValid := p.last, data := if p.last then imm else d.data }
  if data.isEmpty then
    let s := if cut then s else (s.drainPkt p).committedRx p
    s.unitDone q d.sqi no
  else s.stageQp .recvData q x d no off (.unit q d.sqi no) p cut data

/-- The fetched RECV that a packet of a message goes to: the next unmatched one for the first packet, that of the message
for a later one; else the status of the refusal. -/
def Qp.recvFor (x : Qp) (p : Packet) (src : Nat) : Except Nat (Desc × Nat × Nat) :=
  if p.first then
    let total := p.offset.toNat % 2 ^ 30 + 1
    let due (d : Desc) : Bool := d.opcode == 0x04 && d.status.isNone && d.matched.isNone
    match x.descs.find? due with
    | none => .error 0x09
    | some d => if x.state = QpState.draining then .error 0x09 else if d.len < total then .error 0x0A else .ok (d, total, total)
  else
    let mine (d : Desc) : Bool :=
      d.opcode == 0x04 && d.status.isNone &&
        match d.matched with
        | some m => m.1 == p.src && m.2.1 == src && decide (m.2.2.2 > 0)
        | none => false
    match x.descs.find? mine with
    | none => .error 0x09
    | some d =>
      match d.matched with
      | some m => .ok (d, m.2.2.1, m.2.2.2)
      | none => .error 0x09

/-- A SEND reaches a QP whose context is at hand (R178, R179, R314). -/
def State.sendAt (s : State) (cut : Bool) (q : Nat) (x : Qp) (p : Packet) : State :=
  match s.refusalOf p with
  | some st => s.refuseSend cut p st
  | none =>
    if !s.fnReady x.fn || !s.tagAdmitted x.fn p then s.refuseSend cut p 0x02
    else
      let src := sendFrom p * 8 + p.vc.toNat
      match x.recvFor p src with
      | .error st => s.refuseSend cut p st
      | .ok (d, total, left) => s.recvUnit q x d src left total cut p

/-- A SEND is delivered; one for a spilled QP waits in grant space for its load (R351). -/
def State.takeSend (s : State) (p : Packet) : State :=
  match s.qp p.sendTo with
  | none => s.refuseSend false p 0x02
  | some x =>
    let s := s.undemote p.sendTo
    if s.qpAway p.sendTo x || s.tp.held.any (fun h => h.1 == p.sendTo) then
      ({ s with tp := { s.tp with held := s.tp.held ++ [(p.sendTo, false, p)] } }).serviceLoad p.sendTo
    else s.sendAt false p.sendTo x p

/-- The packets held for a QP are delivered in order: its context has come back (R351). -/
def State.deliverHeld (s : State) (q : Nat) : State :=
  let mine := s.tp.held.filter fun h => h.1 == q
  let s := { s with tp := { s.tp with held := s.tp.held.filter fun h => h.1 != q } }
  mine.foldl (fun s h =>
    match s.qp q with
    | none => s.refuseSend h.2.1 h.2.2 0x02
    | some x => s.sendAt h.2.1 q x h.2.2) s

/-- A RESET_MARK is delivered: with a tag that some function admits, the refusals of its source QP end at every QP (R313,
R421; log entry 61). -/
def State.takeMark (s : State) (p : Packet) : State :=
  let s := s.drainPkt p
  if s.win.iwins.any fun w => s.tagAdmitted w.2.owner p then
    { s with tp := { s.tp with refusing := s.tp.refusing.filter fun r => !(r.node == p.src && r.from_ == sendFrom p) } }
  else s.refuse p 0x02

/-! ## Receipt (R312) -/

/-- The function that a received packet is charged to: the window's owner, or the QP's or aperture's function (R372). -/
def State.packetFn (s : State) (p : Packet) : Option Nat :=
  match p.kind.toNat with
  | 0x01 | 0x02 => (s.iwinAt p.offset.toNat).map (·.2.owner)
  | 0x05 => (tget s.win.slots p.handle).map s.slotOwner
  | 0x07 => (s.qp p.sendTo).map (·.fn)
  | 0x03 =>
    let a := s.tp.awaits.find? fun a =>
      a.node == p.src && a.vc == p.vc.toNat && a.seq == BitVec.ofNat 24 p.tag.toNat
    match a.map (·.owner) with
    | some (Owner.get q _ _) => (s.qp q).map (·.fn)
    | some (Owner.aptRead id _) => (tget s.win.reads id).map (·.fn)
    | _ => none
  | _ => none

/-- Count a received packet and charge its flits. -/
def State.packetSeen (s : State) (sl : Sleeve) (p : Packet) : State :=
  let v := s.slv sl
  let s := s.crossed sl
  match s.packetFn p with
  | some fn => (s.charge fn (flitIdx v.rate v.rxLanes) (packetFlits p.len)).occFn 0x0511 1 fn
  | none => s.occ 0x0511 1 none none

/-- The payload of an accepted packet counts as inbound bytes (R229, R381). -/
def State.bytesSeen (s : State) (sl : Sleeve) (p : Packet) : State :=
  let n := s.el.inboundNow
  let s := { s with el := { s.el with inboundNow := if sl = Sleeve.a then (n.1 + p.len, n.2) else (n.1, n.2 + p.len) } }
  match s.packetFn p with
  | some fn => s.modFn fn fun f => { f with bytesIn := f.bytesIn + BitVec.ofNat 64 p.len }
  | none => s

/-- Deliver an accepted packet by its kind (R313). -/
def State.deliver (s : State) (sl : Sleeve) (p : Packet) : State :=
  match p.kind.toNat with
  | 0x01 => s.takeWrite p
  | 0x02 => (s.drainPkt p).takeRead sl p
  | 0x03 => s.takeReadRsp p
  | 0x05 => (s.drainPkt p).takeCollect p
  | 0x07 => s.takeSend p
  | 0x08 => s.takeMark p
  | _ => (s.drainPkt p).tpLate

/-- The expected packet of a flow is accepted, delivered and answered as far as it may be (R312, R313, R315). -/
def State.accept (s : State) (sl : Sleeve) (p : Packet) : State :=
  let s := s.modRx p.rxFlow fun r =>
    { r with expect := r.expect + 1, lastAt := s.clk.localCount,
             waiting := if p.waits then r.waiting ++ [{ seq := p.seq, status := none, sleeve := sl }] else r.waiting }
  let s := (s.bytesSeen sl p).deliver sl p
  if p.kind = 0x08 then s.committedRx p else s.answer p.src p.vc.toNat sl

/-- A packet of a flow that is not the expected one (R312). -/
def State.outOfTurn (s : State) (sl : Sleeve) (r : RxFlow) (p : Packet) : State :=
  if (p.seq - r.expect).toNat < 2 ^ 23 then
    (s.tpCount 0x03 fun t => { t with ahead := t.ahead + 1 }).sendAck p.src p.vc.toNat sl
  else
    let s := (s.tpCount 0x02 fun t => { t with dup := t.dup + 1 }).sendAck p.src p.vc.toNat sl
    match r.refused.find? (·.seq == p.seq) with
    | none => s
    | some x =>
      let e := s.epochs p.src
      s.tpMsg sl r.fn (nakMsg s.tp.node p.src p.vc.toNat p.seq.toNat x.status.toNat e.1 e.2)

/-- A packet arrives on a Sleeve (R304, R312). -/
def State.receive (sl : Sleeve) (p : Packet) (s : State) : State :=
  if !s.slvUp sl then s
  else if !packetOk p s.tp.node then s.tpCount 0x07 fun t => { t with malformed := satInc t.malformed }
  else
    let s := s.packetSeen sl p
    if p.dstEpoch ≠ s.tp.epoch then s.tpStale.answerEpoch p.src sl
    else if s.epochOlder p.src p.srcEpoch then s.tpStale
    else
      let s := s.noteEpoch p.src p.srcEpoch
      if p.kind = 0x09 then s.frameIn p.src p.payload
      else
        match tget s.tp.rx p.rxFlow with
        | none => s.tpNoState.answerRetire p.src p.vc.toNat sl (s.packetFn p)
        | some r =>
          let r := { r with seenAt := s.clk.localCount, sleeve := sl, fn := s.packetFn p }
          let s := s.modRx p.rxFlow fun _ => r
          if p.seq = r.expect then s.accept sl p else s.outOfTurn sl r p

/-- WRITE (R210). -/
def execWritePkt (sl : Sleeve) (p : Packet) (s : State) := command (State.receive sl p) s

/-- READ (R211, R216). -/
def execReadPkt (sl : Sleeve) (p : Packet) (s : State) := command (fun s => s.receive sl p) s

/-- COLLECT (R217). -/
def execCollectPkt (sl : Sleeve) (p : Packet) (s : State) := command (fun s => s.receive sl p) s

/-- READ_RSP (R313). -/
def execReadRsp (sl : Sleeve) (p : Packet) (s : State) := command (fun s => s.receive sl p) s

/-- READ_READY (R313). -/
def execReadReady (sl : Sleeve) (p : Packet) (s : State) := command (fun s => s.receive sl p) s

/-- COLLECT_RSP (R313). -/
def execCollectRsp (sl : Sleeve) (p : Packet) (s : State) := command (fun s => s.receive sl p) s

/-- SEND_PACKET (R178, R314). -/
def execSendPacket (sl : Sleeve) (p : Packet) (s : State) := command (fun s => s.receive sl p) s

/-- RESET_MARK (R179, R313). -/
def execResetMark (sl : Sleeve) (p : Packet) (s : State) := command (fun s => s.receive sl p) s

/-- STATUS_FRAME (R224, R312). -/
def execStatusFrame (sl : Sleeve) (p : Packet) (s : State) := command (fun s => s.receive sl p) s

/-! ## Slots and prefetched bytes (R216, R218, R219) -/

/-- The read-ahead that follows a sequential delayed read. -/
def State.readAhead (s : State) (d : DrSlot) : State :=
  match tget s.win.iwins d.win with
  | none => s
  | some x =>
    let from_ := d.off + d.len
    let n := min 4096 (x.foff + x.size - from_)
    if !d.sequential || !bitAt x.access.toNat 2 || x.state ≠ .opened || n = 0 then s
    else
      let s := s.dropPrefetch fun f => f.win == d.win && f.node == d.node
      let (lead, total) := rawSpan x.rule from_ n
      let f : Prefetch := { win := d.win, node := d.node, vc := d.vc, off := from_, len := n, lead := lead, order := s.nextUnit,
                            landed := 0, data := zeros total }
      let s := { s with win := { s.win with prefetch := s.win.prefetch ++ [f] }, nextUnit := s.nextUnit + 1 }
      s.askHost .prefetch x.owner d.win f.order 0 (hostReads [(0, x.iova + (from_ - x.foff) - lead, total)] (s.mrrs x.owner))

/-- The last byte of a delayed read has landed: READ_READY goes out (R216, R219). -/
def State.slotLanded (h : Nat) (s : State) : State :=
  match tget s.win.slots h with
  | none => s
  | some d =>
    if d.ready || d.landed < d.data.length then s
    else
      let owner := s.slotOwner d
      let s := { s with win := { s.win with slots := tput s.win.slots h { d with ready := true } } }
      (s.sendPkt (readyPacket d h 0) .other owner).readAhead d

/-- DELAYED_READ_DATA_LANDED (R216, R219). -/
def execDelayedReadDataLanded (handle : Nat) (s : State) := command (State.slotLanded handle) s

/-- The discard timer of a slot expires (R218). -/
def State.slotDiscard (h : Nat) (s : State) : State :=
  match tget s.win.slots h with
  | none => s
  | some d =>
    if !d.ready then s
    else
      let s := s.modIwin d.win fun x =>
        if x.state = .closing then { x with drainDiscards := x.drainDiscards + 1 } else x
      ({ s with win := { s.win with drDiscardCnt := s.win.drDiscardCnt + 1 } }).freeSlot h

/-- DELAYED_READ_DISCARD (R218). -/
def execDelayedReadDiscard (handle : Nat) (s : State) := command (State.slotDiscard handle) s

/-- DR_DISCARD has passed from the landing of prefetched bytes (R219). -/
def State.prefetchLapse (win node : Nat) (s : State) : State :=
  s.dropPrefetch fun f => f.win == win && f.node == node && f.landed == f.data.length

/-- PREFETCH_DISCARD (R219). -/
def execPrefetchDiscard (win node : Nat) (s : State) := command (State.prefetchLapse win node) s

end Sys2Proof.Machine
end

