-- ==== Sys2Proof/Machine/Sleeve.lean ====
section
/-! DEFINITION. The Sleeve link layer's commands (R277 to R297, R399, R434): link-up, flits with their acknowledgement and
replay, retrain and link-down, lane shedding and retirement, QUIET and wake, link encryption, and SLA_CTRL. -/
namespace Sys2Proof.Machine

/-! ## Link-up (R278 to R281) -/

/-- A link-up after AGE_CTRL.CLEAR_DERATE: the plan's limit on this Sleeve ends (R481). -/
def State.rateFreed (s : State) (sl : Sleeve) : State :=
  match sl with
  | .a => if s.lin.clearA then { s with lin := { s.lin with slaRate := 3, clearA := false } } else s
  | .b => if s.lin.clearB then { s with lin := { s.lin with slbRate := 3, clearB := false } } else s

/-- The training words of receive lanes 0 to 7 whose CHECK is good, with the polarity of each (R278). -/
def trainWords (words : List (Option W64)) : List (Option (Bool × W64)) := (words.take 8).map fun w => w.bind trainRead

/-- Mask of the lanes of a list that satisfy a condition. -/
def laneMask {α : Type} (l : List α) (c : α → Bool) : Byte := BitVec.ofNat 8 (maskOf (l.map c))

/-- Training words with good CHECK arrive on at least 2 lanes: a link-up starts. The lanes are mapped from TX_LANE, their
polarity is put right, RATES gives the highest common rate, and UNRETIRE takes effect (R278, R280, R291). -/
def State.detected (sl : Sleeve) (words : List (Option W64)) (s : State) : State :=
  let good := trainWords words
  if (s.slv sl).state = .detect && decide (laneCount (laneMask good (·.isSome)) ≥ 2) then
    let s := s.rateFreed sl
    let rates := good.foldl (fun (r : BitVec 3) x => (x.map fun y => r &&& wordRates y.2).getD r) 7
    let s := s.modSlv sl fun v =>
      { v with state := .train, tryRate := BitVec.ofNat 2 (commonRate (s.slvMax sl).toNat rates), peerRates := rates,
               rxMap := good.map fun x => x.map fun y => wordLane y.2, rxInv := laneMask good fun x => (x.map (·.1)).getD false,
               retiredRx := if v.unretire then 0 else v.retiredRx, retiredTx := if v.unretire then 0 else v.retiredTx,
               unretire := false }
    s.trainSend sl (laneMask good (·.isSome)) false false
  else s

/-- SLEEVE_DETECT (R278, R280). -/
def execSleeveDetect (sl : Sleeve) (words : List (Option W64)) (s : State) := command (State.detected sl words) s

/-- What a training settles on is possible: the highest rate that both sides offer, and a rate up to it (R280, R291). -/
def State.trainOk (s : State) (sl : Sleeve) (t : Trained) : Bool :=
  t.rate != 0 && decide (t.rate.toNat ≤ t.best.toNat) && t.best.toNat == commonRate (s.slvMax sl).toNat (s.slv sl).peerRates

/-- Lining stores the final coefficients (R280). -/
def State.trainStore (s : State) (sl : Sleeve) (t : Trained) : State :=
  { s with lin := s.lin.storeFinals (sl.num + 1) t.rate.toNat t.coefs }

/-- Both sides show RX_READY at the rate of this attempt: ALIGN, unless fewer than 2 lanes remain in a direction (R279,
R280). -/
def State.trainDone (sl : Sleeve) (t : Trained) (s : State) : State :=
  let v := s.slv sl
  if v.state = .train && s.trainOk sl t && t.rate == v.tryRate then
    let w := v.trained t
    if w.rxLanes = 0 || w.txLanes = 0 then s.slvDown sl none
    else ((s.trainStore sl t).setSlv sl { w with state := .align }).trainSend sl w.rxMask true false
  else s

/-- TRAIN_COMPLETE (R279, R280). -/
def execTrainComplete (sl : Sleeve) (t : Trained) (s : State) := command (State.trainDone sl t) s

/-- The TRAIN bound expires: the next lower common rate, or DOWN after the lowest (R280). -/
def State.trainExpired (sl : Sleeve) (s : State) : State :=
  let v := s.slv sl
  let next := commonRate (v.tryRate.toNat - 1) v.peerRates
  if v.state ≠ .train then s
  else if next = 0 then s.slvDown sl none
  else (s.modSlv sl fun v => { v with tryRate := BitVec.ofNat 2 next }).trainSend sl 0 false false

/-- TRAIN_TIMEOUT (R280). -/
def execTrainTimeout (sl : Sleeve) (s : State) := command (State.trainExpired sl) s

/-- CAP of our HELLO: encryption offered, encryption required (R277, R294). -/
def Slv.cap (v : Slv) : Nat := b2n (v.encMode == 1 || v.encMode == 2) + 2 * b2n (v.encMode == 2)

/-- ALIGN ends: PARAM, sequences from 0, HELLO in the first sequenced flit (R277, R280). -/
def State.aligned (sl : Sleeve) (s : State) : State :=
  if (s.slv sl).state = .align then
    let s := s.modSlv sl fun v =>
      { v with state := .param, expect := 0, accepted := false, nakPending := false, oldest := 0, nextSeq := 0,
               lastNak := false, lastAck := 0xFFF, timerReplays := 0, encOn := false, txKey := 0, rxKey := 0, keyCounter := 0,
               rxCounter := 0, buffer := [], rxGroup := [], rxPkt := none, session := [], sessionUp := [] }
    s.bypassNow sl (helloMsg (s.slv sl).cap (if s.tp.nodeFixed then s.tp.node else 0))
  else s

/-- ALIGN_COMPLETE (R280). -/
def execAlignComplete (sl : Sleeve) (s : State) := command (State.aligned sl) s

/-- Encryption applies on this link-up (R294). -/
def Slv.encApplies (v : Slv) : Bool :=
  v.encMode == 2 || (v.encMode == 1 && bitAt v.peerCap.toNat 0) || bitAt v.peerCap.toNat 1

/-- The trust anchor of a Sleeve is in the MRAM configuration (R434). -/
def State.anchored (s : State) : Sleeve → Bool
  | .a => s.lin.anchorA
  | .b => s.lin.anchorB

/-- Both sides can meet what encryption asks (R294, R434). -/
def State.encMet (s : State) (sl : Sleeve) : Bool :=
  let v := s.slv sl
  !v.encApplies || (s.anchored sl && (bitAt v.peerCap.toNat 0 || bitAt v.peerCap.toNat 1))

/-- A Sleeve is UP: flows of a Sleeve that is not move to it, and what waits goes out. -/
def State.slvResume (s : State) (sl : Sleeve) : State :=
  let lost := match (s.slv sl.other).state with
    | .up | .retrain | .quiet => false
    | _ => true
  let s := if lost then s.rerouteFlows sl.other else s
  s.pumpSleeve sl

/-- The other Sleeve, in PARAM with another node assigned, waits under NODE_MISMATCH (R281). -/
def State.mismatchOther (s : State) (sl : Sleeve) : State :=
  let o := s.slv sl.other
  if o.state = .param && o.nodeOk && o.assigned ≠ s.tp.node then
    (s.modSlv sl.other fun v => { v with nodeOk := false }).slvEvent sl.other 5
  else s

/-- The own HELLO has been acknowledged (R280). -/
def Slv.helloAcked (v : Slv) : Bool := !((v.buffer.map (·.body) ++ v.bypassQ).any fun m => m.headD 0 == 0x01)

/-- COUNTER where an announced key begins: the first group at least 64 flits behind the KEY SWITCH, when d sequenced flits go
out before it (R294, R295). -/
def Slv.keyStart (v : Slv) (d : Nat) : Nat :=
  let n := v.nextSeq.toNat
  v.keyCounter.toNat + ((n + d + 64 + 63) / 64 * 64 - n)

/-- Encryption starts with our KEY SWITCH, whose flit is the first that COUNTER counts (R294; log entry 51). -/
def State.encStart (s : State) (sl : Sleeve) : State :=
  let s := s.modSlv sl fun v => { v with encOn := true, keyCounter := 0 }
  let c := (s.slv sl).keyStart 0
  (s.bypassNow sl (keyMsg 0 c)).modSlv sl fun v => { v with txNext := some (0, BitVec.ofNat 64 c) }

/-- PARAM ends: the Sleeve is UP, the node is fixed, EPOCH is the first transport message, and encryption starts where it
applies (R280, R281, R294, R322). -/
def State.paramDone (sl : Sleeve) (s : State) : State :=
  let v := s.slv sl
  if v.state = .param && v.helloAcked && v.helloRcvd && v.nodeOk && s.encMet sl then
    let enc := v.encApplies
    let s := s.modSlv sl fun v => { v with state := .up, retrainEp := true, keysIn := enc, txKey := 0, rxKey := 0 }
    let s := if s.tp.nodeFixed then s else
        ({ s with tp := { s.tp with nodeFixed := true, node := v.assigned } }).mismatchOther sl
    let s := if enc then s.encStart sl else s
    (s.sendEpoch sl).slvResume sl
  else s

/-- PARAM_COMPLETE (R280, R281). -/
def execParamComplete (sl : Sleeve) (s : State) := command (State.paramDone sl) s

/-- A Sleeve in PARAM is assigned another node than the fixed one (R281). -/
def State.nodeMismatch (s : State) (sl : Sleeve) : Bool :=
  s.tp.nodeFixed && (s.slv sl).assigned != 0 && (s.slv sl).assigned != s.tp.node

/-- The ALIGN or PARAM bound is exceeded; it does not apply under a node mismatch (R280, R281). -/
def State.stageExpired (sl : Sleeve) (s : State) : State :=
  match (s.slv sl).state with
  | .align => s.slvDown sl none
  | .param => if s.nodeMismatch sl then s else s.slvDown sl none
  | _ => s

/-- STAGE_BOUND_EXPIRY (R280). -/
def execStageBoundExpiry (sl : Sleeve) (s : State) := command (State.stageExpired sl) s

/-- DETECT starts again (R280). -/
def State.detectAgain (sl : Sleeve) (s : State) : State :=
  let v := s.slv sl
  if v.state = .down && v.enable then
    (s.modSlv sl fun v => { v with state := .detect, tryRate := 1 }).trainSend sl 0 false false
  else s

/-- DOWN_RETRY (R280). -/
def execDownRetry (sl : Sleeve) (s : State) := command (State.detectAgain sl) s

/-- MGMT with its fragment (R277). -/
def mgmtMsg (som eom : Bool) (no : Nat) (frag : Bytes) : Bytes :=
  slot16 0x09 (beBytes 1 (b2n som * 128 + b2n eom * 64 + no % 4 * 16) ++ beBytes 1 frag.length ++ frag)

/-- Fragments of an MCTP packet. -/
def mgmtMsgs (pkt : Bytes) : List Bytes :=
  let n := (pkt.length + 12) / 13
  (List.range n).map fun i => mgmtMsg (i == 0) (i + 1 == n) i ((pkt.drop (13 * i)).take 13)

/-- Lining's requester sends its next message of the SPDM session on a Sleeve, if there is one (R294, R434). -/
def State.spdmNext (s : State) (sl : Sleeve) : State :=
  let v := s.slv sl
  (mgmtMsgs (Config.spdmRequest sl.num (v.session ++ v.sessionUp))).foldl (fun s m => s.bypass sl m) s

/-- The peer's HELLO is accepted in PARAM; where encryption applies and can be met, the SPDM session opens (R277, R280,
R294). -/
def State.helloIn (sl : Sleeve) (version cap : Byte) (depth : Nat) (s : State) : State :=
  if (s.slv sl).state = .param && version = 0x01 then
    let s := s.modSlv sl fun v => { v with helloRcvd := true, peerCap := cap, peerDepth := depth }
    if (s.slv sl).encApplies && s.encMet sl then s.spdmNext sl else s
  else s

/-- HELLO (R277). The peer's own node has no use in the manual. -/
def execHello (sl : Sleeve) (version cap : Byte) (_node depth : Nat) (s : State) :=
  command (State.helloIn sl version cap depth) s

/-- A protocol error: the link goes DOWN (R274, R281, R288). -/
def State.slvProto (s : State) (sl : Sleeve) : State := (s.slvEvent sl 4).slvDown sl (some 0x04)

/-- NODE_ASSIGN in PARAM, or compared with the fixed node after it (R281). -/
def State.assignNode (sl : Sleeve) (node : Nat) (s : State) : State :=
  let v := s.slv sl
  match v.state with
  | .param =>
    if node = 0 || node ≥ 0xFFFFF then s.slvProto sl
    else if s.tp.nodeFixed && node ≠ s.tp.node then
      (s.modSlv sl fun v => { v with assigned := node, nodeOk := false }).slvEvent sl 5
    else s.modSlv sl fun v => { v with assigned := node, nodeOk := true }
  | .up | .retrain | .quiet => if s.tp.nodeFixed && node ≠ s.tp.node then s.slvEvent sl 5 else s
  | _ => s

/-- NODE_ASSIGN (R281). -/
def execNodeAssign (sl : Sleeve) (node : Nat) (s : State) := command (State.assignNode sl node) s

/-! ## Flits (R271 to R285) -/

/-- An acknowledgement advances: what it covers leaves the replay buffer, and its round trip is the sample of SLA_ACK.RTT
(R283). -/
def Slv.ackTo (v : Slv) (a : BitVec 12) (now : Nat) : Slv :=
  let covered (f : LinkFlit) : Bool := decide ((f.seq - v.oldest).toNat < (a - v.oldest + 1).toNat)
  let rtt := (v.buffer.filter covered).foldl (fun _ f => satOfNat 16 (now - f.sentAt)) v.rtt
  { v with oldest := a + 1, timerReplays := 0, rtt := rtt, buffer := v.buffer.filter fun f => !covered f }

/-- The received ACK value is valid (R283). -/
def Slv.ackValid (v : Slv) (a : BitVec 12) : Bool := decide ((a - v.oldest + 1).toNat ≤ v.outstanding)

/-- Use a valid ACK value: whatever the outstanding limit held back goes out. -/
def State.linkAck (s : State) (sl : Sleeve) (a : BitVec 12) : State :=
  let v := s.slv sl
  if a + 1 = v.oldest then s
  else (s.modSlv sl fun v => v.ackTo a s.clk.localCount).pumpSleeve sl

/-- Use the ACK and NAK of a good flit: a new NAK edge replays from A + 1 (R284). -/
def State.linkHeader (s : State) (sl : Sleeve) (a : BitVec 12) (nak : Bool) : State :=
  let v := s.slv sl
  let edge := nak && (!v.lastNak || v.lastAck != a)
  let s := s.linkAck sl a
  let s := s.modSlv sl fun v => { v with lastNak := nak, lastAck := a }
  if edge then
    (s.slvCount sl 4 fun v => { v with nakRcvd := v.nakRcvd + 1, replaysEp := v.replaysEp + 1 }).replayFrom sl (a + 1)
  else s

/-- A flit fails its CRC (R282). -/
def State.flitBad (s : State) (sl : Sleeve) (uncorrectable : Bool) : State :=
  let s := if uncorrectable then s.slvCount sl 1 fun v => { v with fecUncorr := v.fecUncorr + 1 }
    else s.slvCount sl 2 fun v => { v with seqMismatch := satInc v.seqMismatch }
  if (s.slv sl).nakPending then s
  else s.slvCount sl 3 fun v => { v with nakPending := true, nakSent := v.nakSent + 1 }

/-- Reserved KIND or non-zero reserved bits of a flit (R271, R274). -/
def flitReserved (h kind : Nat) (flit : Bytes) : Bool :=
  let vc := bits h 14 12
  decide (kind ≥ 6) || h % 4096 != 0 || beAt 244 4 flit != 0 || (decide (kind ≤ 1) && vc != 0)

/-- The replay timer expires with flits outstanding: a replay from the oldest, or a retrain after three (R285). -/
def State.replayExpired (sl : Sleeve) (s : State) : State :=
  let v := s.slv sl
  if (v.state ≠ .param && v.state ≠ .up) || v.outstanding = 0 then s
  else if v.timerReplays ≥ 3 then s.slvRetrain sl
  else
    (s.slvCount sl 5 fun v => { v with tmrReplay := v.tmrReplay + 1, timerReplays := v.timerReplays + 1,
                                       replaysEp := v.replaysEp + 1 }).replayFrom sl v.oldest

/-- REPLAY_TIMER (R285). -/
def execReplayTimer (sl : Sleeve) (s : State) := command (State.replayExpired sl) s

/-! ## Retrain and link-down (R287, R288) -/

/-- NO_VALID_FLIT (R288): reason 0x02. -/
def execNoValidFlit (sl : Sleeve) (s : State) :=
  command (fun s => if (s.slv sl).state = .param || (s.slv sl).state = .up then s.slvDown sl (some 0x02) else s) s

/-- Training words with RETRAIN 1 arrive: their ACK_SEQ is used, and a retrain starts (R287). -/
def State.retrainWord (sl : Sleeve) (ackSeq : BitVec 12) (s : State) : State :=
  let v := s.slv sl
  match v.state with
  | .param | .up | .quiet | .retrain =>
    let s := s.slvRetrain sl
    if v.ackValid ackSeq then s.linkAck sl ackSeq else s
  | _ => s

/-- TRAINING_WORD_RETRAIN (R287). -/
def execTrainingWordRetrain (sl : Sleeve) (ackSeq : BitVec 12) (s : State) := command (State.retrainWord sl ackSeq) s

/-- The Sleeve is in PARAM or UP. -/
def Slv.running (v : Slv) : Bool := v.state == .param || v.state == .up

/-- A receive lane is active. -/
def Slv.rxActive (v : Slv) (lane : Nat) : Bool := decide (lane < 8) && bitAt v.rxMask.toNat lane

/-- RX_LOCK_LOSS (R287). -/
def execRxLockLoss (sl : Sleeve) (lane : Nat) (s : State) :=
  command (fun s => if (s.slv sl).running && (s.slv sl).rxActive lane then s.slvRetrain sl else s) s

/-- RETRAIN_LANE_TIMEOUT (R287, R291). -/
def execRetrainLaneTimeout (sl : Sleeve) (lane : Nat) (s : State) :=
  command (fun s => if (s.slv sl).state = .retrain && decide (lane < 8) then s.slvRetire sl lane else s) s

/-- Flits of a group that has not verified are left: the peer sends them again (R287, R295). -/
def Slv.groupLost (v : Slv) : Slv :=
  let n := v.rxGroup.length
  { v with expect := v.expect - BitVec.ofNat 12 n, rxCounter := v.rxCounter - BitVec.ofNat 64 n, rxGroup := [] }

/-- A retrain completes: new widths and rate, and the flits from the peer's ACK_SEQ + 1 on; one that began in PARAM goes back
there (R287). -/
def State.retrainDone (sl : Sleeve) (t : Trained) (s : State) : State :=
  let v := s.slv sl
  if v.state ≠ .retrain || !s.trainOk sl t then s
  else
    let w := (v.trained t).groupLost
    if w.rxLanes = 0 || w.txLanes = 0 then s.slvDown sl (some 0x03)
    else
      let s := (s.trainStore sl t).setSlv sl { w with state := if w.inParam then .param else .up, inParam := false,
                                                      nakPending := false }
      let s := if w.outstanding = 0 then s else s.replayFrom sl w.oldest
      if w.inParam then s else s.slvResume sl

/-- RETRAIN_COMPLETE (R287). -/
def execRetrainComplete (sl : Sleeve) (t : Trained) (s : State) := command (State.retrainDone sl t) s

/-- RETRAIN_TIMEOUT (R287, R288): reason 0x03. -/
def execRetrainTimeout (sl : Sleeve) (s : State) :=
  command (fun s => if (s.slv sl).state = .retrain then s.slvDown sl (some 0x03) else s) s

/-- A Sleeve that has a link with its peer. -/
def Slv.linked (v : Slv) : Bool :=
  match v.state with
  | .align | .param | .up | .retrain | .quiet => true
  | _ => false

/-- FRAY from the peer (R288, R296). -/
def State.frayIn (sl : Sleeve) (s : State) : State :=
  if (s.slv sl).linked then (s.slvEvent sl 3).slvDown sl none else s

/-- FRAY (R296). REASON and NODE have no use in the manual. -/
def execFray (sl : Sleeve) (_reason : Byte) (_node : Nat) (s : State) := command (State.frayIn sl) s

/-- LINK_DOWN from the peer (R288). -/
def State.downIn (sl : Sleeve) (s : State) : State := if (s.slv sl).linked then s.slvDown sl none else s

/-- LINK_DOWN (R288). REASON has no use in the manual. -/
def execLinkDown (sl : Sleeve) (_reason : Byte) (s : State) := command (State.downIn sl) s

/-! ## Lanes (R289 to R291) -/

/-- LANE_RETIRE (R291). -/
def execLaneRetire (sl : Sleeve) (lane : Nat) (s : State) :=
  command (fun s => if (s.slv sl).running && decide (lane < 8) then s.slvRetire sl lane else s) s

/-- The peer asks for a change of our transmit width; during a change of ours it waits (R289). -/
def State.shedAsked (sl : Sleeve) (mask : Byte) (s : State) : State :=
  let v := s.slv sl
  if v.state ≠ .up then s
  else if v.shedMask ≠ 0 then s.modSlv sl fun v => { v with shedAsk := some mask }
  else s.shedAnswer sl mask

/-- SHED_REQUEST (R289, R290). -/
def execShedRequest (sl : Sleeve) (mask : Byte) (s : State) := command (State.shedAsked sl mask) s

/-- The receiver names the added lanes it has locked: SWITCH to the widest legal set of them. -/
def State.shedReadyIn (sl : Sleeve) (mask : Byte) (s : State) : State :=
  let v := s.slv sl
  if v.state ≠ .up || !v.shedWide then s
  else
    let have_ := (v.txMask ||| mask) &&& v.shedMask
    let new := lowestLanes have_ (widthFor (laneCount have_))
    if laneCount new > v.txLanes then s.shedTo sl new
    else s.modSlv sl fun v => { v with shedMask := 0, shedWide := false }

/-- SHED_READY (R289). -/
def execShedReady (sl : Sleeve) (mask : Byte) (s : State) := command (State.shedReadyIn sl mask) s

/-- The peer's transmitter switches: our receive width follows; a mask that R290 does not allow is refused (R289, R290). -/
def State.shedSwitched (sl : Sleeve) (mask : Byte) (s : State) : State :=
  let v := s.slv sl
  if v.state ≠ .up then s
  else if maskOk mask (v.toPeer v.retiredRx) then
    s.modSlv sl fun v => { v with rxMask := v.fromPeer mask, rxLanes := laneCount mask }
  else s.bypass sl (shedMsg 0x04 0)

/-- SHED_SWITCH (R289). -/
def execShedSwitch (sl : Sleeve) (mask : Byte) (s : State) := command (State.shedSwitched sl mask) s

/-- Our request is declined: a retired lane still in use leaves by a retrain (R289, R291). -/
def State.shedRefused (sl : Sleeve) (s : State) : State :=
  let v := s.slv sl
  if v.state = .up && v.rxMask &&& v.retiredRx ≠ 0 then s.slvRetrain sl else s

/-- SHED_REFUSE (R289, R291). -/
def execShedRefuse (sl : Sleeve) (s : State) := command (State.shedRefused sl) s

/-- The receiver has locked the lanes the peer adds: SHED READY names them (R289). -/
def State.lanesLocked (sl : Sleeve) (mask : Byte) (s : State) : State :=
  let v := s.slv sl
  if v.state = .up then s.bypass sl (shedMsg 0x02 (v.toPeer (mask &&& ~~~v.retiredRx))) else s

/-- ADDED_LANES_LOCKED (R289). -/
def execAddedLanesLocked (sl : Sleeve) (mask : Byte) (s : State) := command (State.lanesLocked sl mask) s

/-! ## QUIET (R292, R293, R399) -/

/-- Nothing of ours waits on a Sleeve: replay buffer and transmit queues empty, no unacknowledged packet on it (R399). -/
def State.slvIdle (s : State) (sl : Sleeve) : Bool :=
  let v := s.slv sl
  v.outstanding == 0 && v.bypassQ.isEmpty && (s.arb sl.arb).queue.isEmpty &&
    !(s.tp.tx.any fun f => f.2.sleeve == sl && !f.2.unacked.isEmpty)

/-- Both transmitters go to electrical idle: the last message of the exchange counts as acknowledged (R292). -/
def State.slvQuiet (s : State) (sl : Sleeve) : State :=
  (s.modSlv sl fun v => { v with state := .quiet, quietAsked := false, oldest := v.nextSeq, buffer := [] }).emit (.signal sl .idle)

/-- The peer's QUIET REQUEST: ACCEPT and QUIET, or REFUSE. -/
def State.quietAsk (sl : Sleeve) (s : State) : State :=
  if (s.slv sl).state ≠ .up then s
  else if s.slvIdle sl then
    (s.bypass sl (quietMsg 0x02)).slvQuiet sl
  else s.bypass sl (quietMsg 0x03)

/-- QUIET_REQUEST (R292, R399). -/
def execQuietRequest (sl : Sleeve) (s : State) := command (State.quietAsk sl) s

/-- The Y7 may ask for QUIET (R399). -/
def State.mayQuiet (s : State) (sl : Sleeve) : Bool :=
  (s.slv sl).state == .up && decide (s.clk.localCount ≥ (s.slv sl).crossedAt + 1000000) && (!s.anyD0 || s.linkDeep || s.link.state == .down) && !s.anyFlow && s.slvIdle sl

/-- QUIET_REQUEST_SENT (R399). -/
def execQuietRequestSent (sl : Sleeve) (s : State) :=
  command (fun s => if s.mayQuiet sl && !(s.slv sl).quietAsked then
    (s.bypass sl (quietMsg 0x01)).modSlv sl fun v => { v with quietAsked := true } else s) s

/-- The replay buffer holds nothing but our QUIET REQUEST. -/
def Slv.onlyRequest (v : Slv) : Bool := v.buffer.all fun f => f.body.take 2 == [0x04, 0x01]

/-- The peer accepts: its answer acknowledges our request (R292). -/
def State.quietYes (sl : Sleeve) (s : State) : State :=
  let v := s.slv sl
  if v.state = .up && v.quietAsked && v.onlyRequest then s.slvQuiet sl else s

/-- QUIET_ACCEPT (R292). -/
def execQuietAccept (sl : Sleeve) (s : State) := command (State.quietYes sl) s

/-- The peer refuses: the link stays UP, and what the request held back goes out (R292). -/
def State.quietNo (sl : Sleeve) (s : State) : State :=
  if (s.slv sl).quietAsked then (s.modSlv sl fun v => { v with quietAsked := false }).pumpSleeve sl else s

/-- QUIET_REFUSE (R292). -/
def execQuietRefuse (sl : Sleeve) (s : State) := command (State.quietNo sl) s

/-- A wake pattern on a QUIET Sleeve: wake source 0x05, its domain, DP, CTX and XLT wake, and the link retrains (R293,
R390). -/
def State.wakePattern (sl : Sleeve) (s : State) : State :=
  if (s.slv sl).state ≠ .quiet then s
  else
    let s := [sl.domain, Domain.dp, .ctx, .xlt].foldl State.wake s
    ((s.wakeSource 0x05).pmeEvent 0x05).slvRetrain sl

/-- SLEEVE_WAKE_PATTERN (R293, R390). -/
def execSleeveWakePattern (sl : Sleeve) (s : State) := command (State.wakePattern sl) s

/-! ## Link encryption (R277, R294, R295, R434) -/

/-- The peer announces a key: it comes into force at its COUNTER, and replays of earlier groups keep theirs. The flit that
carries the first KEY SWITCH is the first that COUNTER counts (R294, R295; log entry 51). -/
def State.keyIn (sl : Sleeve) (keyId : Byte) (counter : W64) (s : State) : State :=
  let v := s.slv sl
  if !v.running || !v.keysIn then s
  else
    s.modSlv sl fun v =>
      { v with rxNext := some (keyId, counter), rxCounter := if v.rxOn || v.rxNext.isSome then v.rxCounter else 1 }

/-- KEY_SWITCH (R295). -/
def execKeySwitch (sl : Sleeve) (keyId : Byte) (counter : W64) (s : State) := command (State.keyIn sl keyId counter) s

/-- A tag fails: its group is left, NAK-pending begins before it, and the third failure within 1 ms takes the link DOWN
(R295). -/
def State.macFailed (s : State) (sl : Sleeve) : State :=
  let v := s.slv sl
  let now := s.clk.localCount
  let times := (v.macTimes.filter fun t => decide (now < t + 1000000)) ++ [now]
  let s := s.slvCount sl 8 fun v => { v.groupLost with macFail := satInc v.macFail, macTimes := times }
  let s := if v.nakPending then s else s.slvCount sl 3 fun v => { v with nakPending := true, nakSent := v.nakSent + 1 }
  let s := s.slvEvent sl 6
  if times.length ≥ 3 then s.slvDown sl (some 0x05) else s

/-- A fragment of the session's MCTP packet: SOM starts it, the others follow in sequence, EOM ends it and hands it to
Lining's requester, which answers (R277, R294). One out of sequence ends the packet. -/
def State.mgmtIn (sl : Sleeve) (ctl len : Byte) (frag : Bytes) (s : State) : State :=
  let v := s.slv sl
  let n := len.toNat
  let som := bitAt ctl.toNat 7
  let no := bits ctl.toNat 5 4
  if !v.running || n = 0 || n > 13 then s
  else if !som && (v.mgmt.isEmpty || no ≠ v.mgmtNext) then s.modSlv sl fun v => { v with mgmt := [] }
  else
    let b := (if som then [] else v.mgmt) ++ fit n frag
    if bitAt ctl.toNat 6 then
      let s := s.modSlv sl fun v =>
        if v.state = .param then { v with mgmt := [], session := v.session ++ [b] }
        else { v with mgmt := [], sessionUp := v.sessionUp ++ [b] }
      s.spdmNext sl
    else s.modSlv sl fun v => { v with mgmt := b, mgmtNext := (no + 1) % 4 }

/-- MGMT (R277). -/
def execMgmt (sl : Sleeve) (ctl len : Byte) (frag : Bytes) (s : State) := command (State.mgmtIn sl ctl len frag) s

/-- KEY_UPDATE has run: KEY SWITCH to the next KEY_ID, at least one group ahead; one announced and not in force yet comes first
(R295, R434). -/
def State.linkRekey (sl : Sleeve) (s : State) : State :=
  let v := s.slv sl
  if v.state = .up && v.encOn && v.txNext.isNone then
    let key := v.txKey + 1
    let q := v.bypassQ.length
    let c := v.keyStart (q + q / 63 + 1)
    (s.modSlv sl fun v => { v with txNext := some (key, BitVec.ofNat 64 c) }).bypass sl (keyMsg key c)
  else s

/-- LINK_KEY_UPDATE (R434). -/
def execLinkKeyUpdate (sl : Sleeve) (s : State) := command (State.linkRekey sl) s

/-! ## SLA_CTRL (R280, R287, R288, R291) -/

/-- ENABLE 1 to 0: the link goes DOWN and stays DISABLED. -/
def State.slvOff (sl : Sleeve) (s : State) : State :=
  if !s.regServed 0 || !(s.slv sl).enable then s
  else
    let s := (s.modSlv sl fun v => { v with enable := false }).slvDown sl (some 0x01)
    (s.modSlv sl fun v => if v.state == .down then { v with state := .disabled } else v).checkNode

/-- SLEEVE_ENABLE_CLEAR (R288). -/
def execSleeveEnableClear (sl : Sleeve) (s : State) := command (fun s => s.regWrite fun s => s.slvOff sl) s

/-- ENABLE 0 to 1: a DISABLED link is DOWN and may start DETECT. -/
def State.slvOn (sl : Sleeve) (s : State) : State :=
  if !s.regServed 0 || (s.slv sl).enable then s
  else s.modSlv sl fun v => { v with enable := true, state := if v.state == .disabled then .down else v.state }

/-- SLEEVE_ENABLE_SET (R280). -/
def execSleeveEnableSet (sl : Sleeve) (s : State) := command (fun s => s.regWrite fun s => s.slvOn sl) s

/-- MAX_RATE takes a value other than 0; a change while UP starts a retrain. -/
def State.slvRate (sl : Sleeve) (rate : BitVec 2) (s : State) : State :=
  if !s.regServed 0 || rate = 0 || rate = (s.slv sl).maxRate then s
  else
    let s := s.modSlv sl fun v => { v with maxRate := rate }
    if (s.slv sl).state = .up then s.slvRetrain sl else s

/-- MAX_RATE_WRITE (R287). -/
def execMaxRateWrite (sl : Sleeve) (rate : BitVec 2) (s : State) := command (fun s => s.regWrite fun s => s.slvRate sl rate) s

/-- UNRETIRE written 1. -/
def State.slvUnretire (sl : Sleeve) (s : State) : State :=
  if s.regServed 0 then s.modSlv sl fun v => { v with unretire := true } else s

/-- UNRETIRE (R291). -/
def execUnretire (sl : Sleeve) (s : State) := command (fun s => s.regWrite fun s => s.slvUnretire sl) s

end Sys2Proof.Machine
end

