-- ==== Sys2Proof/Machine/Lining.lean ====
section
/-! DEFINITION. Lining's sensors and MALERT_N (R458, R459), its event log (R462), and the addresses of its SMBus and I3C port
(R459, R464). -/
namespace Sys2Proof.Machine

/-- Lining answers: its firmware runs, or the ROM serves an update because no slot verifies (R405, R411). -/
def State.liningRuns (s : State) : Bool :=
  (s.lin.firmware || s.boot.stage == .noImage) && s.boot.mode != .noPower && s.boot.mode != .off &&
    (s.dom .lin).state == .run

/-- The first n elements of a list, filled up with d. -/
def padTo {α : Type} (n : Nat) (d : α) (l : List α) : List α := (l ++ List.replicate n d).take n

/-! ## Sensors (R458, R459) -/

/-- The indices below n at which a reading has crossed its limit upwards. -/
def crossings (n : Nat) (was now : Nat → Bool) : List Nat := (List.range n).filter fun i => !was i && now i

/-- The sources a sample raises, given the sample before it (R441, R459). -/
def sampleSources (was : Lin) (r : Readings) : List Nat :=
  let temps := padTo 32 0 r.temps
  let amps := padTo 8 0 r.amps
  let droops := padTo 64 0 r.droops
  (crossings 32 (tempOver was.tempC) (tempOver temps)).map (128 + ·) ++
    (if tempFatal temps && !tempFatal was.tempC then [184] else []) ++
    (crossings 8 (railOver was.amps) (railOver amps)).map (176 + ·) ++
    ((List.range 64).filter fun i => decide (lget droops i 0 > 16)).map (192 + ·)

/-- The readings are stored; a sensor at its upper warning or above holds MALERT_N low (R459). -/
def State.sensed (s : State) (r : Readings) : State :=
  let temps := padTo 32 0 r.temps
  { s with lin := { s.lin with tempC := temps, volts := padTo 16 0 r.volts, amps := padTo 8 0 r.amps, power := r.power,
                               droops := padTo 64 0 r.droops, warn := temps.any (fun t => decide (t ≥ tMax - 100)) } }

/-- One sample; AON reports its own load whether Lining runs or not (R397). -/
def State.sample (r : Readings) (s : State) : State :=
  let s := if s.powered then { s with pwr := { s.pwr with aonLoad := satOfNat 8 r.aonLoad } } else s
  if s.liningRuns then (s.sensed r).forEach (sampleSources s.lin r) (fun n s => s.raise n (faultAt n)) else s

/-- SENSOR_SAMPLE (R397, R441, R458, R459). -/
def execSensorSample (r : Readings) (s : State) := command (State.sample r) s

/-- MALERT_N is driven low (R459). -/
def State.malert (s : State) : Bool := s.lin.warn || s.fc.errLow

/-! ## The event log -/

/-- EVENT_LOG_WRITE (R462). -/
def execEventLogWrite (s : State) := command (fun s => if s.liningRuns then s.logWriteNext else s) s

/-! ## SMBus and I3C addresses (R459, R464) -/

/-- The address on SMBus, and the static address on I3C. -/
def State.smbusAddr (s : State) : BitVec 7 := 0x58 + s.boot.addrSel.setWidth 7

/-- The two-wire bus is used as this binding: the first transaction after power-on reset fixes which (R464). -/
def State.busIs (s : State) (b : Binding) : Bool := s.lin.bus == none || s.lin.bus == some b

/-- The bus is fixed. -/
def State.busFix (s : State) (b : Binding) : State := { s with lin := { s.lin with bus := some b } }

/-- The Alert Response Address is read on SMBus while MALERT_N is low: the Y7 answers with its own address. -/
def State.araRead (s : State) : State :=
  if s.liningRuns && s.busIs .smbus && s.malert then (s.busFix .smbus).emit (.araAnswer s.smbusAddr) else s

/-- ALERT_RESPONSE_ADDRESS (R459). -/
def execAlertResponseAddress (s : State) := command State.araRead s

/-- SETDASA or ENTDAA gives the I3C target its dynamic address. -/
def State.daaSet (addr : BitVec 7) (s : State) : State :=
  if s.liningRuns && s.busIs .i3c then
    let s := s.busFix .i3c
    { s with lin := { s.lin with i3cAddr := some addr } }
  else s

/-- DYNAMIC_ADDRESS_ASSIGNMENT (R464). -/
def execDynamicAddressAssignment (addr : BitVec 7) (s : State) := command (State.daaSet addr) s

end Sys2Proof.Machine
end

