-- ==== Sys2Proof/Machine/Ageing.lean ====
section
/-! DEFINITION. Ageing (R477 to R484): equivalent stress, the monitor pairs, the wear ledger and the remaining-life forecast,
the margin plan's actions and their deferral, re-fits, and AGE_CTRL. -/
namespace Sys2Proof.Machine

/-- Change Lining. -/
def State.modLin (s : State) (f : Lin → Lin) : State := { s with lin := f s.lin }

/-! ## Equivalent stress (R478, R479) -/

/-- e^(n/d) in units of 10^-12, by 64 terms of the exponential series. -/
def expPico (n d : Nat) : Nat :=
  let x := n * 10 ^ 12 / d
  let step (acc : Nat × Nat) (k : Nat) : Nat × Nat :=
    let t := acc.2 * x / 10 ^ 12 / (k + 1)
    (acc.1 + t, t)
  ((List.range 64).foldl step (10 ^ 12, 10 ^ 12)).1

/-- AF of R479 at a junction temperature in tenths of a degree C, in millionths: with t tenths its exponent is
8,123.5 x 20 x ((2 t + 5,463) - 7,363) / (7,363 x (2 t + 5,463)) (log entry 36). -/
def stressAf (t : Int) : Nat :=
  let k := (2 * t + 5463).toNat
  if k = 0 then 0
  else if k ≥ 7363 then expPico (162470 * (k - 7363)) (7363 * k) / 10 ^ 6
  else 10 ^ 18 / expPico (162470 * (7363 - k)) (7363 * k)

/-- Band of 10 degrees C, from -5 degrees C, of a temperature (R478). -/
def tempBand (t : Int) : Nat := min 15 ((t + 50).toNat / 100)

/-- One minute of powered time at its mean highest die temperature. -/
def State.stressMinute (t : Int) (s : State) : State :=
  if !s.liningRuns then s
  else
    let e := 60 * stressAf t
    let v := s.lin.vddMv.toNat
    (s.wear fun d => { d with bands := lmod d.bands (tempBand t) (· + 1), vddSum := d.vddSum + v, minutes := d.minutes + 1,
                              stress := d.stress + e }).modLin fun l =>
      { l with stressUs := l.stressUs + e, poweredSec := l.poweredSec + 60 }

/-- EQUIVALENT_STRESS_MINUTE (R478, R479). -/
def execEquivalentStressMinute (tempTenths : Int) (s : State) := command (State.stressMinute tempTenths) s

/-! ## Margin actions (R481, R482) -/

/-- A MARGIN record (R461); an action taken counts in AGE_ACTIONS. -/
def State.margin (s : State) (action lane which measured setting : Nat) (taken : Bool) : State :=
  let s := s.log 0x0A action (leBytes 1 lane ++ leBytes 1 which ++ zeros 2 ++ leBytes 4 measured ++ leBytes 4 setting)
  if taken then s.modLin fun l => { l with actions := satInc l.actions } else s

/-- The forecast takes a value; below 365 days it sets source 305 (R480). -/
def State.forecast (s : State) (days : Nat) (limiter : Byte) : State :=
  let s := s.modLin fun l => { l with lifeDays := satOfNat 16 days, limiter := limiter }
  if days < 365 then s.raise 305 faultPlain else s

/-- Action 0x01 for a pair: the setpoint rises by 8 mV, at most to 0.85 V, in AVS steps of at most 5 mV; at 0.85 V the
forecast becomes 0 days (R481, R482). -/
def State.raiseVdd (s : State) (pair : Nat) (drift : Nat) : State :=
  let v := s.lin.vddMv.toNat
  if v ≥ 850 then (s.modLin fun l => { l with worn := true }).forecast 0 (BitVec.ofNat 8 pair)
  else
    let new := min 850 (v + 8)
    let s := s.modLin fun l => { l with vddMv := BitVec.ofNat 10 new, refitDays := l.refitDays ++ [l.days + 7] }
    let s := s.emits ((if v + 5 < new then [.avs (v + 5)] else []) ++ [.avs new])
    s.margin 0x01 pair 0 drift new true

/-- Consecutive low measurements of a Sleeve's lanes. -/
def Lin.eyeLow (l : Lin) : Sleeve → List Nat
  | .a => l.eyeLowA
  | .b => l.eyeLowB

/-- Replace them. -/
def Lin.setEyeLow (l : Lin) (sl : Sleeve) (x : List Nat) : Lin :=
  match sl with
  | .a => { l with eyeLowA := x }
  | .b => { l with eyeLowB := x }

/-- Action 0x02: new start coefficients for a lane and rate, whose values the equalization finds (a free value; log entry 37).
Ports: 0 host, 1 Sleeve A, 2 Sleeve B. -/
def State.storeCoef (s : State) (port lane rate measured : Nat) : State :=
  let v := Config.freeValue s.freeIdx
  let s := { s with freeIdx := s.freeIdx + 1 }
  let s := s.modLin fun l => { l with eq := tput l.eq (eqKey port rate lane) (v.setWidth 32) }
  s.margin 0x02 lane rate measured (v.toNat % 2 ^ 32) true

/-- Action 0x02 for a lane of a Sleeve: its daily EYE measurements count afresh. -/
def State.storeSleeve (s : State) (sl : Sleeve) (lane measured : Nat) : State :=
  (s.storeCoef (sl.num + 1) lane (s.slv sl).rate.toNat measured).modLin fun l =>
    l.setEyeLow sl (lmod (l.eyeLow sl) lane fun _ => 0)

/-- Rate that the margin plan allows a Sleeve. -/
def Lin.planRate (l : Lin) : Sleeve → BitVec 2
  | .a => l.slaRate
  | .b => l.slbRate

/-- Take one step off it. -/
def Lin.derate (l : Lin) (sl : Sleeve) : Lin :=
  match sl with
  | .a => { l with slaRate := l.slaRate - 1, clearA := false }
  | .b => { l with slbRate := l.slbRate - 1, clearB := false }

/-- Deferred actions of a Sleeve: action and lane. -/
def Lin.deferred (l : Lin) : Sleeve → List (Nat × Nat)
  | .a => l.deferA
  | .b => l.deferB

/-- Replace them. -/
def Lin.setDeferred (l : Lin) (sl : Sleeve) (x : List (Nat × Nat)) : Lin :=
  match sl with
  | .a => { l with deferA := x }
  | .b => { l with deferB := x }

/-- Take action 0x03 or 0x04 on a Sleeve (R287, R291, R481). -/
def State.marginTake (s : State) (sl : Sleeve) (a : Nat × Nat) (measured : Nat) : State :=
  if a.1 = 3 then (s.margin 0x03 a.2 sl.num measured 0 true).slvRetire sl a.2
  else if (s.lin.planRate sl).toNat ≤ 1 then s
  else
    let s := s.modLin fun l => l.derate sl
    let s := (s.margin 0x04 0 sl.num measured (s.lin.planRate sl).toNat true).raise 304 faultPlain
    s.slvRetrain sl

/-- A trigger of action 0x03 or 0x04: taken while the other Sleeve is UP, else deferred; with its AUTO bit 0 only logged, and
the source set (R482). -/
def State.marginTrigger (s : State) (sl : Sleeve) (a : Nat × Nat) (measured : Nat) : State :=
  let auto := if a.1 = 3 then s.lin.autoRetire else s.lin.autoDerate
  if !auto then
    let s := s.margin a.1 a.2 sl.num measured 0 false
    if a.1 = 4 then s.raise 304 faultPlain else s
  else if s.slvUp sl.other then s.marginTake sl a measured
  else if (s.lin.deferred sl).contains a then s
  else s.modLin fun l => l.setDeferred sl (l.deferred sl ++ [a])

/-- EYE of a lane, in 0.1 mV. -/
def State.eyeOf (s : State) (sl : Sleeve) (lane : Nat) : Nat := (lget (s.slv sl).eye lane 0).toNat

/-- The deferred actions of a Sleeve are taken: the other Sleeve has come UP, or 24 h have passed (R482). -/
def State.deferEnd (sl : Sleeve) (s : State) : State :=
  let l := s.lin.deferred sl
  let s := s.modLin fun x => x.setDeferred sl []
  s.forEach l fun a s => s.marginTake sl a (s.eyeOf sl a.2)

/-- MARGIN_DEFER_EXPIRY (R482). -/
def execMarginDeferExpiry (sl : Sleeve) (s : State) := command (State.deferEnd sl) s

/-! ## Pair measurement (R477) -/

/-- The action that a crossing of pair i calls for (R481): 0x01 for core and SRAM pairs, 0x02 for the lanes of a PHY pair. -/
def State.pairCrossed (s : State) (i drift : Nat) : State :=
  if i ≤ 19 then s.raiseVdd i drift
  else if i ≤ 27 then
    (s.storeCoef 0 (2 * (i - 20)) s.link.rate drift).storeCoef 0 (2 * (i - 20) + 1) s.link.rate drift
  else if i ≤ 35 then s.storeSleeve .a (i - 28) drift
  else if i ≤ 43 then s.storeSleeve .b (i - 36) drift
  else s

/-- Pair i has been measured: each whole percent crossed since the last plan sets its source and calls for its action. -/
def State.pairMeasured (drifts : List Nat) (i : Nat) (s : State) : State :=
  let d := lget drifts i 0
  let was := lget s.lin.planned i 0
  let s := s.modLin fun l =>
    { l with toMeasure := l.toMeasure.filter (· != i), meas := l.meas + 1, drift := lmod l.drift i (fun _ => satOfNat 16 d),
             ageAt := lmod l.ageAt i (fun _ => l.poweredSec), planned := lmod l.planned i (max (d / 100)) }
  s.forEach (List.range (d / 100 - was)) fun _ s => (s.raise (256 + i) faultPlain).pairCrossed i d

/-- The pairs that wait and whose domain is in Run are measured. -/
def State.measure (drifts : List Nat) (s : State) : State :=
  if s.liningRuns then
    s.forEach (s.lin.toMeasure.filter fun i => (s.dom (pairDomain i)).state == .run) (State.pairMeasured drifts)
  else s

/-- AGE_MEASUREMENT (R477, R481). -/
def execAgeMeasurement (drifts : List Nat) (s : State) := command (State.measure drifts) s

/-- A measurement of every pair starts. -/
def State.measureAll (s : State) : State := s.modLin fun l => { l with toMeasure := List.range 48 }

/-- MEASURE_NOW, written by PF0 to AGE_CTRL (R477, R484). -/
def execMeasureNow (s : State) := command (fun s => s.regWrite State.measureAll) s

/-- CLEAR_DERATE: actions 0x04 and 0x05 end at the next link-up (R481). -/
def State.derateClear (s : State) : State := s.modLin fun l => { l with clearA := true, clearB := true, clearHost := true }

/-- CLEAR_DERATE, written by PF0 to AGE_CTRL (R481, R484). -/
def execClearDerate (s : State) := command (fun s => s.regWrite State.derateClear) s

/-! ## EYE (R481) -/

/-- The eyes of a Sleeve's lanes are measured while it is UP; an inactive lane shows 0 (SLA_LANE_MARGIN). -/
def State.eyesIn (sl : Sleeve) (eyes : List Nat) (s : State) : State :=
  if (s.slv sl).state ≠ .up then s
  else s.modSlv sl fun v =>
    { v with eye := (List.range 8).map fun i => if v.rxActive i then satOfNat 16 (lget eyes i 0) else 0 }

/-- EYE_MEASUREMENT (R481). -/
def execEyeMeasurement (sl : Sleeve) (eyes : List Nat) (s : State) := command (State.eyesIn sl eyes) s

/-- Insert into a rising list. -/
def insertNat (x : Nat) : List Nat → List Nat
  | [] => [x]
  | y :: r => if x ≤ y then x :: y :: r else y :: insertNat x r

/-- Twice the median of a list. -/
def median2 (l : List Nat) : Nat :=
  let r := l.foldl (fun acc x => insertNat x acc) []
  lget r (r.length / 2) 0 + lget r ((r.length - 1) / 2) 0

/-- Active receive lanes whose EYE has been measured. -/
def State.eyeLanes (s : State) (sl : Sleeve) : List Nat :=
  (List.range 8).filter fun i => (s.slv sl).rxActive i && s.eyeOf sl i != 0

/-- Fewer than 6 lanes of a Sleeve are left unretired in a direction (R481). -/
def Slv.fewLanes (v : Slv) : Bool := decide (laneCount v.retiredRx > 2) || decide (laneCount v.retiredTx > 2)

/-- The Sleeve had fewer than 6 such lanes at the last evaluation. -/
def Lin.few (l : Lin) : Sleeve → Bool
  | .a => l.fewA
  | .b => l.fewB

/-- Record it. -/
def Lin.setFew (l : Lin) (sl : Sleeve) (x : Bool) : Lin :=
  match sl with
  | .a => { l with fewA := x }
  | .b => { l with fewB := x }

/-- The daily evaluation of one lane's EYE: action 0x03 after three low measurements in a row (R481). -/
def State.eyeDaily (sl : Sleeve) (lane : Nat) (s : State) : State :=
  let e := s.eyeOf sl lane
  let n := if e < 120 then lget (s.lin.eyeLow sl) lane 0 + 1 else 0
  let s := s.modLin fun l => l.setEyeLow sl (lmod (l.eyeLow sl) lane fun _ => n)
  if n ≥ 3 then s.marginTrigger sl (3, lane) e else s

/-- The daily evaluation of a Sleeve: its lanes, then its rate (R481). -/
def State.sleeveDaily (sl : Sleeve) (s : State) : State :=
  let lanes := s.eyeLanes sl
  let m := median2 (lanes.map (s.eyeOf sl))
  let s := if (s.slv sl).state = .up then s.forEach lanes (State.eyeDaily sl) else s
  let few := (s.slv sl).fewLanes
  let due := (!lanes.isEmpty && decide (m < 400)) || (few && !s.lin.few sl)
  let s := s.modLin fun l => l.setFew sl few
  if due then s.marginTrigger sl (4, 0) (m / 2) else s

/-! ## The ledger day (R478, R480, R481, R483) -/

/-- Equivalent stress that the service life of 219,150 h holds, in us (R479). -/
def lifeStress : Nat := 219150 * 3600 * 10 ^ 6

/-- The stress figure of R480, in days: what is left over the mean stress of the last 90 ledger days. -/
def State.stressFigure (s : State) : Nat :=
  let last := s.lin.ledger.drop (s.lin.ledger.length - 90)
  let sum := (last.map (·.wear.stress)).foldl (· + ·) 0
  if sum = 0 then 65535 else (lifeStress - s.lin.stressUs) * last.length / sum

/-- The day's record: the newest of at most 12,288 (R478). -/
def State.ledgerWrite (s : State) : State :=
  s.modLin fun l =>
    let r : DayRec := { day := l.days + 1, drift := l.drift, wear := l.today }
    let all := l.ledger ++ [r]
    { l with days := l.days + 1, today := DayWear.none, ledger := all.drop (all.length - 12288) }

/-- The drift figure of a pair (R480): the days left until the fit over its ledger records reaches 8.00 %. -/
def State.driftFigure (s : State) (i : Nat) : Nat :=
  Config.driftFit (s.lin.ledger.map fun r => (r.day, (lget r.drift i 0).toNat)) - s.lin.days

/-- The pair whose drift figure is least, and that figure. -/
def State.driftLeast (s : State) : Nat × Nat :=
  (List.range 48).foldl (fun best i => if s.driftFigure i < best.2 then (i, s.driftFigure i) else best) (0, s.driftFigure 0)

/-- The daily forecast: the lesser of the stress figure and the drift figure (R480, R482). -/
def State.lifeDaily (s : State) : State :=
  let st := s.stressFigure
  let d := s.driftLeast
  if s.lin.worn then s.forecast 0 s.lin.limiter
  else if d.2 < st then s.forecast d.2 (BitVec.ofNat 8 d.1)
  else s.forecast st 0xFF

/-- The indices of R372 that hold a coefficient. -/
def coefIdxs : List Nat :=
  List.range 0x07 ++ (List.range 0x13).map (· + 0x08) ++ (List.range 0x0B).map (· + 0x20)

/-- Every coefficient of a re-fitted set lies within 25 % of its test value (R483). -/
def coefsNear (set : Nat) : Bool :=
  coefIdxs.all fun i =>
    let t := (Config.coefCalibrated i).toNat
    let c := (Config.coefRefit set i).toNat
    decide (4 * c ≤ 5 * t) && decide (3 * t ≤ 4 * c)

/-- Action 0x06: the re-fit is accepted and waits for the planning epoch, or is rejected (R373, R483). -/
def State.refit (residualBelow : Bool) (s : State) : State :=
  let gen := s.el.coefGen.toNat
  let good := residualBelow && coefsNear (s.el.coefSet + 1)
  let s := s.margin 0x06 0 0 0 (if good then gen + 1 else gen) true
  if good then { s with el := { s.el with coefPending := true } }
  else (s.log 0x0B 0x02 (leBytes 2 gen)).raise 708 faultPlain

/-- The thirty-day evaluation of the host port's margin at 128.0 GT/s: action 0x05 after three low measurements (R481). -/
def State.hostDaily (m : Option Nat) (s : State) : State :=
  match m with
  | none => s
  | some m =>
    let n := if m < 50 then s.lin.hostLow + 1 else 0
    let s := s.modLin fun l => { l with hostLow := n }
    if n < 3 || s.lin.host128 then s
    else
      let s := (s.margin 0x05 0 7 m 6 s.lin.autoDerate).raise 304 faultPlain
      if s.lin.autoDerate then s.modLin fun l => { l with host128 := true, clearHost := false } else s

/-- Action 0x02 for every lane of the ports that are up (R481). -/
def State.storeAll (s : State) : State :=
  let s := if s.link.state = .down then s
    else s.forEach (List.range s.link.trained) fun i s => s.storeCoef 0 i s.link.rate 0
  let s := if s.slvUp .a then s.forEach (List.range 8) fun i s => s.storeSleeve .a i (s.eyeOf .a i) else s
  if s.slvUp .b then s.forEach (List.range 8) fun i s => s.storeSleeve .b i (s.eyeOf .b i) else s

/-- What every thirtieth ledger day adds (R480, R481). -/
def State.thirtyDays (d : DayFigures) (s : State) : State :=
  let s := s.log 0x0C 0 (leBytes 2 s.lin.lifeDays.toNat ++ leBytes 1 s.lin.limiter.toNat)
  (s.hostDaily d.hostMargin).storeAll

/-- A ledger day ends. -/
def State.dayEnd (d : DayFigures) (s : State) : State :=
  if !s.liningRuns then s
  else
    let s := s.ledgerWrite.lifeDaily.sleeveDaily .a |>.sleeveDaily .b
    let month := s.lin.days % 30 == 0
    let due := month || s.lin.refitDays.contains s.lin.days
    let s := if month then s.thirtyDays d else s
    let s := s.modLin fun l => { l with refitDays := l.refitDays.filter (fun x => decide (x > l.days)) }
    let s := if due then s.refit d.residualBelow else s
    s.measureAll

/-- LEDGER_DAY (R477 to R483). -/
def execLedgerDay (d : DayFigures) (s : State) := command (State.dayEnd d) s

end Sys2Proof.Machine
end

