-- ==== Sys2Proof/Machine/Attest.lean ====
section
/-! DEFINITION. SPDM on PF0's DOE mailbox (R425 to R427): Lining is the responder. The response codes and the order of their
fields are those of DMTF DSP0274, which the manual names and does not print (log entry 24). -/
namespace Sys2Proof.Machine

/-! ## SPDM (R425 to R427) -/

/-- Answer a message of SPDM where the mailbox is served. -/
def State.spdmDo (f : State → State) (s : State) : State := if s.pf0Live then f s else s

/-- An SPDM ERROR answer with an error code. -/
def State.spdmError (s : State) (code : Nat) : State := s.doeAnswer ([0x7F] ++ leBytes 1 code ++ [0])

/-- Blocks 1 to 5 (R427): the boot ROM and the running image. -/
def State.imageBlock (s : State) (i : Nat) : Bytes :=
  if i = 1 then Config.romDigest else Config.measurement i s.runningBuild.toNat

/-- The certificate chain of slot 0 (R426): the Alias certificate is the boot's own and carries measurements 1 to 5. -/
def State.chain (s : State) : Bytes :=
  Config.certChain (s.boot.ident.deviceId.getD []) (s.boot.ident.aliasKey.getD [])
    ((List.range 5).map fun i => s.imageBlock (i + 1))

/-- The signature of the leaf, the Alias key (R426). -/
def State.signed (s : State) (msg : Bytes) : Bytes := Config.aliasSign (s.boot.ident.aliasKey.getD []) msg

/-- The configuration region of MRAM that the manual names (R434, R441, R456, R467), in an order of the model's own: its digest
alone is measured. -/
def State.mramConfig (s : State) : Bytes :=
  leBytes 2 s.lin.subsysId.toNat ++ (s.lin.reactOverrides.map fun p => leBytes 2 p.1 ++ [p.2]).flatten ++
    [BitVec.ofNat 8 (b2n s.lin.anchorA), BitVec.ofNat 8 (b2n s.lin.anchorB)] ++
      leBytes 4 s.el.opCap ++ leBytes 4 s.el.opWindow

/-- GET_CERTIFICATE: a portion of the chain and how much remains. -/
def State.certificate (slot off len : Nat) (s : State) : State :=
  let c := s.chain
  if slot ≠ 0 || off > c.length then s.spdmError 0x01
  else
    let part := (c.drop off).take len
    s.doeAnswer ([0x02, 0] ++ leBytes 2 part.length ++ leBytes 2 (c.length - off - part.length) ++ part)

/-- SPDM_GET_CERTIFICATE (R426). -/
def execSpdmGetCertificate (slot off len : Nat) (s : State) := command (State.spdmDo (State.certificate slot off len)) s

/-- CHALLENGE: CHALLENGE_AUTH with a nonce, signed by the Alias key. -/
def State.challenge (slot : Nat) (nonce : Bytes) (s : State) : State :=
  if slot ≠ 0 then s.spdmError 0x01
  else
    let n := s.nonce
    n.2.doeAnswer ([0x03, 0] ++ n.1 ++ s.signed (fit 32 nonce ++ n.1))

/-- SPDM_CHALLENGE (R426). -/
def execSpdmChallenge (slot : Nat) (nonce : Bytes) (s : State) := command (State.spdmDo (State.challenge slot nonce)) s

/-- Measurement block i (R427): block 6 raw, block 7 the MRAM configuration, block 8 the full Yasil table, the others of the
boot. -/
def State.measurementBlock (s : State) (i : Nat) : Bytes :=
  if i = 6 then
    leBytes 2 (s.boot.bootFuses ||| b2n s.boot.fieldLock <<< 7 ||| b2n s.boot.bootSel <<< 8 ||| b2n s.boot.fallback <<< 9)
  else if i = 7 then Config.sha384 s.mramConfig
  else if i = 8 then Config.sha384 (s.yasil 0)
  else s.imageBlock i

/-- A block with its index and size. -/
def State.measurementEntry (s : State) (i : Nat) : Bytes :=
  let b := s.measurementBlock i
  leBytes 1 i ++ leBytes 2 b.length ++ b

/-- GET_MEASUREMENTS: index 0 asks for the number of blocks, 0xFF for all of them. -/
def State.measurements (index : Nat) (s : State) : State :=
  if index > 8 && index ≠ 0xFF then s.spdmError 0x01
  else
    let body :=
      if index = 0 then [0x08]
      else if index = 0xFF then ((List.range 8).map fun i => s.measurementEntry (i + 1)).flatten
      else s.measurementEntry index
    let n := s.nonce
    n.2.doeAnswer ([0x60] ++ body ++ n.1 ++ s.signed (body ++ n.1))

/-- SPDM_GET_MEASUREMENTS (R427). -/
def execSpdmGetMeasurements (index : Nat) (s : State) := command (State.spdmDo (State.measurements index)) s

/-- KEY_EXCHANGE: one of 4 sessions; a fifth gets SessionLimitExceeded (R425). -/
def State.keyExchange (s : State) : State :=
  if s.prov.spdm.length ≥ 4 then s.spdmError 0x0A
  else
    let id := smallestFree s.prov.spdm
    let s := { s with prov := { s.prov with spdm := s.prov.spdm ++ [id] } }
    let n := s.nonce
    n.2.doeAnswer ([0x64] ++ leBytes 2 id ++ n.1 ++ s.signed n.1)

/-- SPDM_KEY_EXCHANGE (R425). -/
def execSpdmKeyExchange (s : State) := command (State.spdmDo State.keyExchange) s

/-- SPDM_KEY_UPDATE (R425). -/
def execSpdmKeyUpdate (sess : Nat) (s : State) :=
  command (State.spdmDo fun s => if s.prov.spdm.contains sess then s.doeAnswer [0x69] else s.spdmError 0x02) s

/-- A session ends and frees its place. -/
def State.sessionEnd (sess : Nat) (s : State) : State :=
  if s.prov.spdm.contains sess then
    ({ s with prov := { s.prov with spdm := s.prov.spdm.filter (· != sess) } }).doeAnswer [0x6C]
  else s

/-- SPDM_SESSION_END (R425). -/
def execSpdmSessionEnd (sess : Nat) (s : State) := command (State.spdmDo (State.sessionEnd sess)) s

end Sys2Proof.Machine
end

