-- ==== Sys2Proof/Machine/TpMessage.lean ====
section
/-! DEFINITION. The transport's messages and timers (R300, R305 to R309, R315 to R323): GRANT, ACK, NAK, EPOCH, WANT and
RETIRE as they arrive, resend and write timeouts, retirement, silence, flowlet boundaries. -/
namespace Sys2Proof.Machine

/-- A transport message arrives on an UP Sleeve; one that fails R306 is discarded and counted. -/
def State.onMessage (s : State) (sl : Sleeve) (m : TMsg) (needDst : Bool) (f : State → State) : State :=
  if !s.slvUp sl then s
  else
    let s := s.crossed sl
    match s.tpAccept m needDst with
    | none => s.tpStale
    | some s => f s

/-! ## Windows (R307, R308, R310) -/

/-- A GRANT's LIMIT is cumulative: it never falls. -/
def State.grantIn (s : State) (k : Nat) (limit : W32) : State :=
  match tget s.tp.tx k with
  | none => s
  | some f =>
    if f.silent || (f.granted && decide ((limit - f.limit).toInt ≤ 0)) then s
    else (s.modFlow k fun f => { f with granted := true, limit := limit }).pumpFlow k

/-- A GRANT arrives. -/
def State.onGrant (sl : Sleeve) (m : TMsg) (limit : W32) (s : State) : State :=
  s.onMessage sl m true fun s => s.grantIn (flowKey m.src m.vc) limit

/-- GRANT (R307). -/
def execGrant (sl : Sleeve) (m : TMsg) (limit : W32) (s : State) := command (State.onGrant sl m limit) s

/-- Receive state of a new incarnation. -/
def RxFlow.fresh (sl : Sleeve) (now : Nat) : RxFlow :=
  { expect := 0, drained := 0, limit := 0, lastLimit := none, acked := none, waiting := [], refused := [], sleeve := sl,
    fn := none, lastAt := now, seenAt := now }

/-- Create receive state, in place of an earlier incarnation's; its first GRANT goes out as soon as the caps leave room (R308,
R310, R366). -/
def State.newRx (s : State) (sl : Sleeve) (k : Nat) : State :=
  let s := s.cutRx k
  ({ s with tp := { s.tp with rx := tput s.tp.rx k (RxFlow.fresh sl s.clk.localCount) } }).regrant k

/-- The receive state idle longest, if idle for 2 ms (R308). -/
def State.idlestRx (s : State) : Option (Nat × RxFlow) :=
  s.tp.rx.foldl (fun (b : Option (Nat × RxFlow)) x =>
    if decide (s.clk.localCount < x.2.seenAt + 2000000) then b
    else
      match b with
      | none => some x
      | some y => if decide (x.2.seenAt < y.2.seenAt) then some x else b) none

/-- Retire receive state and tell its source (R308, R309). -/
def State.announceRetire (s : State) (k : Nat) (r : RxFlow) : State := (s.retireRx k).sendRetire (k / 8) (k % 8) r.sleeve r.fn

/-- A WANT asks for a window (R308); while the first GRANT waits for room there is none to repeat. -/
def State.wantIn (s : State) (sl : Sleeve) (k : Nat) : State :=
  match tget s.tp.rx k with
  | some r =>
    if s.clk.localCount ≥ r.lastAt + 2000000 then s.newRx sl k
    else
      let r := { r with sleeve := sl }
      let s := s.modRx k fun _ => r
      if r.lastLimit.isSome then s.sendGrant k r else s
  | none =>
    if s.tp.rx.length < 16384 then s.newRx sl k
    else
      match s.idlestRx with
      | some (k', r) => (s.announceRetire k' r).newRx sl k
      | none => s.tpNoState

/-- A WANT arrives. -/
def State.onWant (sl : Sleeve) (m : TMsg) (s : State) : State :=
  s.onMessage sl m false fun s => s.wantIn sl (flowKey m.src m.vc)

/-- WANT (R308). -/
def execWant (sl : Sleeve) (m : TMsg) (s : State) := command (State.onWant sl m) s

/-- WANT_REPEAT (R307). -/
def execWantRepeat (node vc : Nat) (s : State) :=
  command (fun s =>
    match tget s.tp.tx (flowKey node vc) with
    | some f =>
      if f.granted || f.silent then s else s.sendWant (flowKey node vc) f
    | none => s) s

/-! ## Answers (R316) -/

/-- The sequence is that of a packet which a write timeout has ended (R316). -/
def TxFlow.endedAt (f : TxFlow) (seq : BitVec 24) : Bool :=
  match f.ended with
  | none => false
  | some (first, n) => decide ((seq - first).toNat < n)

/-- An answer for a flow of ours: late after its packet's write timeout, ignored unless valid. -/
def State.onAnswer (s : State) (k : Nat) (seq : BitVec 24) (f : State → State) : State :=
  match tget s.tp.tx k with
  | none => s
  | some x => if x.endedAt seq then s.tpLate else if !x.silent && x.answers seq then f s else s

/-- An ACK arrives. -/
def State.onAck (sl : Sleeve) (m : TMsg) (seq : BitVec 24) (s : State) : State :=
  s.onMessage sl m true fun s => s.onAnswer (flowKey m.src m.vc) seq fun s => s.ackUpTo (flowKey m.src m.vc) seq

/-- ACK (R316). -/
def execAck (sl : Sleeve) (m : TMsg) (seq : BitVec 24) (s : State) := command (State.onAck sl m seq) s

/-- A NAK arrives. -/
def State.onNak (sl : Sleeve) (m : TMsg) (seq : BitVec 24) (status : Byte) (s : State) : State :=
  s.onMessage sl m true fun s =>
    s.onAnswer (flowKey m.src m.vc) seq fun s => s.nakAt (flowKey m.src m.vc) seq status.toNat

/-- NAK (R316). -/
def execNak (sl : Sleeve) (m : TMsg) (seq : BitVec 24) (status : Byte) (s : State) := command (State.onNak sl m seq status) s

/-! ## Node epochs (R322, R323) -/

/-- An EPOCH message (R306, R323). -/
def State.epochIn (src : Nat) (epoch : W16) (s : State) : State :=
  if s.epochOlder src epoch then s.tpStale else s.noteEpoch src epoch

/-- EPOCH (R323). -/
def execEpochMsg (src : Nat) (epoch : W16) (s : State) := command (State.epochIn src epoch) s

/-- EPOCH_PERIODIC (R322, R341). -/
def execEpochPeriodic (s : State) := command (fun s => s.announceEpoch) s

/-! ## Send state ends (R300, R309, R317, R318) -/

/-- Send state goes; what still waits on the flow opens a new incarnation. -/
def State.dropFlow (s : State) (k : Nat) : State :=
  match tget s.tp.tx k with
  | none => s
  | some f =>
    if !f.queue.isEmpty || !f.kept.isEmpty || s.flowPending k then s.reviveFlow k
    else ({ s with tp := { s.tp with tx := tdel s.tp.tx k } }).startWaiting

/-- SEND_STATE_RETIRE (R300). -/
def execSendStateRetire (node vc : Nat) (s : State) :=
  command (fun s =>
    match tget s.tp.tx (flowKey node vc) with
    | some f => if f.silent || !f.unacked.isEmpty then s else s.dropFlow (flowKey node vc)
    | none => s) s

/-- FLOW_SILENCE_END (R309, R318). -/
def execFlowSilenceEnd (node vc : Nat) (s : State) :=
  command (fun s =>
    match tget s.tp.tx (flowKey node vc) with
    | some f => if f.silent && !f.wait then s.dropFlow (flowKey node vc) else s
    | none => s) s

/-- A staged unit whose packet is kept across a RETIRE is to be emitted anew (R309). -/
def State.restage (s : State) (n : Nat) : State :=
  let s := (s.ungrant n).modUnit n fun u => { u with emitted := false, resend := false }
  let s := match (tget s.units n).map (·.owner) with
    | some (.aptWrite a) => s.modApt a fun x => { x with unack := x.unack - 1 }
    | _ => s
  s.arriveUnit n

/-- A RETIRE for a flow with send state (R309). -/
def State.retireIn (s : State) (k : Nat) (e : BitVec 24) : State :=
  match tget s.tp.tx k with
  | none => s
  | some f =>
    if f.silent then s
    else
      let before (t : TxPkt) : Bool := decide (1 ≤ (e - t.seq).toNat) && decide ((e - t.seq).toNat < 2 ^ 23)
      let lost := e == 0xFFFFFF
      let done := f.unacked.filter fun t => lost || before t
      let rest := f.unacked.filter fun t => !lost && !before t
      let kept := rest.map fun t => { t with again := false, resent := false, sampled := false }
      let gone (a : Await) : Bool := flowKey a.node a.vc == k && kept.any fun t => t.seq == a.seq
      let s := { s with tp := { s.tp with awaits := s.tp.awaits.filter fun a => !gone a } }
      let s := if lost then s else done.foldl (fun s t => s.ccSample k t) s
      let s := s.modFlow k fun f => { f with unacked := [], kept := kept ++ f.kept, granted := false }
      let s := done.foldl (fun s t => s.endPkt t (if lost then .timeout else .success)) s
      let s := (kept.filterMap (·.xunit)).foldl State.restage s
      s.silence k

/-- A RETIRE arrives. -/
def State.onRetire (sl : Sleeve) (m : TMsg) (e : BitVec 24) (s : State) : State :=
  s.onMessage sl m true fun s => s.retireIn (flowKey m.src m.vc) e

/-- RETIRE (R309). -/
def execRetire (sl : Sleeve) (m : TMsg) (e : BitVec 24) (s : State) := command (State.onRetire sl m e) s

/-- The resend timer of a flow expires (R317). -/
def State.resendExpired (k : Nat) (s : State) : State :=
  match tget s.tp.tx k with
  | none => s
  | some f =>
    if f.silent || f.unacked.isEmpty then s else (s.modFlow k fun f => { f with cwnd := 17 * 256 }).resendFlow k

/-- RESEND_TIMER (R317). -/
def execResendTimer (node vc : Nat) (s : State) := command (State.resendExpired (flowKey node vc)) s

/-- A flow has packets, emitted or waiting. -/
def State.flowHolds (s : State) (k : Nat) (f : TxFlow) : Bool :=
  !f.unacked.isEmpty || !f.queue.isEmpty || !f.kept.isEmpty || !(s.flowUnits k).isEmpty

/-- The GET unit of a flow whose answer has been awaited longest. -/
def State.getDue (s : State) (k : Nat) : Option Await :=
  s.tp.awaits.find? fun a => flowKey a.node a.vc == k && match a.owner with
    | .get _ _ _ => true
    | _ => false

/-- Local count from which the oldest write timeout of a flow runs (R318). -/
def State.oldestTimer (s : State) (k : Nat) (f : TxFlow) : Option Nat :=
  let pkts := (f.unacked ++ f.kept ++ f.queue).map (·.firstAt)
  let units := (s.flowUnits k).filterMap fun n => (tget s.units n).map (·.arrived)
  match pkts ++ units with
  | [] => none
  | t :: l => some (l.foldl min t)

/-- The response timer of the oldest GET unit of a flow. -/
def State.getExpired (s : State) (k : Nat) : State :=
  match s.getDue k with
  | some a =>
    match a.owner with
    | .get q i _ => (s.dropAwait a.owner).qpError q (some i) csRemoteTimeout
    | _ => s
  | none => s

/-- The timer of the oldest GET runs out before any write timeout of the flow. -/
def State.getFirst (s : State) (k : Nat) (f : TxFlow) : Bool :=
  match s.getDue k, s.oldestTimer k f with
  | some a, some t => decide (a.sentAt < t)
  | _, _ => false

/-- Every packet of a flow ends with the outcome of a write timeout, and its send state goes (R318). -/
def State.flowExpired (s : State) (k : Nat) (f : TxFlow) : State :=
  let ended := f.unacked.head?.map fun t => (t.seq, f.unacked.length)
  let s := s.endFlow k .timeout
  if f.wait then
    if ((tget s.tp.tx k).map (s.flowHolds k)).getD true then s else { s with tp := { s.tp with tx := tdel s.tp.tx k } }
  else (s.modFlow k fun f => { f with ended := ended.or f.ended }).silence k

/-- A write timeout on a flow ends everything on it; where the answer of a GET has been awaited longer, that GET times out
(R176, R318). -/
def State.writeExpired (k : Nat) (s : State) : State :=
  match tget s.tp.tx k with
  | none => s.getExpired k
  | some f => if s.flowHolds k f && !s.getFirst k f then s.flowExpired k f else s.getExpired k

/-- WRITE_TIMEOUT (R176, R318). -/
def execWriteTimeout (node vc : Nat) (s : State) := command (State.writeExpired (flowKey node vc)) s

/-! ## Receive state ends (R300, R309, R315) -/

/-- RECEIVE_STATE_RETIRE (R300, R309). -/
def execReceiveStateRetire (node vc : Nat) (s : State) := command (fun s => (s.retireRx (flowKey node vc)).regrantAll) s

/-- RETIREMENT_RECORD_EXPIRY (R309). -/
def execRetirementRecordExpiry (node vc : Nat) (s : State) :=
  command (fun s => { s with tp := { s.tp with retired := s.tp.retired.filter fun p => p.1 != flowKey node vc } }) s

/-- REFUSAL_RECORD_EXPIRY (R315). -/
def execRefusalRecordExpiry (node vc : Nat) (seq : BitVec 24) (s : State) :=
  command (fun s => s.modRx (flowKey node vc) fun r => { r with refused := r.refused.filter fun x => x.seq != seq }) s

/-! ## Flowlets (R321) -/

/-- A held flow's UNACKED is empty: it moves to the other Sleeve, and its granted units request there; the hold ends without
a move where that Sleeve is UP no more. -/
def State.flowlet (k : Nat) (s : State) : State :=
  match tget s.tp.tx k with
  | none => s
  | some f =>
    match f.hold with
    | none => s
    | some sl =>
      if !f.unacked.isEmpty then s
      else if !s.slvUp sl then (s.modFlow k fun f => { f with hold := none }).pumpFlow k
      else
        let s := s.modFlow k fun f => { f with sleeve := sl, hold := none }
        let s := (s.flowUnits k).foldl State.ungrant s
        ({ s with plc := { s.plc with slvMove := s.plc.slvMove + 1 } }).pumpFlow k

/-- FLOWLET_BOUNDARY (R321, R362). -/
def execFlowletBoundary (node vc : Nat) (s : State) := command (State.flowlet (flowKey node vc)) s

end Sys2Proof.Machine
end

