-- ==== Sys2Proof/Machine/Belt.lean ====
section
/-! DEFINITION. The Belt ring (R326 to R342): lock, flits and their forwarding, ROUTE, TIME and ENUM messages, the bypass
and the summary frame. -/
namespace Sys2Proof.Machine

/-- Change the Belt port. -/
def State.modBelt (s : State) (g : Belt → Belt) : State := { s with belt := g s.belt }

/-! ## Lock (R328, R334, R335) -/

/-- The receiver locks, and the bypass opens if the rest of R334 holds. -/
def State.beltLocked (s : State) : State :=
  if s.belt.rxLock || !s.powered then s
  else (s.modBelt fun b => { b with rxLock := true, crcRun := 0, goodRun := 0 }).bypassOpen

/-- BELT_LOCK (R328, R334). -/
def execBeltLock (s : State) := command State.beltLocked s

/-- The receiver loses lock: counted, source 928, and the bypass closes without notice (R328, R335, R441). -/
def State.beltLost (s : State) : State :=
  if s.belt.rxLock then
    ((s.modBelt fun b => { b with rxLock := false, lockLoss := satInc b.lockLoss, crcRun := 0, goodRun := 0 }).raise 928
      faultPlain).bypassClose none
  else s

/-- BELT_LOCK_LOSS (R328, R335). -/
def execBeltLockLoss (s : State) := command State.beltLost s

/-! ## Flits (R327, R330, R333) -/

/-- What stands in a flit: its kind, its bypass slot and its payload. -/
structure BeltFlit where
  kind : Nat
  body : Bytes
  payload : Bytes
  deriving DecidableEq, Repr

/-- A flit whose CRC of R273 with sequence 0 verifies. -/
def beltParse (flit : Bytes) : Option BeltFlit :=
  let f := fit 256 flit
  if beAt 248 8 f = crc64 (f.take 248) 0 then
    some { kind := bits (beAt 0 4 f) 18 15, body := slice 4 16 f, payload := slice 20 224 f }
  else none

/-- The node has a position (R332). -/
def Belt.assigned (b : Belt) : Bool := b.position != 0xFE

/-- An IDLE flit leaves in place of the one that arrived. -/
def State.beltIdle (s : State) : State := if s.belt.bypassOpen then s.emit (.beltSignal .idle) else s

/-- An arriving IDLE flit: the oldest waiting flit of this node takes its place (R333). -/
def State.beltInsert (s : State) : State :=
  if s.belt.bypassOpen then
    match s.belt.txQueue with
    | (b, p) :: r => (s.beltOut b p).modBelt fun x => { x with txQueue := r }
    | [] => s.beltIdle
  else s

/-- A flit passed on with HOPS one higher (R333), or unchanged where the manual does not know its type (R330). -/
def State.beltPass (s : State) (flit : Bytes) (f : BeltFlit) : State :=
  let type := beAt 0 1 f.body
  if 0x45 ≤ type && type ≤ 0x5F then
    (s.modBelt fun b => { b with bypUnknown := satInc b.bypUnknown }).emit (.beltForward (fit 256 flit))
  else
    let d := splice 7 [BitVec.ofNat 8 (beAt 3 1 f.body + 1)] (fit 248 flit)
    s.emit (.beltForward (d ++ beBytes 8 (crc64 d 0)))

/-! ## ROUTE (R329, R339 to R341) -/

/-- The message is for this node: its own position, or all nodes (R332, R333). -/
def Belt.takes (b : Belt) (dst src hops : Byte) : Bool :=
  b.bypassOpen && !(b.assigned && src == b.position) && decide (hops.toNat < 16) &&
    (dst == 0xFF || (b.assigned && dst == b.position))

/-- A ROUTE payload is delivered: a telemetry frame to the Stitch engine, an EPOCH message to the transport. An MCTP packet
is a request of its own row; CLASS 0x04 is for the belt master alone. -/
def State.routeTake (m : RouteMsg) (payload : Bytes) (s : State) : State :=
  if !s.belt.takes m.dstPos m.srcPos m.hops || m.len = 0 || m.len > 224 then s
  else
    let d := fit m.len payload
    match m.cls.toNat with
    | 0x02 => if s.operating then s.frameIn m.srcNode d else s
    | 0x03 =>
      if s.operating && m.len = 16 && beAt 0 1 d = 0x23 then
        s.epochIn (beAt 1 3 d % 2 ^ 20) (BitVec.ofNat 16 (beAt 8 2 d))
      else s
    | _ => s

/-- ROUTE of a bypass slot (R329). -/
def routeAt (b : Bytes) : RouteMsg :=
  { dstPos := BitVec.ofNat 8 (beAt 1 1 b), srcPos := BitVec.ofNat 8 (beAt 2 1 b), hops := BitVec.ofNat 8 (beAt 3 1 b),
    cls := BitVec.ofNat 8 (beAt 4 1 b), len := beAt 5 2 b, srcNode := beAt 7 3 b, dstNode := beAt 10 3 b }

/-! ## TIME (R337, R338) -/

/-- An offset as BLT_TIME_STAT reports it: saturating at 8,388,607 either way. -/
def clipOffset (x : Int) : Int := max (-8388607) (min 8388607 x)

/-- A transport delay sample that spans a step is discarded (R338). -/
def State.dropSamples (s : State) : State :=
  { s with tp := { s.tp with tx := tmap s.tp.tx fun _ f =>
      { f with unacked := f.unacked.map fun p => { p with sampled := true } } } }

/-- Step the timebase by an offset. -/
def State.stepTime (s : State) (off : Int) : State :=
  ({ s with clk := { s.clk with timebase := s.clk.timebase + BitVec.ofInt 64 off, slew := 0, ratePpm := 0 } }).dropSamples

/-- The first TIME after PERST_N deassertion sets the timebase, forward or backward, and is logged. -/
def State.setTime (s : State) (off : Int) : State :=
  let t := s.clk.timebase
  let s := s.stepTime off
  ({ s with clk := { s.clk with timeSet := true } }).log 0x06 0 (leBytes 8 t.toNat ++ leBytes 8 s.clk.timebase.toNat)

/-- The rate adjustment toward zero offset: at most 100 ppm, a free value within that bound (log entry 30). -/
def State.adjustRate (s : State) (off : Int) : State :=
  let mag : Int := ((s.takeFree).1.toNat % 101 : Nat)
  let s := (s.takeFree).2
  { s with clk := { s.clk with slew := 0, ratePpm := if off < 0 then -mag else if off = 0 then 0 else mag } }

/-- What one TIME does to the timebase (R338). -/
def State.discipline (s : State) (off : Int) : State :=
  let s := { s with clk := { s.clk with timeLocked := true, offset := clipOffset off } }
  if !s.clk.timeSet then s.setTime off
  else if off > 10000 then
    ((s.stepTime off).modBelt fun b => { b with timeStep := b.timeStep + 1 }).raise 931 faultPlain
  else if off < -10000 then { s with clk := { s.clk with slew := off.natAbs, ratePpm := 0 } }
  else s.adjustRate off

/-- A TIME message: taken, and passed on with its residence and the upstream segment's delay added to CORR (R333, R337). -/
def State.timeIn (m : TimeMsg) (s : State) : State :=
  if !s.belt.bypassOpen then s
  else if m.hops.toNat = 16 then (s.modBelt fun b => { b with dropHops := satInc b.dropHops }).beltIdle
  else
    let wire := s.belt.wireNs.toNat
    let s := s.discipline ((m.t.toNat + m.corr.toNat + wire : Nat) - (m.arrival : Int))
    let corr := m.corr + BitVec.ofNat 32 (m.residence + wire)
    s.beltOut (beltMsg 0x41 0xFF 0x00 (m.hops.toNat + 1) (beBytes 8 m.t.toNat ++ beBytes 4 corr.toNat)) []

/-- TIME (R333, R337, R338). -/
def execTimeMsg (m : TimeMsg) (s : State) := command (State.timeIn m) s

/-- TIME_LOCK_TIMEOUT (R338). -/
def execTimeLockTimeout (s : State) := command (fun s => { s with clk := { s.clk with timeLocked := false } }) s

/-! ## ENUM (R332) -/

/-- An ENUM: the node takes NEXT_POS and passes NEXT_POS + 1 on; beyond position 16 it takes none, says LEAVE 0x04 and
closes its bypass. -/
def State.enumIn (hops nextPos : Byte) (enumId : W16) (s : State) : State :=
  if !s.belt.bypassOpen then s
  else
    let pass (n : Nat) (s : State) : State :=
      s.beltOut (beltMsg 0x42 0xFF 0x00 (hops.toNat + 1) (beBytes 1 n ++ beBytes 2 enumId.toNat)) []
    if nextPos.toNat > 0x10 then
      (((pass nextPos.toNat s).modBelt fun b => { b with overHops := true, position := 0xFE }).raise 930 faultPlain).bypassClose
        (some 0x04)
    else pass (nextPos.toNat + 1) (s.modBelt fun b => { b with position := nextPos, enumId := enumId })

/-- ENUM (R332). -/
def execEnumMsg (hops nextPos : Byte) (enumId : W16) (s : State) := command (State.enumIn hops nextPos enumId) s

/-! ## A flit at BELT_IN (R327, R328, R333) -/

/-- TIME of a bypass slot, as it arrives now; the residence time is what the node measures, at most 200 ns (R329, R333). -/
def timeAt (b : Bytes) (now residence : Nat) : TimeMsg :=
  { hops := BitVec.ofNat 8 (beAt 3 1 b), t := BitVec.ofNat 64 (beAt 4 8 b), corr := BitVec.ofNat 32 (beAt 12 4 b),
    arrival := now, residence := residence % 201 }

/-- A message flit: one of unknown type passes unchanged; TIME and ENUM are taken and passed on; one that is this node's own
or has made 16 hops is discarded; one for this node is consumed, and any other is passed on (R330, R332, R333). -/
def State.beltMessage (s : State) (flit : Bytes) (f : BeltFlit) : State :=
  let type := beAt 0 1 f.body
  let m := routeAt f.body
  let own (pos : Byte) : Bool := s.belt.assigned && pos == s.belt.position
  if !s.belt.bypassOpen then s
  else if 0x45 ≤ type && type ≤ 0x5F then s.beltPass flit f
  else if type = 0x41 then
    let r := s.takeFree
    r.2.timeIn (timeAt f.body s.clk.timebase.toNat r.1.toNat)
  else if type = 0x42 then s.enumIn m.hops (BitVec.ofNat 8 (beAt 4 1 f.body)) (BitVec.ofNat 16 (beAt 5 2 f.body))
  else if own m.srcPos || m.hops = 16 then (s.modBelt fun b => { b with dropHops := satInc b.dropHops }).beltIdle
  else
    let s := if own m.dstPos then s.beltIdle else s.beltPass flit f
    if type = 0x40 && f.kind = 5 then s.routeTake m f.payload else s

/-- ROUTE arrives (R329, R333). -/
def State.routeIn (m : RouteMsg) (payload : Bytes) (s : State) : State :=
  let body := beltMsg 0x40 m.dstPos.toNat m.srcPos.toNat m.hops.toNat
    ([m.cls] ++ beBytes 2 m.len ++ node3 m.srcNode ++ node3 m.dstNode)
  s.beltMessage (beltWire body (fit 224 payload)) { kind := 5, body := body, payload := fit 224 payload }

/-- ROUTE (R329, R333, R340, R341). -/
def execRoute (m : RouteMsg) (payload : Bytes) (s : State) := command (State.routeIn m payload) s

/-- A flit that fails its CRC, or passes it with a kind the Belt does not use, is counted and replaced by IDLE (R327); the
eighth failure in a row loses lock (R328). -/
def State.beltBad (s : State) (crc : Bool) : State :=
  let run := if crc then s.belt.crcRun + 1 else 0
  let s := (s.modBelt fun b => { b with crcErr := satInc b.crcErr, crcRun := run }).beltIdle
  if run ≥ 8 then s.beltLost else s

/-- A flit at BELT_IN. Before lock it counts toward the 4 good flits of R328. -/
def State.beltFlit (flit : Bytes) (s : State) : State :=
  let x := beltParse flit
  if !s.belt.rxLock then
    if x.isSome then
      let s := s.modBelt fun b => { b with goodRun := b.goodRun + 1 }
      if s.belt.goodRun ≥ 4 then s.beltLocked else s
    else s.modBelt fun b => { b with goodRun := 0 }
  else
    match x with
    | none => s.beltBad true
    | some f =>
      if f.kind = 0 then (s.modBelt fun b => { b with crcRun := 0 }).beltInsert
      else if f.kind = 1 || f.kind = 5 then (s.modBelt fun b => { b with crcRun := 0 }).beltMessage flit f
      else s.beltBad false

/-- BELT_FLIT_RECEIVE (R327, R330, R333). -/
def execBeltFlitReceive (flit : Bytes) (s : State) := command (State.beltFlit flit) s

/-! ## Wake, enable and the summary frame -/

/-- A Belt wake pattern: an open bypass repeats it; a BLT below Run wakes, which is source 0x06 (R336, R390, R391). -/
def State.beltWake (s : State) : State :=
  let s := if s.belt.bypassOpen then s.emit (.beltSignal .wakePattern) else s
  let d := s.dom .blt
  if d.entering.isSome || d.state = .sleep || d.state = .deepSleep then
    ((s.wake .blt).wakeSource 0x06).pmeEvent 0x06
  else s

/-- BELT_WAKE_PATTERN (R336, R390). -/
def execBeltWakePattern (s : State) := command State.beltWake s

/-- BLT_CTRL.ENABLE written to 0: LEAVE 0x01, and the bypass closes (R335). -/
def State.beltOff (s : State) : State := (s.bypassClose (some 0x01)).modBelt fun b => { b with enable := false }

/-- BELT_ENABLE_CLEAR (R335). -/
def execBeltEnableClear (s : State) := command (fun s => s.regWrite State.beltOff) s

/-- The BELT client's floor: BLT comes up while ENABLE is 1 and SLEEP_OK is 0 (R336, R388). -/
def State.beltFloor (s : State) : State := if s.belt.enable && !s.belt.sleepOk then s.wake .blt else s

/-- BLT_CTRL.ENABLE written from 0 to 1: OVER clears and the bypass may open (R332, R334). -/
def State.beltOn (s : State) : State :=
  if s.belt.enable then s else (s.modBelt fun b => { b with enable := true, overHops := false }).bypassOpen.beltFloor

/-- BELT_ENABLE_SET (R332, R334). -/
def execBeltEnableSet (s : State) := command (fun s => s.regWrite State.beltOn) s

/-- The highest junction temperature, in 0.1 degrees C. -/
def Lin.hottest (l : Lin) : Int := l.tempC.foldl max (l.tempC.headD 0)

/-- The summary frame to the belt master (R340). -/
def State.summary (s : State) : State :=
  if s.belt.summary = 0 || !(s.boot.mode == .boot || s.boot.mode == .oper) then s
  else
    let d := beBytes 2 0xFFF0 ++ beBytes 2 10 ++ beBytes 1 s.modeCode ++
      beBytes 1 (maskOf [s.fc.errLow, s.clk.timeLocked]) ++ beBytes 2 (BitVec.ofInt 16 s.lin.hottest).toNat ++
      beBytes 2 (min 65535 s.lin.power) ++ beBytes 1 (slvStateCode s.slvA.state) ++
      beBytes 1 (slvStateCode s.slvB.state) ++ beBytes 2 s.tp.epoch.toNat
    s.beltSend (s.routeMsg 0x02 0 d) d

/-- SUMMARY_FRAME (R340). -/
def execSummaryFrame (s : State) := command State.summary s

end Sys2Proof.Machine
end

