-- ==== Sys2Proof/Machine/Collector.lean ====
section
/-! DEFINITION. The fault collector's own commands: a source's line asserts, trap acknowledgement, ERR_N's pulse and release,
the lock, the scrub and the watchdogs (R439 to R449, R455). -/
namespace Sys2Proof.Machine

/-- A block asserts the line of one of its sources. -/
def State.faultIn (src : Nat) (rec' : FaultRec) (s : State) : State :=
  if s.powered && s.boot.mode != .off && srcExists src then s.raise src rec' else s

/-- FAULT_ASSERT (R439, R440, R443). -/
def execFaultAssert (src : Nat) (rec' : FaultRec) (s : State) := command (State.faultIn src rec') s

/-- A trap delivered has not been acknowledged within 100 us: source 2 (R445). Delivered are the traps that wait for Lining's
firmware while both domains are in Run. -/
def State.trapLate (s : State) : State :=
  match s.fc.traps with
  | [] => s
  | _ :: r =>
    if (s.dom .ctl).state = .run && (s.dom .lin).state = .run then
      ({ s with fc := { s.fc with traps := r } }).raise 2 faultPlain
    else s

/-- TRAP_ACK_TIMEOUT (R445). -/
def execTrapAckTimeout (s : State) := command State.trapLate s

/-- ERR_N goes high. -/
def State.errUp (s : State) : State := { s with fc := { s.fc with errLow := false, releaseDue := false } }

/-- The pulse of ERR_N ends: released unless HOLD keeps it low, or the safe state (R446). -/
def State.pulseEnd (s : State) : State :=
  if !s.fc.pulse then s
  else
    let due := s.fc.releaseDue || !s.fc.hold
    let s := { s with fc := { s.fc with pulse := false, releaseDue := false } }
    if due && s.boot.mode != .safe then s.errUp else s

/-- ERR_N_PULSE_END (R446). -/
def execErrNPulseEnd (s : State) := command State.pulseEnd s

/-- RELEASE: at once, or at the end of the pulse; ignored in the safe state (R446). -/
def State.errRelease_ (s : State) : State :=
  if s.boot.mode = .safe then s
  else if s.fc.pulse then { s with fc := { s.fc with releaseDue := true } }
  else s.errUp

/-- RELEASE, written by PF0 to FC_ERR_CTRL (R446). -/
def execRelease (s : State) := command (fun s => s.regWrite State.errRelease_) s

/-- FC_LOCK (R10): the reaction words become read-only. -/
def State.lockReact (s : State) : State := { s with fc := { s.fc with lock := true } }

/-- FC_LOCK (R10, FC_CTRL). -/
def execFcLock (s : State) := command (fun s => s.regWrite State.lockReact) s

/-- The scrub of the status and reaction words finds their parity: a mismatch sets source 0 or 1, whose fixed reaction is the
safe state (R449). -/
def State.scrub (badStatus badReact : Bool) (s : State) : State :=
  if !s.powered || s.boot.mode = .off || s.boot.mode = .factory then s
  else
    let s := if badStatus then s.raise 0 faultPlain else s
    if badReact then s.raise 1 faultPlain else s

/-- FAULT_SCRUB (R449). -/
def execFaultScrub (badStatus badReact : Bool) (s : State) := command (State.scrub badStatus badReact) s

/-- LINING_WATCHDOG (R455): no heartbeat for 1 s, source 71. -/
def execLiningWatchdog (s : State) := command (fun s => if s.lin.firmware then s.raise 71 faultPlain else s) s

/-- JALID_WATCHDOG (R441): no heartbeat for 100 ms, source 433. -/
def execJalidWatchdog (s : State) :=
  command (fun s => if s.operating && !s.boot.reloading then s.raise 433 faultPlain else s) s

end Sys2Proof.Machine
end

