-- ==== Sys2Proof/Machine/Mctp.lean ====
section
/-! DEFINITION. MCTP and PLDM monitoring and control (R464 to R467, R494): Lining's endpoint on its bindings, the control
commands that Buttonhole's endpoint answers too, PLDM types 0 and 2, and the effecters. Message layouts beyond the fields
the spec gives are those of the DMTF specifications it names (PRESUMED; log entry 33). -/
namespace Sys2Proof.Machine

/-! ## Bindings -/

/-- Place of a binding's EID. -/
def bindNum : Binding → Nat
  | .smbus => 0
  | .i3c => 1
  | .vdm => 2
  | .belt => 3
  | .bh => 4

/-- The host link carries VDMs: it is up and the mode is not SAFE (R464, R494). -/
def State.vdmOpen (s : State) : Bool := s.link.state != .down && s.boot.mode != .safe && s.powered

/-- Lining takes a message on a binding (R464). -/
def State.bindingOpen (s : State) (b : Binding) : Bool :=
  s.liningRuns && match b with
    | .smbus | .i3c => s.busIs b
    | .vdm => s.vdmOpen
    | .belt => s.belt.bypassOpen
    | .bh => false

/-- A message of Lining's endpoint: the first transaction on the two-wire bus fixes its use (R464). -/
def State.lining (b : Binding) (f : State → State) (s : State) : State :=
  if s.bindingOpen b then f (if b = .smbus || b = .i3c then s.busFix b else s) else s

/-- A base control message, to Lining's endpoint or to Buttonhole's (R465, R494). -/
def State.control (b : Binding) (f : State → State) (s : State) : State :=
  if b = .bh then (if s.vdmOpen then f s else s) else s.lining b f

/-- A message as its packets carry it: after the message type, control and PLDM messages hold a byte with the instance ID of
the request, which the commands do not carry (log entry 33). -/
def onWire (instanceId : Byte) : Bytes → Bytes
  | [] => []
  | t :: r => if t.toNat < 2 then t :: instanceId :: r else t :: r

/-- Packet i of n with its MCTP transport header: version 1, the requester's EID and tag from a free value, the own EID, SOM,
EOM and the packet sequence (R339, R464; log entry 33). -/
def mctpPacket (peer : W64) (eid : Byte) (i n : Nat) (p : Bytes) : Bytes :=
  [0x01, peer.setWidth 8, eid, BitVec.ofNat 8 (128 * b2n (i == 0) + 64 * b2n (i + 1 == n) + 16 * (i % 4) +
    (peer >>> 8).toNat % 16)] ++ p

/-- Lining sends a message on a binding: on the Belt each packet is a ROUTE of CLASS 0x01 among the node's own flits (R329,
R333, R339). -/
def State.mctpSay (s : State) (b : Binding) (m : Bytes) : State :=
  let x := s.takeFree
  let w := onWire (x.1.setWidth 8) m
  if b = .belt then
    let y := x.2.takeFree
    let l := packetsOf (w.length / 64 + 1) w
    let l := l.mapIdx fun i p => mctpPacket y.1 (lget s.lin.eids (bindNum .belt) 0) i l.length p
    l.foldl (fun s p => s.beltSend (s.routeMsg 0x01 0 p) p) y.2
  else x.2.emits (mctpOut b w)

/-- Answer an MCTP control command (type 0x00). -/
def State.ctlSay (s : State) (b : Binding) (cmd cc : Nat) (data : Bytes) : State :=
  s.mctpSay b (beBytes 1 0 ++ beBytes 1 cmd ++ beBytes 1 cc ++ data)

/-- Answer a PLDM command (type 0x01). -/
def State.pldmSay (s : State) (b : Binding) (type cmd cc : Nat) (data : Bytes) : State :=
  s.mctpSay b (beBytes 1 1 ++ beBytes 1 type ++ beBytes 1 cmd ++ beBytes 1 cc ++ data)

/-- Completion codes: success, invalid data (ERROR_INVALID_DATA), and the first command-specific code. -/
def ccOk : Nat := 0x00
def ccInvalid : Nat := 0x02
def ccSpecific : Nat := 0x80

/-- n bytes the spec leaves open, from free values. -/
def State.freeBytes : Nat → State → Bytes × State
  | 0, s => ([], s)
  | n + 1, s =>
    let r := State.freeBytes n { s with freeIdx := s.freeIdx + 1 }
    ((Config.freeValue s.freeIdx).setWidth 8 :: r.1, r.2)

/-! ## MCTP control (R465) -/

/-- Set Endpoint ID: the null and broadcast EIDs are not valid. -/
def State.eidSet (b : Binding) (eid : Byte) (s : State) : State :=
  if eid = 0 || eid = 0xFF then s.ctlSay b 0x01 ccInvalid []
  else (s.modLin fun l => { l with eids := lmod l.eids (bindNum b) fun _ => eid }).ctlSay b 0x01 ccOk [0, eid, 0]

/-- SET_ENDPOINT_ID (R464, R465). -/
def execSetEndpointId (b : Binding) (eid : Byte) (s : State) := command (State.control b (State.eidSet b eid)) s

/-- GET_ENDPOINT_ID (R465). -/
def execGetEndpointId (b : Binding) (s : State) :=
  command (State.control b fun s => s.ctlSay b 0x02 ccOk [lget s.lin.eids (bindNum b) 0, 0, 0]) s

/-- Message types an endpoint serves beside control (R465, R494). -/
def msgTypes : Binding → Bytes
  | .bh => [0x7E]
  | _ => [0x01, 0x7E]

/-- Get MCTP Version Support, of a message type served or of the base specification (0xFF). -/
def State.versionSay (b : Binding) (t : Byte) (s : State) : State :=
  if t = 0xFF || t = 0 || (msgTypes b).contains t then s.ctlSay b 0x04 ccOk (Config.protocolVersion t.toNat)
  else s.ctlSay b 0x04 ccSpecific []

/-- GET_MCTP_VERSION_SUPPORT (R465). -/
def execGetMctpVersionSupport (b : Binding) (msgType : Byte) (s : State) :=
  command (State.control b (State.versionSay b msgType)) s

/-- GET_MESSAGE_TYPE_SUPPORT (R465). -/
def execGetMessageTypeSupport (b : Binding) (s : State) :=
  command (State.control b fun s => s.ctlSay b 0x05 ccOk (beBytes 1 (msgTypes b).length ++ msgTypes b)) s

/-- The vendor-defined LOG_READ: request and response payloads of R154. -/
def State.logSay (b : Binding) (d : Bytes) (s : State) : State :=
  let max := leAt 4 2 d
  let head : Bytes := [0x7E, 0x1F, 0x3C]
  if max < 1 || max > 47 then s.mctpSay b (head ++ beBytes 1 ccInvalid)
  else s.mctpSay b (head ++ beBytes 1 ccOk ++ s.logAnswer (BitVec.ofNat 32 (leAt 0 4 d)) max)

/-- MCTP_LOG_READ (R154, R463, R465). -/
def execMctpLogRead (b : Binding) (payload : Bytes) (s : State) := command (State.lining b (State.logSay b payload)) s

/-! ## PLDM type 0 (R466) -/

/-- GET_TID (R466). -/
def execGetTid (b : Binding) (s : State) :=
  command (State.lining b fun s => s.pldmSay b 0 0x02 ccOk [Config.terminusId]) s

/-- Lining serves PLDM types 0, 2 and 5 (R465). -/
def pldmServed (t : Byte) : Bool := t == 0 || t == 2 || t == 5

/-- GET_PLDM_VERSION (R466). -/
def execGetPldmVersion (b : Binding) (pldmType : Byte) (s : State) :=
  command (State.lining b fun s =>
    if pldmServed pldmType then s.pldmSay b 0 0x03 ccOk (zeros 4 ++ [0x05] ++ Config.protocolVersion (256 + pldmType.toNat))
    else s.pldmSay b 0 0x03 0x83 []) s

/-- GET_PLDM_TYPES (R466): types 0, 2 and 5. -/
def execGetPldmTypes (b : Binding) (s : State) :=
  command (State.lining b fun s => s.pldmSay b 0 0x04 ccOk (leBytes 8 0x25)) s

/-- Commands that Lining answers, of a PLDM type (R465, R466, R474). -/
def pldmCommands (t : Byte) : List Nat :=
  if t = 0 then [0x02, 0x03, 0x04, 0x05]
  else if t = 2 then [0x11, 0x13, 0x31, 0x32, 0x50, 0x51]
  else [0x10, 0x13, 0x14, 0x1A, 0x1C, 0x1D]

/-- GET_PLDM_COMMANDS (R466): a bit per command. -/
def execGetPldmCommands (b : Binding) (pldmType : Byte) (s : State) :=
  command (State.lining b fun s =>
    if pldmServed pldmType then
      s.pldmSay b 0 0x05 ccOk (leBytes 32 ((pldmCommands pldmType).foldl (fun m c => m ||| 2 ^ c) 0))
    else s.pldmSay b 0 0x05 0x83 []) s

/-! ## Sensors (R228, R458, R459, R466) -/

/-- A reading of a sensor: PLDM data size and value. Sizes: 0 uint8, 1 sint8, 2 uint16, 3 sint16, 4 uint32, 5 sint32. -/
abbrev Reading := Nat × Int

/-- Bytes of a PLDM data size. -/
def sizeBytes (size : Nat) : Nat := if size ≤ 1 then 1 else if size ≤ 3 then 2 else 4

/-- A value in its size. -/
def readingBytes (r : Reading) : Bytes := leBytes (sizeBytes r.1) (r.2 % 2 ^ (8 * sizeBytes r.1)).toNat

/-- Highest of a list of temperatures. -/
def hottest (l : List Int) : Int := l.foldl max (l.headD 0)

/-- A sensor of R458. -/
def State.fixedSensor (s : State) (id : Nat) : Option Reading :=
  let l := s.lin
  let nat (size : Nat) (v : Nat) : Option Reading := some (size, (v : Int))
  if 0x01 ≤ id && id ≤ 0x20 then some (3, tempAt l.tempC (id - 1))
  else if id = 0x21 then some (3, hottest l.tempC)
  else if 0x41 ≤ id && id ≤ 0x50 then nat 2 (lget l.volts (id - 0x41) 0)
  else if 0x61 ≤ id && id ≤ 0x68 then nat 4 (lget l.amps (id - 0x61) 0)
  else if id = 0x70 then nat 4 l.power
  else if 0x81 ≤ id && id ≤ 0xC0 then nat 2 (lget l.droops (id - 0x81) 0)
  else if id = 0xD0 then nat 2 l.lifeDays.toNat
  else none

/-- The Stitch map entry that is a sensor (R228). -/
def State.stitchSensor (s : State) (id : Nat) : Option Stitch :=
  (s.sti.map.find? fun p => p.2.kind == 1 && p.2.dst == id).map (·.2)

/-- A temperature sensor (R459). -/
def isTemp (id : Nat) : Bool := decide (1 ≤ id) && decide (id ≤ 0x21)

/-- Present state of a temperature sensor: normal, or at its upper warning, critical or fatal threshold (R459). -/
def tempState (t : Int) : Nat := if t ≥ tMax + 100 then 10 else if t ≥ tMax then 9 else if t ≥ tMax - 100 then 8 else 1

/-- Answer a GetSensorReading: data size, operational state (0 enabled, 2 unavailable), no event generation, present,
previous and event state, reading. -/
def State.readingSay (s : State) (b : Binding) (r : Reading) (op present : Nat) : State :=
  s.pldmSay b 2 0x11 ccOk (beBytes 1 r.1 ++ beBytes 1 op ++ [0] ++ beBytes 1 present ++ [0] ++ beBytes 1 present ++ readingBytes r)

/-- GetSensorReading. -/
def State.sensorSay (b : Binding) (id : Nat) (s : State) : State :=
  match s.fixedSensor id with
  | some r => s.readingSay b r 0 (if isTemp id then tempState r.2 else 0)
  | none =>
    match s.stitchSensor id with
    | some e => s.readingSay b (e.dstWidth, (e.lastOut.toNat : Int)) (if e.fresh then 0 else 2) 0
    | none => s.pldmSay b 2 0x11 ccSpecific []

/-- GET_SENSOR_READING (R228, R458, R466). -/
def execGetSensorReading (b : Binding) (sensor : Nat) (s : State) := command (State.lining b (State.sensorSay b sensor)) s

/-- Data size of a sensor that exists. -/
def State.sensorSize (s : State) (id : Nat) : Option Nat :=
  match s.fixedSensor id with
  | some r => some r.1
  | none => (s.stitchSensor id).map (·.dstWidth)

/-- GetSensorThresholds: upper warning, critical and fatal of a temperature sensor; every other threshold is none of the
spec's (free values; log entry 33). -/
def State.thresholdSay (b : Binding) (id : Nat) (s : State) : State :=
  match s.sensorSize id with
  | none => s.pldmSay b 2 0x13 ccSpecific []
  | some size =>
    let temp := isTemp id
    let own := if temp then ([tMax - 100, tMax, tMax + 100].map fun t => readingBytes (3, t)).flatten else []
    let f := State.freeBytes ((if temp then 3 else 6) * sizeBytes size) s
    f.2.pldmSay b 2 0x13 ccOk (beBytes 1 size ++ own ++ f.1)

/-- GET_SENSOR_THRESHOLDS (R459, R466). -/
def execGetSensorThresholds (b : Binding) (sensor : Nat) (s : State) :=
  command (State.lining b (State.thresholdSay b sensor)) s

/-! ## The PDR repository (R466) -/

/-- IDs of the sensors of R458. -/
def fixedSensorIds : List Nat :=
  ((List.range 33).map (· + 1)) ++ ((List.range 16).map (· + 0x41)) ++ ((List.range 8).map (· + 0x61)) ++ [0x70] ++
    ((List.range 64).map (· + 0x81)) ++ [0xD0]

/-- IDs of the Stitch sensors, in map order (R228). -/
def State.stitchIds (s : State) : List Nat := (s.sti.map.filter fun p => p.2.kind == 1).map (·.2.dst)

/-- Record handles: sensors under their IDs, effecters under 0x2000 + ID, the Terminus Locator under 0x3000 (log entry 33). -/
def State.pdrHandles (s : State) : List Nat :=
  0x3000 :: (fixedSensorIds ++ s.stitchIds ++ (List.range 5).map (· + 0x2001))

/-- The handle after another in the repository, 0 after the last. -/
def nextHandle (l : List Nat) (h : Nat) : Nat :=
  match l with
  | [] => 0
  | x :: r => if x = h then r.headD 0 else nextHandle r h

/-- The Numeric Sensor PDR fields of a Stitch sensor (R228): ID, base unit, unit modifier, data size, resolution 1.0,
offset 0. -/
def stitchPdr (e : Stitch) : Bytes :=
  leBytes 2 e.dst ++ [e.uom, e.modifier] ++ beBytes 1 e.dstWidth ++ leBytes 4 0x3F800000 ++ leBytes 4 0

/-- The record with a handle: a Stitch sensor's from its entry, any other from the image's PDR section (R471). -/
def State.pdr (s : State) (h : Nat) : Bytes :=
  match s.stitchSensor h with
  | some e => stitchPdr e
  | none => Config.pdrTemplate h

/-- GetPDRRepositoryInfo: available, and the number of records; times and sizes are open. -/
def State.repositorySay (b : Binding) (s : State) : State :=
  let t := State.freeBytes 26 s
  let z := State.freeBytes 9 t.2
  z.2.pldmSay b 2 0x50 ccOk ([0] ++ t.1 ++ leBytes 4 s.pdrHandles.length ++ z.1)

/-- GET_PDR_REPOSITORY_INFO (R466). -/
def execGetPdrRepositoryInfo (b : Binding) (s : State) := command (State.lining b (State.repositorySay b)) s

/-- GetPDR; handle 0 names the first record. -/
def State.pdrSay (b : Binding) (handle : Nat) (s : State) : State :=
  let h := if handle = 0 then 0x3000 else handle
  if s.pdrHandles.contains h then
    let d := s.pdr h
    s.pldmSay b 2 0x51 ccOk (leBytes 4 (nextHandle s.pdrHandles h) ++ zeros 4 ++ [0x05] ++ leBytes 2 d.length ++ d)
  else s.pldmSay b 2 0x51 0x82 []

/-- GET_PDR (R228, R466). -/
def execGetPdr (b : Binding) (handle : Nat) (s : State) := command (State.lining b (State.pdrSay b handle)) s

/-! ## Effecters (R467) -/

/-- Value of an effecter that holds one: the operator's cap and window. -/
def State.effecterValue (s : State) (id : Nat) : Option Nat :=
  if id = 1 then some s.el.opCap else if id = 2 then some s.el.opWindow else none

/-- GetNumericEffecterValue: uint32, no update pending, the value pending and present. ERR_RELEASE, CHIP_RESET and AGE_MEASURE
hold no value that the spec states (free values; log entry 33). -/
def State.effecterSay (b : Binding) (id : Nat) (s : State) : State :=
  if id = 0 || id > 5 then s.pldmSay b 2 0x32 ccSpecific []
  else
    match s.effecterValue id with
    | some v => s.pldmSay b 2 0x32 ccOk ([4, 1] ++ leBytes 4 v ++ leBytes 4 v)
    | none =>
      let f := State.freeBytes 4 s
      f.2.pldmSay b 2 0x32 ccOk ([4, 1] ++ f.1 ++ f.1)

/-- GET_NUMERIC_EFFECTER_VALUE (R466, R467). -/
def execGetNumericEffecterValue (b : Binding) (effecter : Nat) (s : State) :=
  command (State.lining b (State.effecterSay b effecter)) s

/-- SetNumericEffecterValue: a value of the set has its effect and success; another gets ERROR_INVALID_DATA and none. -/
def State.effect_ (b : Binding) (ok : Bool) (f : State → State) (s : State) : State :=
  if ok then (f s).pldmSay b 2 0x31 ccOk [] else s.pldmSay b 2 0x31 ccInvalid []

/-- The operator's cap, kept in MRAM (R141, R375, R467). -/
def State.capTake (v : Nat) (s : State) : State := { s with el := { s.el with opCap := v } }

/-- POWER_CAP (R467). -/
def execPowerCap (b : Binding) (v : Nat) (s : State) :=
  command (State.lining b (State.effect_ b (v == 0 || (decide (12000 ≤ v) && decide (v ≤ 44000))) (State.capTake v))) s

/-- The operator's window, kept in MRAM (R141, R375, R467). -/
def State.windowTake (v : Nat) (s : State) : State := { s with el := { s.el with opWindow := v } }

/-- ACCOUNT_WINDOW (R467). -/
def execAccountWindow (b : Binding) (v : Nat) (s : State) :=
  command (State.lining b (State.effect_ b (v == 0 || (decide (10 ≤ v) && decide (v ≤ 10000))) (State.windowTake v))) s

/-- ERR_RELEASE (R446, R467). -/
def execErrRelease (b : Binding) (v : Nat) (s : State) :=
  command (State.lining b (State.effect_ b (v == 1) State.errRelease_)) s

/-- AGE_MEASURE (R467, R477). -/
def execAgeMeasure (b : Binding) (v : Nat) (s : State) :=
  command (State.lining b (State.effect_ b (v == 1) State.measureAll)) s

/-- CHIP_RESET: answered, then the chip reset on operator request (R467). -/
def State.resetAsked (b : Binding) (v : Nat) (bootSel : Bool) (s : State) : State :=
  if v ≠ 0x5A then s.pldmSay b 2 0x31 ccInvalid []
  else
    let s := s.pldmSay b 2 0x31 ccOk []
    if s.resettable then (s.chipReset 0x06 bootSel true).plls else s

/-- CHIP_RESET_EFFECTER (R414, R450, R467). -/
def execChipResetEffecter (b : Binding) (v : Nat) (bootSel : Bool) (s : State) :=
  command (State.lining b (State.resetAsked b v bootSel)) s

end Sys2Proof.Machine
end

