-- ==== Sys2Proof/Machine/Buttonhole.lean ====
section
/-! DEFINITION. Buttonhole's own commands (R485 to R497): COUNTER_READ over MCTP, the trace port's start, stop and marks, and
the periodic COUNTER messages. -/
namespace Sys2Proof.Machine

/-! ## COUNTER_READ (R494) -/

/-- A counter as its 8 B word (R490), from the live or the snapshot view. -/
def Bh.word (b : Bh) (snap : Bool) (c : Nat) : Bytes := leBytes 8 (tgetD (if snap then b.snap else b.count) c 0).toNat

/-- The request is one that R494 allows. -/
def counterReadOk (flags : Byte) (first count : Nat) : Bool :=
  decide (flags.toNat ≤ 1) && decide (1 ≤ count) && decide (count ≤ 5) && decide (first + count ≤ 4096)

/-- The response after the Vendor ID; an invalid request gets no counters. -/
def State.counterSay (flags : Byte) (first count : Nat) (s : State) : State :=
  let head : Bytes := [0x7E, 0x1F, 0x3C, 0x10]
  if counterReadOk flags first count then
    let snap := flags.toNat == 1
    let t := if snap then s.bh.snapTime else s.clk.timebase
    s.emits (mctpOut .bh (head ++ [0x00] ++ leBytes 2 first ++ leBytes 1 count ++ [0] ++ leBytes 8 t.toNat ++
      ((List.range count).map fun i => s.bh.word snap (first + i)).flatten))
  else s.emits (mctpOut .bh (head ++ [0x01] ++ leBytes 2 first ++ [0, 0] ++ leBytes 8 s.clk.timebase.toNat))

/-- COUNTER_READ (R494). -/
def execCounterRead (flags : Byte) (first count : Nat) (s : State) :=
  command (fun s => if s.vdmOpen then s.counterSay flags first count else s) s

/-! ## The trace port (R495 to R497) -/

/-- A write of the host to a register of PF1's BAR0 that reaches it. -/
def State.regWrite1 (s : State) (f : State → State) : State := if s.regServed 1 then f (s.written 1 4) else s

/-- TRACE_EN from 0 to 1: BH comes up, SYNC opens the stream and MARK 0x02 follows. -/
def State.traceOn (s : State) : State :=
  if s.bh.traceEn then s
  else
    let s := s.setBh { s.bh with traceEn := true, running := true, sinceSync := 1023, sampleRun := 0 }
    (s.tracePush (traceMsg 0x05 0x02 s.clk.timebase 0)).wake .bh

/-- TRACE_EN_SET (R496). -/
def execTraceEnSet (s : State) := command (fun s => s.regWrite1 State.traceOn) s

/-- TRACE_EN to 0: no new message; the buffer drains. -/
def State.traceOff (s : State) : State := s.setBh { s.bh with traceEn := false }

/-- TRACE_EN_CLEAR (R497). -/
def execTraceEnClear (s : State) := command (fun s => s.regWrite1 State.traceOff) s

/-- A software mark while TRACE_EN is 1. -/
def State.traceMark (s : State) : State :=
  if s.bh.traceEn then s.tracePush (traceMsg 0x05 0x01 s.clk.timebase 0) else s

/-- MARK (R495). -/
def execMark (s : State) := command (fun s => s.regWrite1 State.traceMark) s

/-- The COUNTER message of a counter. -/
def State.traceCounter (c : Nat) (s : State) : State :=
  s.tracePush (traceMsg 0x02 0x00 s.clk.timebase (c <<< 52 ||| (tgetD s.bh.count c 0).toNat))

/-- The COUNTER messages from FIRST to LAST; none with PERIOD 0 or LAST below FIRST. -/
def State.traceCounters (s : State) : State :=
  let v := s.bh.cntTrace.toNat
  let first := bits v 11 0
  let last := bits v 23 12
  if s.bh.traceEn && decide (bits v 31 24 ≠ 0) then
    s.forEach ((List.range (last + 1 - first)).map (first + ·)) State.traceCounter
  else s

/-- COUNTER_TRACE_PERIOD (R496). -/
def execCounterTracePeriod (s : State) := command State.traceCounters s

end Sys2Proof.Machine
end

