-- ==== Sys2Proof/Machine/Placement.lean ====
section
/-! DEFINITION. The placement engine (R343 to R369): the epoch's decisions, the two phases of a migration, service loads and
their write-back, failed spill accesses, and the retention plan's start (R54, R367). -/
namespace Sys2Proof.Machine

/-- Change the placement engine. -/
def State.modPlc (s : State) (g : Plc → Plc) : State := { s with plc := g s.plc }

/-- Smoothing of R344, in 256ths. -/
def smooth (old sample : Nat) : Nat := old - old / 4 + 64 * sample

/-- QP q is migrating. -/
def State.moving (s : State) (q : Nat) : Bool := s.plc.moves.any fun m => m.1 == q

/-- Start a move of QP q; an engine move of a spilled QP leaves its context in its record (R346, R358). -/
def State.startMove (s : State) (q : Nat) (mv : Move) (phase2 : Bool) : State :=
  (s.modPlc fun x => { x with moves := x.moves ++ [(q, mv, phase2)] }).modQp q fun p =>
    { p with residence := if mv.isEngine && p.residence == .spilled then .spilled else .migrating }

/-- One more migration may be in flight: PLC_STATUS.IN_FLIGHT counts to 256. -/
def State.moveRoom (s : State) : Bool := decide (s.plc.moves.length < 256)

/-! ## The epoch's inputs (R344) -/

/-- The access rate of a QP, smoothed, and its load on its engine; its samples start again. -/
def Qp.epoch (p : Qp) : Qp :=
  { p with rate := smooth p.rate p.sample, sample := 0, load := Config.engineLoad p.unitsEp p.bytesEp, unitsEp := 0, bytesEp := 0 }

/-- A Sleeve's health in the epoch that ends (R362): UP, at most one replay per 10^6 flits, no retrain. -/
def Slv.epoch (v : Slv) : Slv :=
  { v with unfit := v.state != .up || decide (v.replaysEp * 1000000 > v.flitsEp) || v.retrainEp, flitsEp := 0,
           replaysEp := 0, retrainEp := false }

/-- Staging demand, smoothed. -/
def Plc.smoothDemand (x : Plc) : Plc :=
  let keys := (tkeys x.demand ++ tkeys x.staged).eraseDups
  { x with demand := keys.foldl (fun t k => tput t k (smooth (tgetD x.demand k 0) (tgetD x.staged k 0))) x.demand,
           staged := [] }

/-- Every input is sampled. -/
def State.sampleEpoch (s : State) : State :=
  { s with qps := tmap s.qps fun _ p => p.epoch, slvA := s.slvA.epoch, slvB := s.slvB.epoch,
           plc := { s.plc.smoothDemand with epochs := s.plc.epochs + 1 } }

/-! ## The staging partition (R365, R366) -/

/-- Some function of a group that has a tenant is in D0; PF0 is group 0's. -/
def State.groupAwake (s : State) (g : Nat) : Bool :=
  if g = 0 then !(s.fn 0).cfg.d3hot
  else s.prov.tenants.any fun t => t.2.group == g && !(s.fn (fnOfVf t.1)).cfg.d3hot

/-- Units that an epoch divides in a slice: the unreserved ones, in the HOST slice without those of grant space. -/
def State.divisible (s : State) (a : Arb) : Nat := if a = .host then s.freeStg - 64 else s.freeStg

/-- Units above its floor that each group gets in a slice. -/
def State.partition (s : State) (a : Arb) : Table Nat :=
  let groups := (0 :: tkeys s.prov.groups).filter s.groupAwake
  let of (g : Nat) : Nat := tgetD s.plc.demand (demandKey a g) 0
  let sum := groups.foldl (fun n g => n + of g) 0
  if sum = 0 then []
  else groups.foldl (fun t g => tput t g (s.divisible a * of g / sum)) []

/-- The shares of this epoch. -/
def State.shareOut (s : State) : State :=
  s.modPlc fun x =>
    { x with shareHost := s.partition .host, shareSla := s.partition .sla, shareSlb := s.partition .slb }

/-! ## Failed spill accesses (R356) -/

/-- Try a QP's failed spill access again. -/
def State.spillRetry (q : Nat) (s : State) : State :=
  if !s.spillOpen then s
  else
    let s := s.modPlc fun x => { x with retry := x.retry.filter (· != q) }
    match s.qp q with
    | none => s
    | some p =>
      match p.record with
      | none => s
      | some r =>
        if p.loading && s.qpAway q p then s.spillRead q r
        else s.spillWrite q r

/-- Every failed access once. -/
def State.spillRetries (s : State) : State := s.plc.retry.eraseDups.foldl (fun s q => s.spillRetry q) s

/-! ## Engine affinity (R346, R347, R361) -/

/-- Engine e may hold QPs. -/
def State.engineOk (s : State) (e : Nat) : Bool := bitAt s.plc.engineMask.toNat e && bitAt s.plc.engActive.toNat e

/-- Engine a QP will be on once its move ends. -/
def State.engineTo (s : State) (q : Nat) (p : Qp) : Nat :=
  match s.plc.moves.find? (·.1 == q) with
  | some (_, .engine e, _) => e
  | _ => p.engine

/-- Load of an engine: that of the QPs on it. -/
def State.engineLoad (s : State) (e : Nat) : Nat :=
  s.qps.foldl (fun n x => if s.engineTo x.1 x.2 = e then n + x.2.load else n) 0

/-- Engines placement may use. -/
def State.engineList (s : State) : List Nat := (List.range 16).filter s.engineOk

/-- The least loaded of them, the lowest first. -/
def State.leastEngine (s : State) : Option Nat :=
  (s.engineList.foldl (fun (b : Option (Nat × Nat)) e =>
    match b with
    | none => some (e, s.engineLoad e)
    | some x => if s.engineLoad e < x.2 then some (e, s.engineLoad e) else b) none).map (·.1)

/-- The most loaded of them, the lowest first. -/
def State.mostEngine (s : State) : Option Nat :=
  (s.engineList.foldl (fun (b : Option (Nat × Nat)) e =>
    match b with
    | none => some (e, s.engineLoad e)
    | some x => if x.2 < s.engineLoad e then some (e, s.engineLoad e) else b) none).map (·.1)

/-- QPs on engines outside the mask, or marked for deactivation, start to move, spilled ones too (R346, R347). -/
def State.evacuate (s : State) : State :=
  (s.qps.filter fun x => !s.engineOk x.2.engine && x.2.residence != .migrating && !s.moving x.1).foldl (fun s x =>
    match s.leastEngine with
    | none => s
    | some e => if s.moveRoom then s.startMove x.1 (.engine e) false else s) s

/-- The QP of highest score that may leave an engine. -/
def State.topOf (s : State) (e : Nat) : Option (Nat × Qp) :=
  (s.qps.filter fun x => x.2.engine == e && x.2.residence == .onDie && !s.moving x.1).foldl
    (fun (b : Option (Nat × Qp)) x =>
      match b with
      | none => some x
      | some y => if s.score y.2 < s.score x.2 then some x else b) none

/-- Every engine's load lies within an eighth of the mean (R361). -/
def State.balanced (s : State) : Bool :=
  let n := s.engineList.length
  let sum := s.engineList.foldl (fun t e => t + s.engineLoad e) 0
  s.engineList.all fun e => decide (8 * s.engineLoad e * n ≤ 9 * sum) && decide (7 * sum ≤ 8 * s.engineLoad e * n)

/-- Balance the engines: while one lies outside an eighth of the mean, the QP of highest score on the most loaded moves to the
least loaded, if that lowers the larger of the two. The first argument is the number of moves left. -/
def State.balance : Nat → State → State
  | 0, s => s
  | n + 1, s =>
    match s.mostEngine, s.leastEngine with
    | some a, some b =>
      if s.balanced || !s.moveRoom then s
      else
        match s.topOf a with
        | none => s
        | some x =>
          if s.engineLoad b + x.2.load < s.engineLoad a then State.balance n (s.startMove x.1 (.engine b) false) else s
    | _, _ => s

/-! ## Residence (R348, R350) -/

/-- A spilled QP's rank exceeds an on-die QP's by enough for an exchange (R348, R350): a higher class, or in the same class a
score higher by a quarter at least. -/
def beats (a b : Nat × Nat) : Bool :=
  decide (a.1 > b.1) || (a.1 == b.1 && decide (4 * a.2 ≥ 5 * b.2) && decide (a.2 > b.2))

/-- Insert by rank, the highest first. -/
def State.insertRank (s : State) (x : Nat × Qp) : List (Nat × Qp) → List (Nat × Qp)
  | [] => [x]
  | y :: r =>
    let a := s.rank x.2
    let b := s.rank y.2
    if b.1 < a.1 || (b.1 == a.1 && decide (b.2 < a.2)) then x :: y :: r else y :: s.insertRank x r

/-- Spilled QPs that a promotion may take, the highest rank first. -/
def State.candidates (s : State) : List (Nat × Qp) :=
  (s.qps.filter fun x => x.2.residence == .spilled && !s.moving x.1 && !s.plc.retry.contains x.1).foldl
    (fun l x => s.insertRank x l) []

/-- Start a promotion: its record is read, unless a service load has it already (R351, R358). -/
def State.startPromote (s : State) (q : Nat) (p : Qp) : State :=
  let s := s.startMove q .promote p.serviceLoaded
  match p.record with
  | none => s
  | some r => if p.serviceLoaded || p.loading then s else s.spillRead q r

/-- Start a demotion: a record is taken and written (R358). -/
def State.startDemote (s : State) (q : Nat) : State :=
  match s.nextFree with
  | none => s
  | some r => ((s.takeRecord.startMove q .demote false).modQp q fun p => { p with record := some r }).spillWrite q r

/-- Demotions in flight: slots that will be free. -/
def State.demoting (s : State) : Nat := (s.plc.moves.filter fun m => m.2.1 == .demote).length

/-- Residence moves of the epoch, in order of rank: into a free slot, or a demotion that makes one for the next epoch. ready
counts slots that earlier demotions will free. The state comes with the number of moves left. -/
def State.residence : List (Nat × Qp) → Nat → Nat → State → Nat × State
  | [], _, n, s => (n, s)
  | _, _, 0, s => (0, s)
  | (q, p) :: r, ready, n + 1, s =>
    if !s.moveRoom then (n + 1, s)
    else if s.slotFree p.fn then State.residence r ready n (s.startPromote q p)
    else if ready > 0 then State.residence r (ready - 1) (n + 1) s
    else
      match s.lowest (s.victims p.fn) with
      | none => State.residence r 0 (n + 1) s
      | some v =>
        if beats (s.rank p) (s.rank v.2) && s.nextFree.isSome && !s.longAny .spillRevoke then
          State.residence r 0 n (s.startDemote v.1)
        else State.residence r 0 (n + 1) s

/-! ## Sleeve choice (R346, R362, R363) -/

/-- SLEEVE hint of a flow: that of the first QP whose latest descriptor used it. -/
def State.flowHint (s : State) (k : Nat) : Nat :=
  ((s.qps.filter fun x => (x.2.lastFlow.map fun f => flowKey f.1 f.2) == some k).map fun x => s.sleeveHint (some x.1)).find?
    (· != 0) |>.getD 0

/-- A Sleeve is in SLEEVE_MASK. -/
def State.inMask (s : State) (sl : Sleeve) : Bool := bitAt s.plc.sleeveMask.toNat sl.num

/-- Where a flow should go from its Sleeve, and whether the move counts against MAX_MIGRATIONS. -/
def State.flowMove (s : State) (k : Nat) (f : TxFlow) : Option (Sleeve × Bool) :=
  let o := f.sleeve.other
  if !f.live || f.silent || !s.slvUp o || !s.inMask o then none
  else if !s.inMask f.sleeve then some (o, false)
  else if s.slvFit o && s.pickSleeve k (s.flowHint k) = o then some (o, true)
  else none

/-- Move a flow, or hold it for a flowlet boundary (R321). -/
def State.moveFlow (s : State) (k : Nat) (f : TxFlow) (sl : Sleeve) : State :=
  let s := s.modFlow k fun f => { f with hold := some sl }
  if f.unacked.isEmpty then s.flowlet k else s.tpCount 0x0A fun t => { t with hold := t.hold + 1 }

/-- The Sleeve changes of an epoch; the first argument lists the flows, the second is the number of moves left. -/
def State.flowMoves : List (Nat × TxFlow) → Nat → State → State
  | [], _, s => s
  | (k, f) :: r, n, s =>
    match s.flowMove k f with
    | none => State.flowMoves r n s
    | some (sl, counts) =>
      if !counts then State.flowMoves r n (s.moveFlow k f sl)
      else if n = 0 then State.flowMoves r 0 s
      else State.flowMoves r (n - 1) (s.moveFlow k f sl)

/-- A hold that has found no boundary ends with the epoch: its flow keeps its Sleeve and goes on (R362). -/
def State.endHolds (s : State) : State :=
  let ks := tkeys (tkeep s.tp.tx fun _ f => f.hold.isSome)
  ks.foldl (fun s k => (s.modFlow k fun f => { f with hold := none }).pumpFlow k) s

/-! ## Retention (R367, R368) -/

/-- The function's tenant is locked: its contexts stay on-die (R432). -/
def State.lockedIn (s : State) (fn : Nat) : Bool :=
  isVf fn && ((s.tenant (vfOf fn)).map fun t => t.tdisp != .unlocked).getD false

/-- The context that the retention plan demotes next: of the lowest rank among those out of guaranteed slots, and then among
the others; none of a locked tenant (R367, R432). -/
def State.planVictim (s : State) : Option (Nat × Qp) :=
  let all := s.qps.filter fun x => x.2.residence == .onDie && !s.lockedIn x.2.fn && s.quiescent x.1 x.2
  (s.lowest (all.filter fun x => decide (s.slotsOf x.2.fn > s.guaranteed x.2.fn))).or (s.lowest all)

/-- The retention plan demotes what does not fit, as far as migrations and records allow. -/
def State.planStep : Nat → State → State
  | 0, s => s
  | n + 1, s =>
    if s.excessContexts = 0 || !s.spillOpen || !s.moveRoom then s
    else
      match s.planVictim with
      | none => s
      | some v => if s.nextFree.isSome then State.planStep n (s.startDemote v.1) else s

/-- The plan goes on, and is complete once every context that does not fit has been demoted. -/
def State.planOn (s : State) : State := if s.plc.planning then (State.planStep 256 s).planDone else s

/-- No queue set has held work for 1 ms: LTR 3 ms, and a large configuration's plan starts (R54, R367). -/
def State.ltrLow (s : State) : State :=
  if s.link.state = .down || s.anyQueueWork || s.link.ltr = some 3000 then s
  else
    let s := s.sendLtr 3000
    if s.largeConfig then (s.modPlc fun x => { x with planning := true }).planOn else s

/-- LTR_3MS (R54, R367). -/
def execLtr3ms (s : State) := command State.ltrLow s

/-! ## The epoch -/

/-- A placement epoch: inputs, shares, failed accesses, evacuation, then within MAX_MIGRATIONS the residence, engine and
Sleeve moves, and the retention plan's next step. -/
def State.placeEpoch (s : State) : State :=
  if !s.operating then s
  else
    let s := s.sampleEpoch.shareOut.endHolds.spillRetries.evacuate
    let n := s.plc.maxMig.toNat
    let x := if s.spillOpen then State.residence s.candidates s.demoting n s else (n, s)
    let before := x.2.plc.moves.length
    let s := State.balance x.1 x.2
    let left := x.1 - (s.plc.moves.length - before)
    let s := State.flowMoves s.tp.tx left s
    let s := (0 :: tkeys s.prov.groups).foldl (fun s g => (([Arb.host, .sla, .slb].foldl (fun s a => s.moveIn a g) s).kickGroup g)) s
    s.regrantAll.planOn

/-- PLACEMENT_EPOCH (R344). -/
def execPlacementEpoch (s : State) := command State.placeEpoch s

/-! ## Migrations (R358) -/

/-- A QP can be quiesced: none of its units is committing and no host read of it is outstanding. -/
def State.quiesces (s : State) (q : Nat) : Bool :=
  !(s.units.any fun u => u.2.owner.qp? == some q && u.2.committed && !u.2.emitted) &&
    !(s.tags.any fun t => t.2.state == .outstanding && t.2.obj == q &&
        (t.2.role == RdRole.descriptor || t.2.role == .payload))

/-- The record of a demotion has been emitted. -/
def State.recordOut (s : State) (q : Nat) : Bool :=
  !s.plc.retry.contains q && !(s.hostq.any fun i => match i.kind with
    | .write _ _ _ _ .spill o _ => o == q
    | _ => false)

/-- Phase 2 cannot quiesce the QP: the move is abandoned; what waits for a spilled context asks for it again. -/
def State.abandon (q : Nat) (s : State) : State :=
  let kept := ((s.qp q).map fun p => p.keptDoorbell.isSome || p.keptCq.isSome).getD false
  let s := s.dropMove q
  if kept then s.serviceLoad q else s

/-- Phase 1 of a migration has ended: the record of a promotion is read, that of a demotion emitted. -/
def State.prepared (s : State) (q : Nat) (mv : Move) (two : Bool) : Bool :=
  match mv with
  | .promote => two
  | .demote => s.recordOut q
  | .engine _ => true

/-- The switch of a migration whose phase 1 has ended, quiescing for ns nanoseconds; one that cannot quiesce within 2 us is
abandoned. -/
def State.migrate (q ns : Nat) (s : State) : State :=
  match s.plc.moves.find? (·.1 == q), s.qp q with
  | some (_, mv, two), some p =>
    let take (s : State) : State := s.modPlc fun x =>
      { x with moves := x.moves.filter (fun m => m.1 != q), quiesceMax := satOfNat 16 (max x.quiesceMax.toNat ns) }
    if !s.prepared q mv two then s
    else if ns > 2000 || !s.quiesces q then s.abandon q
    else
      match mv with
      | .promote => (((take s).promoted q).deliverHeld q).fetch q
      | .demote => if s.quiescent q p then ((take s).demoted q).planOn else s.abandon q
      | .engine e =>
        let s := ((take s).modPlc fun x => { x with engMove := x.engMove + 1 }).modQp q fun p =>
          { p with engine := e, residence := p.residence.settled }
        (s.occFn 0x0802 1 p.fn).startUnits q
  | _, _ => s

/-- MIGRATION_SWITCH (R358). -/
def execMigrationSwitch (qp quiesceNs : Nat) (s : State) := command (State.migrate qp quiesceNs) s

/-- MIGRATION_ABANDON (R358). -/
def execMigrationAbandon (qp : Nat) (s : State) := command (State.abandon qp) s

/-! ## Spill records (R351, R355, R356) -/

/-- No read of a QP's record is waiting or outstanding. -/
def State.readOver (s : State) (q : Nat) : Bool :=
  !(s.tags.any fun t => t.2.role == RdRole.spill && t.2.obj == q && t.2.state == .outstanding) &&
    !(s.waits.any fun w => w.role == RdRole.spill && w.obj == q)

/-- A read of a QP's record that has failed leaves no tag and no wait. -/
def State.readGone (s : State) (q : Nat) : State :=
  { s with tags := tkeep s.tags (fun _ t => !(t.role == RdRole.spill && t.obj == q)),
           waits := s.waits.filter (fun w => !(w.role == RdRole.spill && w.obj == q)) }

/-- A record is rejected: the context is lost and the QP wiped (R356). -/
def State.recordLost (s : State) (q : Nat) (p : Qp) : State :=
  let s := (s.modPlc fun x => { x with spillFail := satInc x.spillFail }).modQp q fun p =>
    { p with state := .draining, cause := csHostAbort }
  (((s.qpStateEvent p.fn q 0x03 csHostAbort).spillForget q).wipeQp q).raise 642 faultPlain

/-- A spill record read ends (R351, R355, R356). -/
def State.spillLoaded (q : Nat) (o : SpillOutcome) (s : State) : State :=
  match s.qp q with
  | none => s
  | some p =>
    let addr := s.prov.spillBase.toNat + 512 * (p.record.getD 0)
    if !p.loading || s.plc.retry.contains q || !s.qpAway q p then s
    else
      match o with
      | .verified =>
        if !s.readOver q then s
        else
          let s := s.spillCharge p.fn
          if p.residence = .migrating then
            (s.modPlc fun x => { x with moves := x.moves.map fun m => if m.1 == q then (m.1, m.2.1, true) else m }).modQp q
              fun p => { p with loading := false }
          else
            let s := s.modQp q fun p => { p with loading := false, serviceLoaded := true }
            (((s.applyKept q).deliverHeld q).fetch q).startUnits q
      | .rejected => if s.readOver q then s.recordLost q p else s
      | .translationFault c => (s.readGone q).spillFault q addr false c
      | .hostError => (s.readGone q).spillHostError q

/-- SPILL_LOAD_COMPLETE (R351, R355, R356). -/
def execSpillLoadComplete (qp : Nat) (outcome : SpillOutcome) (s : State) := command (State.spillLoaded qp outcome) s

/-- A service-loaded QP that is quiescent again is written back (R351). -/
def State.writeBack (q : Nat) (s : State) : State :=
  match s.qp q with
  | none => s
  | some p =>
    match p.record with
    | none => s
    | some r =>
      if p.serviceLoaded && s.spillOpen && !s.moving q && s.quiescent q p then
        (s.modQp q fun p => { p with serviceLoaded := false }).spillWrite q r
      else s

/-- SPILL_WRITE_BACK (R351). -/
def execSpillWriteBack (qp : Nat) (s : State) := command (State.writeBack qp) s

end Sys2Proof.Machine
end

