-- ==== Sys2Proof/Machine/Energy.lean ====
section
/-! DEFINITION. The ledger's windows and the planner (R370 to R384): thresholds and pauses, the accounting window's boundary
and the planning epoch. -/
namespace Sys2Proof.Machine

/-- Change the ledger and planner. -/
def State.modEl (s : State) (g : El → El) : State := { s with el := g s.el }

/-! ## Thresholds and pauses (R377, R378) -/

/-- A charge has reached 80 % of a limit. -/
def nearLimit (used limit : Nat) : Bool := decide (5 * used ≥ 4 * limit)

/-- Report THRESHOLD of a function once in a window. -/
def State.thresholdFn (s : State) (fn : Nat) : State :=
  let f := s.fn fn
  match f.limit with
  | none => s
  | some l =>
    if !f.thresholdSent && nearLimit f.used l then
      (s.modFn fn fun f => { f with thresholdSent := true }).allowanceEvent fn none 0x01 f.used
    else s

/-- Pause every queue set of a function whose CONSUMED has reached its limit. -/
def State.pauseFn (s : State) (fn : Nat) : State :=
  let f := s.fn fn
  if f.exhausted && !f.paused then
    let s := ((s.modFn fn fun f => { f with paused := true }).modEl fun e => { e with pauses := e.pauses + 1 }).occFn 0x0900 1 fn
    s.allowanceEvent fn none 0x02 f.used
  else s

/-- Report THRESHOLD of a queue set once in a window. -/
def State.thresholdSet (s : State) (fn q : Nat) : State :=
  match tget (s.fn fn).qsets q with
  | none => s
  | some x =>
    if x.subAllowance ≠ 0 && !x.thresholdSent && nearLimit (x.charged / fJ) x.subAllowance.toNat then
      (s.modQset fn q fun x => { x with thresholdSent := true }).allowanceEvent fn (some q) 0x01 (x.charged / fJ)
    else s

/-- Pause one queue set whose charge has reached its sub-allowance. -/
def State.pauseSet (s : State) (fn q : Nat) : State :=
  match tget (s.fn fn).qsets q with
  | none => s
  | some x =>
    if x.exhausted && !x.paused then
      let s := ((s.modQset fn q fun x => { x with paused := true }).modEl fun e => { e with pauses := e.pauses + 1 }).occFn
        0x0900 1 fn
      s.allowanceEvent fn (some q) 0x02 (x.charged / fJ)
    else s

/-- A charge has come to 80 % or to the whole of a limit. -/
def State.comparePause (fn : Nat) (qset : Option Nat) (s : State) : State :=
  if !s.fnReady fn then s
  else
    match qset with
    | none => (s.thresholdFn fn).pauseFn fn
    | some q => (s.thresholdSet fn q).pauseSet fn q

/-- QUEUE_SET_PAUSE (R377, R378). -/
def execQueueSetPause (fn : Nat) (qset : Option Nat) (s : State) := command (State.comparePause fn qset) s

/-! ## The accounting window (R375, R376, R379) -/

/-- Every limit that no longer binds ends its pause. -/
def State.resumeAll (s : State) : State :=
  let s := (tkeys s.fns).foldl State.resumeFnPause s
  (tkeys s.fns).foldl (fun s fn => (tkeys (s.fn fn).qsets).foldl (fun s q => s.resumeSetPause fn q) s) s

/-- A value scaled by B over the sum set, rounded down, when the sum does not fit (R376). -/
def scaleTo (budget sum v : Nat) : Nat := if sum > budget then v * budget / sum else v

/-- A function at the start of a window. -/
def Fn.window (f : Fn) (budget sum : Nat) : Fn :=
  { f with consumed := 0, borrowed := 0, thresholdSent := false, exempt := f.allowSet == 0,
           allowance := BitVec.ofNat 64 (scaleTo budget sum f.allowSet.toNat),
           qsets := tmap f.qsets fun _ x => { x with charged := 0, thresholdSent := false } }

/-- The power is on and PERST_N is deasserted: windows follow one another. -/
def State.metering (s : State) : Bool := !s.boot.perst && (s.boot.mode == .boot || s.boot.mode == .oper || s.boot.mode == .safe)

/-- A window ends and the next begins, with the window length, allowances and reserve that then apply. -/
def State.windowTurn (s : State) : State :=
  if !s.metering then s
  else
    let old := s.budget
    let s := s.modEl fun e => { e with window := s.windowNext, windowAt := s.clk.localCount, windows := e.windows + 1,
                                       closing := some (e.devWindow, old), devWindow := 0, epochInWindow := 0 }
    let b := s.budget
    let set := s.allowances none
    let sum := set + s.el.reserve.toNat
    let beyond := decide (sum > b)
    let sum := if beyond then sum else 0
    let res := BitVec.ofNat 64 (scaleTo b sum s.el.reserve.toNat)
    let s := { s with fns := tmap s.fns fun _ f => f.window b sum }
    (s.modEl fun e => { e with oversub := beyond, reserveForce := res, reserveLeft := res }).resumeAll

/-- ACCOUNTING_WINDOW_BOUNDARY (R375, R376, R379). -/
def execAccountingWindowBoundary (s : State) := command State.windowTurn s

/-! ## Closing an epoch (R370, R371, R374) -/

/-- Domains that a rail feeds (R371). -/
def railFeeds (r : Nat) : List Nat :=
  match r with
  | 0 => [1, 2, 3, 4, 5, 6, 7, 8, 9, 10]
  | 1 => [1, 3, 4, 5, 6]
  | 2 | 3 => [2]
  | 4 | 5 => [7, 8, 9]
  | 7 => [0]
  | _ => []

/-- Share a rail's energy out among the domains it feeds: the parts are free values that add up to it (log entry 3), because
the spec does not give the model they follow. -/
def State.shareRail (s : State) : List Nat → Nat → State
  | [], _ => s
  | [d], e => s.modEl fun x => { x with domTotal := lmod x.domTotal d fun n => n + e }
  | d :: r, e =>
    let part := s.takeFree.1.toNat % (e + 1)
    (s.takeFree.2.modEl fun x => { x with domTotal := lmod x.domTotal d fun n => n + part }).shareRail r (e - part)

/-- The energy of the epoch that closes, in nJ, on one rail. -/
def State.closeRail (rails : List Nat) (s : State) (r : Nat) : State :=
  let e := lget rails r 0
  (s.modEl fun x => { x with railTotal := lmod x.railTotal r fun n => n + e }).shareRail (railFeeds r) e

/-- The energy of an epoch on each rail as the ledger takes it without samples, while LIN is below Run: every domain at its
calibrated state power (R374). -/
def State.stateRails (s : State) : List Nat :=
  (List.range 8).map fun r =>
    (railFeeds r).foldl (fun n d => n + Config.statePower r d (pwrCode ((s.pwr.doms.getD d Dom.off).state))) 0

/-- Close an epoch that had no samples (R374). -/
def State.closeUnsampled (s : State) : State :=
  let doms := (List.range 11).map fun d => (List.range 8).foldl (fun n r =>
    if (railFeeds r).contains d then n + Config.statePower r d (pwrCode ((s.pwr.doms.getD d Dom.off).state)) else n) 0
  s.modEl fun x =>
    { x with railTotal := List.zipWith (· + ·) x.railTotal s.stateRails, domTotal := List.zipWith (· + ·) x.domTotal doms }

/-- Device energy of an epoch over the eight rails. -/
def railSum (rails : List Nat) : Nat := (rails.take 8).foldl (· + ·) 0

/-- The energy of the epoch goes to the window it belongs to; a window that has ended counts what it drew above B, which is
source 707 (R382, R441). -/
def State.closeDevice (s : State) (e : Nat) : State :=
  match s.el.closing with
  | some (n, b) =>
    let beyond := (n + e) / 1000 - b
    let s := s.modEl fun x =>
      { x with devTotal := x.devTotal + e, closing := none, overrun := x.overrun + BitVec.ofNat 64 beyond }
    if beyond > 0 then s.raise 707 faultPlain else s
  | none => s.modEl fun x => { x with devTotal := x.devTotal + e, devWindow := x.devWindow + e }

/-- A pending coefficient set takes effect and is logged (R373, R461). -/
def State.applyCoef (s : State) : State :=
  if s.el.coefPending then
    let s := s.modEl fun e => { e with coefPending := false, coefSet := e.coefSet + 1, coefGen := e.coefGen + 1 }
    s.log 0x0B 0x01 (leBytes 2 s.el.coefGen.toNat)
  else s

/-- k after an epoch (R381). -/
def nextK (k : Rat) (measured base forecast : Nat) : Rat :=
  if forecast < 1000 then k
  else
    let r : Rat := ((measured : Int) - 1000 * (base : Int) : Int) / ((1000 * forecast : Nat) : Rat)
    let k := k + (r - k) / 8
    if k < 1 / 2 then 1 / 2 else if k > 2 then 2 else k

/-! ## Levers (R383) -/

/-- Settings of the five levers: host lanes, Sleeve A and B transmit lanes, engines, core clock code. -/
structure Levers where
  host : Nat
  sla : Nat
  slb : Nat
  engines : Nat
  clk : Nat
  deriving DecidableEq, Repr

/-- The settings in force. -/
def State.levers (s : State) : Levers :=
  { host := s.link.lanes, sla := s.slvA.txLanes, slb := s.slvB.txLanes, engines := s.el.engines, clk := s.el.coreClk.toNat }

/-- Modelled base energy of settings for one epoch (R381). -/
def Levers.base (l : Levers) : Nat := Config.baseModel l.host l.sla l.slb l.engines l.clk

/-- Setting of lever i. -/
def Levers.get (l : Levers) (i : Nat) : Nat :=
  match i with
  | 0 => l.host
  | 1 => l.sla
  | 2 => l.slb
  | 3 => l.engines
  | _ => l.clk

/-- Set lever i. -/
def Levers.set (l : Levers) (i v : Nat) : Levers :=
  match i with
  | 0 => { l with host := v }
  | 1 => { l with sla := v }
  | 2 => { l with slb := v }
  | 3 => { l with engines := v }
  | _ => { l with clk := v }

/-- Values of a lever, narrowest first: the host's only in flit mode, a Sleeve's only while it is UP and no change of its
width is under way, the engines up to the number in ENGINE_MASK. -/
def State.leverValues (s : State) (i : Nat) : List Nat :=
  let lanes (v : Slv) : List Nat :=
    if v.state = .up && v.shedMask = 0 then [2, 4, 6, 8].filter fun n => decide (n ≤ v.txAvail) else []
  match i with
  | 0 => if s.link.state = .l0 && s.link.flit then [2, 4, 8, 16].filter fun n => decide (n ≤ s.link.trained) else []
  | 1 => lanes s.slvA
  | 2 => lanes s.slvB
  | 3 => (List.range (popcount s.plc.engineMask.toNat 16)).map (· + 1)
  | _ => [2, 1, 0]

/-- TLP payload of the host port at x16 in flit mode, in B per epoch of 1 ms (R24). -/
def hostCap (rate : Nat) : Nat :=
  match rate with
  | 7 => 220000000
  | 6 => 110000000
  | 5 => 54000000
  | 4 => 27000000
  | 3 => 13500000
  | 2 => 6900000
  | 1 => 3400000
  | _ => 0

/-- Bytes per epoch of a number of engines at a core clock: 40 GB/s each at 1.25 GHz (R383). -/
def engineCap (n clk : Nat) : Nat :=
  40000000 * n * (match clk with
    | 0 => 4
    | 1 => 3
    | _ => 2) / 4

/-- Capacity of lever i at settings, in B per epoch. -/
def State.capacity (s : State) (i : Nat) (l : Levers) : Nat :=
  match i with
  | 0 => hostCap s.link.rate * l.host / 16
  | 1 => slvCap s.slvA.rate l.sla
  | 2 => slvCap s.slvB.rate l.slb
  | _ => engineCap l.engines l.clk

/-! ## The forecast (R381) -/

/-- Queued bytes of a QP: what remains of its fetched descriptors, and the entries not fetched at the mean of its
descriptors. -/
def Qp.queued (p : Qp) : Nat :=
  p.descs.foldl (fun n d => if d.status.isNone then n + (d.len - d.nextByte) else n) 0 +
    (p.prod - p.cons).toNat * p.meanBytes / 256

/-- The Sleeve of a QP's latest flow. -/
def State.pathOf (s : State) (p : Qp) : Sleeve :=
  ((p.lastFlow.bind fun f => tget s.tp.tx (flowKey f.1 f.2)).map (·.sleeve)).getD .a

/-- Coefficient of a flit on a Sleeve at settings. -/
def State.flitCoef (s : State) (l : Levers) (sl : Sleeve) : Nat :=
  s.coef (flitIdx (s.slv sl).rate (l.get (1 + sl.num)))

/-- Forecast of moving bytes through a Sleeve and the host port, in fJ. -/
def State.moveCost (s : State) (l : Levers) (sl : Sleeve) (bytes : Nat) : Nat :=
  bytes * (s.coef s.hostByteIdx + s.coef 0x14) + (bytes + 223) / 224 * s.flitCoef l sl

/-- Forecast of a QP's queued work, in fJ. -/
def State.qpCost (s : State) (l : Levers) (p : Qp) : Nat :=
  s.moveCost l (s.pathOf p) p.queued + (p.prod - p.cons).toNat * s.coef 0x16

/-- k times an energy of fJ, in uJ. -/
def State.scaled (s : State) (e : Nat) : Nat := ((e : Rat) * s.el.k / (fJ : Rat)).floor.toNat

/-- Forecast of each function with queued work, in uJ. -/
def State.fnForecasts (s : State) (l : Levers) : Table Nat :=
  let costs := s.qps.foldl (fun t x => if x.2.queued = 0 then t else tput t x.2.fn (tgetD t x.2.fn 0 + s.qpCost l x.2)) []
  tmap costs fun _ e => s.scaled e

/-- The dynamic forecast F at settings: the functions' work and the inbound bytes of each path in the last epoch (R381). -/
def State.forecastAt (s : State) (l : Levers) : Nat :=
  (s.fnForecasts l).foldl (fun n p => n + p.2) 0 + s.scaled (s.moveCost l .a s.el.inboundPrev.1) +
    s.scaled (s.moveCost l .b s.el.inboundPrev.2)

/-- Bytes that the path of lever i is to carry in the epoch: of a Sleeve, whose lever is the width of both directions, the
larger of what leaves and what arrives (log entry 13). -/
def State.demandOf (s : State) (i : Nat) : Nat :=
  let of (c : Qp → Bool) : Nat := s.qps.foldl (fun n x => if c x.2 then n + x.2.queued else n) 0
  match i with
  | 0 => of (fun _ => true) + s.el.inboundPrev.1 + s.el.inboundPrev.2
  | 1 => max (of fun p => s.pathOf p == .a) s.el.inboundPrev.1
  | 2 => max (of fun p => s.pathOf p == .b) s.el.inboundPrev.2
  | _ => of fun _ => true

/-! ## Target and levers (R382, R384) -/

/-- The epoch target T, in uJ. -/
def State.epochTarget (s : State) : Nat :=
  min 44000 ((s.budget - s.el.devWindow / 1000) / max 1 (s.el.window - s.el.epochInWindow))

/-- Need of lever i: its demand, or the admitted share A of F, over 0.8. -/
def State.need (s : State) (i f a : Nat) : Nat :=
  let d := s.demandOf i
  (if f > a then d * a / f else d) * 10 / 8

/-- The next narrower value of a lever. -/
def narrower (vals : List Nat) (v : Nat) : Option Nat := (vals.takeWhile (· != v)).getLast?

/-- The smallest value whose capacity meets a need, else the widest. -/
def State.meets (s : State) (i need : Nat) (l : Levers) : List Nat → Nat
  | [] => l.get i
  | [v] => v
  | v :: r => if s.capacity i (l.set i v) ≥ need then v else s.meets i need l r

/-- What an epoch finds of lever i: its new setting if it widens at once, and for how many epochs the narrower value would
have met need. -/
def State.judgeLever (s : State) (l : Levers) (f a i : Nat) : Nat × Nat :=
  let vals := s.leverValues i
  let need := s.need i f a
  let v := l.get i
  if vals.isEmpty then (v, 0)
  else if !vals.contains v || s.capacity i l < need then (s.meets i need l vals, 0)
  else
    match narrower vals v with
    | none => (v, 0)
    | some n => (v, if s.capacity i (l.set i n) ≥ need then lget s.el.narrowRun i 0 + 1 else 0)

/-- Forecast energy of an epoch at settings. -/
def State.total (s : State) (l : Levers) : Nat := l.base + s.forecastAt l

/-- The lever that narrows in this epoch: of those whose narrower value has met need in 4 epochs and costs less, the one
that saves most. -/
def State.toNarrow (s : State) (l : Levers) (runs : List Nat) : Option (Nat × Nat) :=
  let cand (i : Nat) : Option (Nat × Nat × Nat) :=
    match narrower (s.leverValues i) (l.get i) with
    | none => none
    | some n => if lget runs i 0 ≥ 4 && s.total (l.set i n) < s.total l then some (i, n, s.total l - s.total (l.set i n)) else none
  (((List.range 5).filterMap cand).foldl (fun (b : Option (Nat × Nat × Nat)) x =>
    match b with
    | none => some x
    | some y => if y.2.2 < x.2.2 then some x else b) none).map fun x => (x.1, x.2.1)

/-- The settings of the epoch and the runs that R384 counts. -/
def State.decideLevers (s : State) (f a : Nat) : Levers × List Nat :=
  let l := s.levers
  let found := (List.range 5).map (s.judgeLever l f a)
  let wide := (found.zipIdx).foldl (fun (x : Levers) (p : (Nat × Nat) × Nat) => x.set p.2 p.1.1) l
  let runs := found.map (·.2)
  if wide ≠ l then (wide, runs)
  else
    match s.toNarrow l runs with
    | none => (l, runs)
    | some (i, v) => (l.set i v, lmod runs i fun _ => 0)

/-! ## The planning epoch (R380) -/

/-- A Sleeve's transmit width follows its lever through SHED, and its receive width through SHED REQUEST (R289, R383). -/
def State.leadSleeve (s : State) (sl : Sleeve) (n : Nat) : State :=
  let s := s.shedReceive sl n
  let v := s.slv sl
  if n = v.txLanes || v.state ≠ .up || v.shedMask ≠ 0 then s
  else if n < v.txLanes then s.shedTo sl (lowestLanes v.txMask n)
  else s.shedWiden sl (v.txMask ||| lowestLanes (v.txSet &&& ~~~v.retiredTx &&& ~~~v.txMask) (n - v.txLanes))

/-- Mask of the lowest n engines of a mask. -/
def lowEngines (mask : W16) (n : Nat) : W16 :=
  ((List.range 16).foldl (fun (x : Nat × W16) e =>
    if bitAt mask.toNat e && x.1 < n then (x.1 + 1, x.2 ||| BitVec.ofNat 16 (2 ^ e)) else x) (0, 0)).2

/-- The host width follows its lever: a request for L0p (R35, R383). -/
def State.leadHost (s : State) (n : Nat) : State := if n = s.link.lanes then s else s.emit (.l0p n)

/-- The settings take effect: L0p, SHED, engines marked active, core clock. -/
def State.setLevers (s : State) (l : Levers) : State :=
  let s := s.leadHost l.host
  let s := s.modEl fun e => { e with hostW := l.host, slaW := l.sla, slbW := l.slb, engines := l.engines,
                                     coreClk := BitVec.ofNat 2 l.clk }
  ((s.modPlc fun x => { x with engActive := lowEngines x.engineMask l.engines }).leadSleeve .a l.sla).leadSleeve .b l.slb

/-- A QP's mean descriptor size, smoothed over epochs (R381). -/
def Qp.planEpoch (p : Qp) : Qp :=
  if p.epDescs = 0 then p
  else { p with meanBytes := p.meanBytes - p.meanBytes / 4 + 64 * (p.epBytes / p.epDescs), epDescs := 0, epBytes := 0 }

/-- The epoch's plan: forecast, target, admitted energy and levers; what may start again starts. -/
def State.plan (s : State) : State :=
  let l := s.levers
  let f := s.forecastAt l
  let t := s.epochTarget
  let x := s.decideLevers f (t - l.base)
  let f := s.forecastAt x.1
  let a := t - x.1.base
  let fns := s.fnForecasts x.1
  let s := s.modEl fun e =>
    { e with target := BitVec.ofNat 32 t, forecast := f, admitted := a, fnForecast := fns, throttle := decide (f > a),
             narrowRun := x.2, epochCharge := [], throttled := if f > a then e.throttled + 1 else e.throttled,
             epochInWindow := e.epochInWindow + 1 }
  let s := if f > a then s.occ 0x0901 1 none none else s
  (tkeys s.qps).foldl State.startUnits (s.setLevers x.1).resumeAll

/-- The epoch's energy enters the rails' and domains' accounts (R370, R371, R374). -/
def State.closeRails (rails : List Nat) (s : State) : State :=
  if (s.dom .lin).state = .run then (List.range 8).foldl (State.closeRail rails) s else s.closeUnsampled

/-- A planning epoch: the epoch before it is closed with the energy its rails have measured, in nJ; then the plan. -/
def State.planEpoch (rails : List Nat) (s : State) : State :=
  if !s.metering then s
  else
    let e := railSum (if (s.dom .lin).state = .run then rails else s.stateRails)
    let k := nextK s.el.k e s.levers.base s.el.forecast
    let s := (s.closeRails rails).closeDevice e
    let s := s.applyCoef.modEl fun x => { x with k := k, inboundPrev := x.inboundNow, inboundNow := (0, 0) }
    let s := { s with qps := tmap s.qps fun _ p => p.planEpoch }
    if s.operating then s.plan else s.modEl fun x => { x with forecast := 0, epochInWindow := x.epochInWindow + 1 }

/-- PLANNING_EPOCH (R371, R373, R380 to R384). -/
def execPlanningEpoch (rails : List Nat) (s : State) := command (State.planEpoch rails) s

end Sys2Proof.Machine
end

