-- ==== Sys2Proof/Machine/FlitIn.lean ====
section
/-! DEFINITION. A flit arrives on a Sleeve (R270 to R276, R282, R294, R295): corrected symbols, the CRC under the expected
sequence, ACK and NAK, acceptance, groups held until their tag verifies, and delivery of the bypass message and of the packet
that the payloads make up. -/
namespace Sys2Proof.Machine

/-! ## The bypass slot (R275, R277, R305) -/

/-- TYPE values that a Sleeve discards and counts: the reserved ones and the Belt's (R275, R276, R305, R330). -/
def bypassReserved (t : Nat) : Bool := (decide (0x0A ≤ t) && decide (t ≤ 0x1F)) || decide (0x26 ≤ t)

/-- Sender, addressee, VC and epochs of a transport message (R305). -/
def tmsgAt (b : Bytes) : TMsg :=
  { src := beAt 1 3 b, dst := beAt 4 3 b, vc := beAt 7 1 b, srcEpoch := BitVec.ofNat 16 (beAt 12 2 b),
    dstEpoch := BitVec.ofNat 16 (beAt 14 2 b) }

/-- A SHED message by its SUB (R277, R289). -/
def State.shedIn (sl : Sleeve) (sub : Nat) (mask : Byte) (s : State) : State :=
  match sub with
  | 1 => s.shedAsked sl mask
  | 2 => s.shedReadyIn sl mask
  | 3 => s.shedSwitched sl mask
  | 4 => s.shedRefused sl
  | _ => s

/-- A QUIET message by its SUB (R277, R292). -/
def State.quietIn (sl : Sleeve) (sub : Nat) (s : State) : State :=
  match sub with
  | 1 => s.quietAsk sl
  | 2 => s.quietYes sl
  | 3 => s.quietNo sl
  | _ => s

/-- The receiver acts on the bypass message of a sequenced flit (R276). MAC is used where its group ends; FRAY and LINK_DOWN
come in IDLE flits only (R277). -/
def State.bypassIn (sl : Sleeve) (b : Bytes) (s : State) : State :=
  let m := tmsgAt b
  let seq := BitVec.ofNat 24 (beAt 8 3 b)
  let at_ (i : Nat) : Byte := (b.drop i).headD 0
  match beAt 0 1 b with
  | 0x01 => s.helloIn sl (at_ 1) (at_ 2) (beAt 7 2 b)
  | 0x02 => s.assignNode sl (beAt 4 3 b)
  | 0x03 => s.shedIn sl (beAt 1 1 b) (at_ 2)
  | 0x04 => s.quietIn sl (beAt 1 1 b)
  | 0x07 => if beAt 1 1 b = 1 then s.keyIn sl (at_ 2) (BitVec.ofNat 64 (beAt 4 8 b)) else s
  | 0x09 => s.mgmtIn sl (at_ 1) (at_ 2) (b.drop 3)
  | 0x20 => s.onGrant sl m (BitVec.ofNat 32 (beAt 8 4 b))
  | 0x21 => s.onAck sl m seq
  | 0x22 => s.onNak sl m seq (at_ 11)
  | 0x23 => s.epochIn (beAt 1 3 b) (BitVec.ofNat 16 (beAt 8 2 b))
  | 0x24 => s.onWant sl m
  | 0x25 => s.onRetire sl m seq
  | t => if bypassReserved t then s.slvCount sl 9 fun v => { v with bypUnknown := satInc v.bypUnknown } else s

/-! ## Packets (R271) -/

/-- A flit's payload joins the packet under assembly; PKT_LAST and PKT_ONLY end one, which is received. -/
def State.payloadIn (sl : Sleeve) (kind : Nat) (d : Bytes) (s : State) : State :=
  let part := (s.slv sl).rxPkt
  let keep (p : Option Bytes) : State := s.modSlv sl fun v => { v with rxPkt := p }
  match kind with
  | 2 => keep (some d)
  | 3 => keep (part.map fun b => b ++ d)
  | 4 =>
    match part with
    | some b => (keep none).receive sl (parsePacket (b ++ d))
    | none => s
  | 5 => (keep none).receive sl (parsePacket d)
  | _ => s

/-- KIND of a flit. -/
def flitKind (flit : Bytes) : Nat := bits (beAt 0 4 flit) 18 15

/-- Deliver an accepted flit, its payload in the clear: first its bypass message, then what it carries of a packet (R276,
R282). -/
def State.deliverFlit (sl : Sleeve) (flit payload : Bytes) (s : State) : State :=
  if (s.slv sl).running then (s.bypassIn sl (slice 4 16 flit)).payloadIn sl (flitKind flit) payload else s

/-! ## Groups (R294, R295) -/

/-- Deliver the flits of a verified group: the flit at each COUNTER is deciphered under the group's key. -/
def State.deliverGroup (sl : Sleeve) (sess : List Bytes) (key : Nat) : Nat → List Bytes → State → State
  | _, [], s => s
  | c, f :: fs, s =>
    State.deliverGroup sl sess key (c + 1) fs (s.deliverFlit sl f (Config.linkPlain sess key c (slice 20 224 f)))

/-- The group held has verified: its flits count as accepted and are delivered. -/
def State.groupIn (sl : Sleeve) (s : State) : State :=
  let v := s.slv sl
  State.deliverGroup sl v.session v.rxKey.toNat (v.rxCounter.toNat - v.rxGroup.length) v.rxGroup
    (s.modSlv sl fun v => { v with rxGroup := [] })

/-- A group is held whose tag the next sequenced flit carries (R294). -/
def Slv.tagDue (v : Slv) : Bool := v.rxOn && !v.rxGroup.isEmpty && v.expect.toNat % 64 == 0

/-- The bypass slot of a flit is a MAC message whose tag verifies the group held. -/
def Slv.tagGood (v : Slv) (body : Bytes) : Bool :=
  body.headD 0 == 0x08 &&
    Config.linkTagOk v.session v.rxKey.toNat (v.rxCounter.toNat - v.rxGroup.length) v.rxGroup (body.drop 1)

/-- The peer's announced key comes into force at its COUNTER (R295). -/
def Slv.rxKeyed (v : Slv) : Slv :=
  match v.rxNext with
  | some (k, c) => if c = v.rxCounter then { v with rxKey := k, rxOn := true, rxNext := none } else v
  | none => v

/-- A good sequenced flit advances E, and COUNTER where the peer has announced a key (R282, R294). -/
def Slv.taken (v : Slv) : Slv :=
  let v := v.rxKeyed
  { v with expect := v.expect + 1, accepted := true, nakPending := false,
           rxCounter := if v.rxOn || v.rxNext.isSome then v.rxCounter + 1 else v.rxCounter }

/-- Accept a sequenced flit: under encryption it is held with its group, else it is delivered (R282, R295). -/
def State.flitTake (sl : Sleeve) (flit : Bytes) (s : State) : State :=
  let s := (s.modSlv sl Slv.taken).occ (slvClass sl + 0x11) 1 none none
  if (s.slv sl).rxOn then s.modSlv sl fun v => { v with rxGroup := v.rxGroup ++ [flit] }
  else s.deliverFlit sl flit (slice 20 224 flit)

/-- A sequenced flit with a good CRC; the first of a group decides on the group before it (R282, R294, R295). -/
def State.flitSeq (sl : Sleeve) (flit : Bytes) (s : State) : State :=
  let v := s.slv sl
  if !v.tagDue then s.flitTake sl flit
  else if !v.tagGood (slice 4 16 flit) then s.macFailed sl
  else
    let s := s.groupIn sl
    if (s.slv sl).running then s.flitTake sl flit else s

/-! ## Arrival (R270, R274, R282) -/

/-- Corrected symbols count for their receive lanes and the Sleeve (R270). -/
def State.fecIn (sl : Sleeve) (corrected : List Nat) (s : State) : State :=
  let per := (List.range 8).map fun i => (corrected.drop i).headD 0
  let n := per.foldl (· + ·) 0
  if n = 0 then s
  else
    (s.modSlv sl fun v =>
      { v with fecCorr := v.fecCorr + BitVec.ofNat 64 n,
               laneCorr := List.zipWith (fun (a : W64) k => a + BitVec.ofNat 64 k) v.laneCorr per }).occ (slvClass sl) n none none

/-- An IDLE flit ends NAK-pending; of its slot, FRAY and LINK_DOWN act (R271, R277, R282). -/
def State.idleIn (sl : Sleeve) (body : Bytes) (s : State) : State :=
  let s := s.modSlv sl fun v => { v with nakPending := false }
  match beAt 0 1 body with
  | 0x05 => s.frayIn sl
  | 0x06 => s.downIn sl
  | _ => s

/-- What a flit that arrived changes in ACK or NAK leaves at once: in an IDLE flit, unless a sequenced flit has gone out since
(R282). -/
def State.flitAnswer (sl : Sleeve) (before : Slv) (s : State) : State :=
  let v := s.slv sl
  if v.running && v.nextSeq == before.nextSeq && (v.ackSeq != before.ackSeq || v.nakPending != before.nakPending) then
    s.emit (.flit sl (v.idleFlit (zeros 16)))
  else s

/-- A flit arrives in PARAM or UP (R270, R274, R282). -/
def State.flitIn (sl : Sleeve) (fec : FecResult) (flit : Bytes) (s : State) : State :=
  let v := s.slv sl
  if !v.running then s
  else
    let s := s.fecIn sl fec.corrected
    let b := fit 256 flit
    let h := beAt 0 4 b
    let ack := BitVec.ofNat 12 (bits h 31 20)
    if fec.uncorrectable || crc64 (b.take 248) v.expect.toNat ≠ beAt 248 8 b then (s.flitBad sl fec.uncorrectable).flitAnswer sl v
    else if flitReserved h (flitKind b) b || !v.ackValid ack then s.slvProto sl
    else
      let s := s.linkHeader sl ack (bitAt h 19)
      (if flitKind b = 0 then s.idleIn sl (slice 4 16 b) else s.flitSeq sl b).flitAnswer sl v

/-- FLIT_RECEIVE (R270, R282). -/
def execFlitReceive (sl : Sleeve) (fec : FecResult) (flit : Bytes) (s : State) := command (State.flitIn sl fec flit) s

/-- The tag of the group held has been checked (R295). -/
def State.macIn (sl : Sleeve) (verified : Bool) (s : State) : State :=
  let v := s.slv sl
  if !v.running || !v.tagDue then s else if verified then s.groupIn sl else s.macFailed sl

/-- MAC (R295). -/
def execMac (sl : Sleeve) (verified : Bool) (s : State) := command (State.macIn sl verified) s

end Sys2Proof.Machine
end

