-- ==== Sys2Proof/Machine/PldmUpdate.lean ====
section
/-! DEFINITION. PLDM type 5, the firmware update over MCTP (R472 to R476): Lining is the firmware device. The device's one
session rule is that of R155. Completion codes and message layouts are those of the PLDM firmware update specification
(PRESUMED; log entry 34). -/
namespace Sys2Proof.Machine

/-! ## Codes -/

def ccNotInUpdate : Nat := 0x80
def ccAlreadyInUpdate : Nat := 0x81
def ccInvalidTransferLength : Nat := 0x83
def ccInvalidState : Nat := 0x84
def ccActivationNotRequired : Nat := 0x85
def ccRetryRequestUpdate : Nat := 0x8A

/-- Answer a type 5 command. -/
def State.fwSay (s : State) (b : Binding) (cmd cc : Nat) (data : Bytes) : State := s.pldmSay b 5 cmd cc data

/-- A request of the firmware device toward its update agent. -/
def State.fwAsk (s : State) (cmd : Nat) (data : Bytes) : State :=
  s.mctpSay s.lin.session.via (beBytes 1 1 ++ beBytes 1 5 ++ beBytes 1 cmd ++ data)

/-! ## The session -/

/-- Change the session. -/
def State.modSession (s : State) (f : Session → Session) : State := s.modLin fun l => { l with session := f l.session }

/-- The session is open over PLDM. -/
def State.pldmOpen (s : State) : Bool := s.lin.session.isOpen && s.lin.session.pldm

/-- The slot that component 0x0001 targets (R472, R475): slot A while no slot verifies. -/
def State.imageTarget (s : State) : Option Slot := if s.boot.stage = .noImage then some .a else s.targetSlot

/-- RequestUpdate opens the session; its component is named later, and the header of its slot is erased then (log entry 34). -/
def State.updateAsked (b : Binding) (maxTransfer : Nat) (s : State) : State :=
  if s.lin.session.isOpen then s.fwSay b 0x10 ccAlreadyInUpdate []
  else
    match s.imageTarget with
    | none => s.fwSay b 0x10 ccRetryRequestUpdate []
    | some slot =>
      if maxTransfer < 32 then s.fwSay b 0x10 ccInvalidTransferLength []
      else
        let x : Session := { id := s.lin.session.id + 1, isOpen := true, pldm := true, slot := slot, imageLen := 0,
                             written := 0, via := b, named := false, maxXfer := min maxTransfer 4096, got := 0,
                             transferred := false }
        ((s.modSession fun _ => x).logUpdate 0x01 0).fwSay b 0x10 ccOk (zeros 3)

/-- REQUEST_UPDATE (R472, R474). -/
def execRequestUpdate (b : Binding) (maxTransfer : Nat) (s : State) :=
  command (State.lining b (State.updateAsked b maxTransfer)) s

/-- Components 0x0001, the image, and 0x0002, the recovery image (R474). -/
def isComponent (comp : Nat) : Bool := comp == 1 || comp == 2

/-- PassComponentTable: a component response, 0 accepted, or 1 with code 0x06 "not supported". -/
def State.tablePassed (b : Binding) (comp : Nat) (s : State) : State :=
  if !s.pldmOpen then s.fwSay b 0x13 ccNotInUpdate []
  else s.fwSay b 0x13 ccOk (if isComponent comp then [0, 0] else [1, 6])

/-- PASS_COMPONENT_TABLE (R474). -/
def execPassComponentTable (b : Binding) (comp : Nat) (s : State) := command (State.lining b (State.tablePassed b comp)) s

/-- Ask for the next piece of the image in order, or end the transfer (R473, R474). -/
def State.pullNext (s : State) : State :=
  let u := s.lin.session
  if u.got < u.imageLen then s.fwAsk 0x15 (leBytes 4 u.got ++ leBytes 4 (min u.maxXfer (u.imageLen - u.got)))
  else s.fwAsk 0x16 [0]

/-- UpdateComponent: IMAGE_LEN from the component size; the target's header is erased (R472, R474, R475). -/
def State.componentNamed (b : Binding) (comp size : Nat) (s : State) : State :=
  if !s.pldmOpen then s.fwSay b 0x14 ccNotInUpdate []
  else if s.lin.session.named then s.fwSay b 0x14 ccInvalidState []
  else if !isComponent comp then s.fwSay b 0x14 ccOk ([1, 6] ++ zeros 6)
  else if size % 4096 ≠ 0 || size > 2 ^ 25 then s.fwSay b 0x14 ccInvalid []
  else
    let slot := if comp = 2 then Slot.recovery else s.lin.session.slot
    let i := s.boot.slot slot
    let s := { s with boot := s.boot.setSlot slot { i with valid := false, erased := true } }
    let s := s.modSession fun u => { u with slot := slot, imageLen := size, named := true }
    (s.fwSay b 0x14 ccOk (zeros 8)).pullNext

/-- UPDATE_COMPONENT (R472, R474, R475). -/
def execUpdateComponent (b : Binding) (comp size : Nat) (s : State) :=
  command (State.lining b (State.componentNamed b comp size)) s

/-- The piece asked for arrives and is programmed; WRITTEN counts whole 4 KiB units. A flash failure is source 69, and the
transfer goes on from WRITTEN (R156, R441, R473). -/
def State.imagePiece (off : Nat) (data : Bytes) (flashOk : Bool) (s : State) : State :=
  let u := s.lin.session
  let want_ := min u.maxXfer (u.imageLen - u.got)
  if !(s.liningRuns && s.pldmOpen && u.named && !u.transferred) || off ≠ u.got || data.length ≠ want_ || want_ = 0 then s
  else if flashOk then
    let n := u.got + want_
    (s.modSession fun u => { u with got := n, written := n / 4096 * 4096 }).pullNext
  else ((s.raise 69 faultPlain).modSession fun u => { u with got := u.written }).pullNext

/-- REQUEST_FIRMWARE_DATA (R473, R474). -/
def execRequestFirmwareData (off : Nat) (data : Bytes) (flashOk : Bool) (s : State) :=
  command (State.imagePiece off data flashOk) s

/-- The whole image has come: verification starts (R474). -/
def State.transferEnd (s : State) : State :=
  let u := s.lin.session
  if s.liningRuns && s.pldmOpen && u.named && u.got == u.imageLen then s.modSession fun u => { u with transferred := true }
  else s

/-- TRANSFER_COMPLETE (R474). -/
def execTransferComplete (s : State) := command State.transferEnd s

/-- Status of an install over PLDM: as under UPDATE_COMMIT, and a recovery image needs at least the running image's security
version (R436, R475). -/
def State.pldmStatus (s : State) (f : Found) (flashOk : Bool) : Nat :=
  let old := (s.boot.slot s.boot.running).secVer
  if s.lin.session.slot = .recovery && manifestGood f && f.manifest.secVer < old then stRollbackRefused
  else s.installStatus f flashOk

/-- VerifyComplete carries the result of step 1 of R473: 0 success, 1 the manifest or a signature failed, 3 the rollback rule
failed (R474). -/
def verifyResult (f : Found) (st : Nat) : Nat :=
  if !manifestGood f then 1 else if st = stRollbackRefused then 3 else 0

/-- While no slot verified, the slot just written boots as NEXT after a chip reset (R475). -/
def State.firstImage (bootSel : Bool) (s : State) : State :=
  let s := { s with boot := { s.boot with next := .a, prev := .b, pendingBoot := false, attempts := 0, recordBad := false } }
  (s.chipReset 0x06 bootSel true).plls

/-- Verification and apply end: VerifyComplete, the sections, the header, then ApplyComplete once the header is written (R473
to R475). -/
def State.verifyEnd (found : Found) (flashOk bootSel : Bool) (s : State) : State :=
  if !(s.liningRuns && s.pldmOpen && s.lin.session.transferred) then s
  else
    let st := s.pldmStatus found flashOk
    let first := s.boot.stage == .noImage && st == stDone && s.lin.session.slot == .a
    let s := s.fwAsk 0x17 (beBytes 1 (verifyResult found st))
    let s := s.installEnd found st
    let s := if st = stDone then s.fwAsk 0x18 (zeros 3) else s
    if first then s.firstImage bootSel else s

/-- VERIFY_COMPLETE (R473 to R475). -/
def execVerifyComplete (found : Found) (flashOk bootSel : Bool) (s : State) :=
  command (State.verifyEnd found flashOk bootSel) s

/-- ActivateFirmware: as UPDATE_ACTIVATE of the slot just installed, for component 0x0001 (R408, R474). -/
def State.activateAsked (b : Binding) (s : State) : State :=
  let u := s.lin.session
  if u.isOpen then s.fwSay b 0x1A ccInvalidState []
  else if !u.pldm || !(s.boot.slot u.slot).valid then s.fwSay b 0x1A ccNotInUpdate []
  else if u.slot = .recovery then s.fwSay b 0x1A ccActivationNotRequired []
  else (s.activate u.slot true).fwSay b 0x1A ccOk (zeros 2)

/-- ACTIVATE_FIRMWARE (R408, R474). -/
def execActivateFirmware (b : Binding) (s : State) := command (State.lining b (State.activateAsked b)) s

/-- The session is cancelled, and logged (R158, R461). -/
def State.sessionCancel (s : State) : State := (s.logUpdate 0x04 0).sessionClose

/-- CancelUpdate and CancelUpdateComponent: as UPDATE_CANCEL. -/
def State.cancelAsked (b : Binding) (cmd : Nat) (data : Bytes) (s : State) : State :=
  if s.pldmOpen then s.sessionCancel.fwSay b cmd ccOk data else s.fwSay b cmd ccNotInUpdate []

/-- CANCEL_UPDATE (R474). -/
def execCancelUpdate (b : Binding) (s : State) := command (State.lining b (State.cancelAsked b 0x1D (zeros 9))) s

/-- CANCEL_UPDATE_COMPONENT (R474). -/
def execCancelUpdateComponent (b : Binding) (s : State) := command (State.lining b (State.cancelAsked b 0x1C [])) s

/-- UPDATE_AGENT_TIMEOUT (R474): 60 s without a message of the agent. -/
def execUpdateAgentTimeout (s : State) := command (fun s => if s.liningRuns && s.pldmOpen then s.sessionCancel else s) s

end Sys2Proof.Machine
end

