-- ==== Sys2Proof/Machine/Registers.lean ====
section
/-! DEFINITION. A host write to a register (R10 to R13, R58 to R60, R82, R531 to R533): each writable field by its access
code, reserved and out-of-range values discarded. Where a write of a register has a row of its own, the same operation is
carried out. -/
namespace Sys2Proof.Machine

/-! ## The Pocket (R82 to R86) -/

/-- Every opcode with its command, classes 0x01 to 0x04. -/
def catalogA : List (OpInfo × Body) :=
  [(opIdentify, identifyBody), (opYasilRead, yasilReadBody), (opGroupCreate, groupCreateBody),
   (opGroupDestroy, groupDestroyBody), (opTenantCreate, tenantCreateBody), (opTenantDestroy, tenantDestroyBody),
   (opTenantQuery, tenantQueryBody), (opSpillGrant, spillGrantBody), (opSpillRevoke, spillRevokeBody),
   (opQsetCreate, qsetCreateBody), (opQsetModify, qsetModifyBody), (opQsetDestroy, qsetDestroyBody),
   (opQpCreate, qpCreateBody), (opQpModify, qpModifyBody), (opQpDestroy, qpDestroyBody), (opQpQuery, qpQueryBody),
   (opAptOpen, aptOpenBody), (opAptClose, aptCloseBody), (opIwinOpen, iwinOpenBody), (opIwinClose, iwinCloseBody),
   (opWinQuery, winQueryBody)]

/-- Classes 0x05 to 0x0F. -/
def catalogB : List (OpInfo × Body) :=
  [(opStitchLoad, stitchLoadBody), (opStitchClear, stitchClearBody), (opStitchSet, stitchSetBody),
   (opStitchQuery, stitchQueryBody), (opCapSet, capSetBody), (opReserveSet, reserveSetBody),
   (opAllowanceSet, allowanceSetBody), (opBorrow, borrowBody), (opEnergyQuery, energyQueryBody), (opHintSet, hintSetBody),
   (opPlaceLimits, placeLimitsBody), (opNumaMap, numaMapBody), (opTelemConfig, telemConfigBody),
   (opCounterSelect, counterSelectBody), (opTelemSnapshot, telemSnapshotBody), (opVoteSet, voteSetBody),
   (opVoteQuery, voteQueryBody), (opFaultVector, faultVectorBody), (opFaultQuery, faultQueryBody),
   (opFaultClear, faultClearBody), (opLogRead, logReadBody), (opUpdateBegin, updateBeginBody),
   (opUpdateWrite, updateWriteBody), (opUpdateCommit, updateCommitBody), (opUpdateCancel, updateCancelBody),
   (opUpdateActivate, updateActivateBody), (opUpdateStatus, updateStatusBody), (opNop, nopBody), (opAbort, abortBody),
   (opEcho, echoBody)]

/-- The command of an opcode. -/
def catalogFind (code : Nat) : Option (OpInfo × Body) := (catalogA ++ catalogB).find? fun x => x.1.code == code

/-- The request buffer as bytes. -/
def Pocket.reqBytes (p : Pocket) : Bytes := (List.range 2048).map fun i => tgetD p.req i 0

/-- The request that the buffer holds and a doorbell word rings (R83). -/
def requestOf (b : Bytes) (v : W32) : Request :=
  { doorbell := v, token := BitVec.ofNat 16 (leAt 2 2 b), len := leAt 4 2 b, flags := lget b 6 0, minor := lget b 7 0,
    rsv := slice 10 6 b, payload := b.drop 16 }

/-- An opcode absent from the full Yasil table (R80, R113 steps 1, 2 and 4). -/
def State.unknownOp (s : State) (fn code : Nat) (r : Request) : State :=
  let o : OpInfo := { code := code, issuers := 0, long := false, req := none, rsp := false, minor := 0, rsv := [] }
  if !s.pocketServed fn then s
  else if (s.fn fn).pocket.state = .working || r.doorbell.toNat ≥ 65536 then
    s.modPocket fn fun p => { p with drop := true }
  else (s.takeRequest o fn r).respond fn code r (if s.headerOk fn r then stUnsupportedVersion else stBadArgument) []

/-- PKT_DOORBELL: the buffer's request is examined and carried out; the buffer keeps its content (R83, R86). -/
def State.ring (s : State) (fn : Nat) (v : W32) : State :=
  let keep := (s.fn fn).pocket.req
  let b := (s.fn fn).pocket.reqBytes
  let r := requestOf b v
  let s := match catalogFind (leAt 0 2 b) with
    | some (o, body) => State.jalid o body fn r s
    | none => s.unknownOp fn (leAt 0 2 b) r
  s.modPocket fn fun p => { p with req := keep }

/-- Put a byte into a sparse buffer, where an unlisted byte is 0. -/
def bufPut (t : Table Byte) (i : Nat) (b : Byte) : Table Byte := if b = 0 then tdel t i else tput t i b

/-- Write bytes into the request buffer from an index on. -/
def bufWrite (t : Table Byte) (i : Nat) (d : Bytes) : Table Byte :=
  (d.zipIdx).foldl (fun t x => bufPut t (i + x.2) x.1) t

/-- A write of the request buffer; while WORKING it is discarded and sets DROP (R86). -/
def State.reqWrite (s : State) (fn i : Nat) (d : Bytes) : State :=
  if (s.fn fn).pocket.state = .working then s.modPocket fn fun p => { p with drop := true }
  else s.modPocket fn fun p => { p with req := bufWrite p.req i d }

/-- PKT_EVQ_BASE: discarded while ENABLE is 1. -/
def State.evqBase (s : State) (fn : Nat) (v : W64) : State :=
  s.modPocket fn fun p => if p.enable then p else { p with base := v &&& ~~~(0xFFF : W64) }

/-- A write to a Pocket page: registers by aligned accesses of their own width, the request buffer by aligned writes of 4 or
8 B, all else discarded (R82). DESIGN CHOICE: the event queue registers of an ABSENT VF take writes: R62 lets its Pocket
serve the describe-and-identify class and does not name them (log entry 67). -/
def State.pocketWrite (s : State) (fn off size : Nat) (v : W64) : State :=
  let w : W32 := v.setWidth 32
  let s := if s.regServed fn then s.accessWake .ctl else s
  if off = 0x000 && size = 4 then s.ring fn w
  else if off = 0x008 && size = 4 then s.evqHead fn w
  else if off = 0x010 && size = 8 then s.evqBase fn v
  else if off = 0x018 && size = 4 then s.evqSize fn w
  else if 0x100 ≤ off && off + size ≤ 0x900 then s.reqWrite fn (off - 0x100) (leBytes size v.toNat)
  else s

/-! ## Fields of PF0 BAR0 -/

/-- A value lies in a range. -/
def inRange (v lo hi : Nat) : Bool := decide (lo ≤ v) && decide (v ≤ hi)

/-- PLT_ENTRY (R260): the entry takes the write from the next pleat of its index on. -/
def State.entryWrite (s : State) (a : Arb) (i : Nat) (v : W32) : State :=
  s.modArb a fun x => { x with entries := tput x.entries i (BitVec.ofNat 10 (v.toNat % 512)) }

/-- PLT_STATUS: STARVED bits are cleared by 1. -/
def State.starvedClear (s : State) (v : W32) : State :=
  let clear (a : Arb) (s : State) : State := if bitAt v.toNat a.num then s.modArb a fun x => { x with starved := false } else s
  clear .slb (clear .sla (clear .host s))

/-- FC_STATUSw: a 1 clears the sticky bit; a line still asserted sets it again (R439). -/
def State.stickyClear (s : State) (w : Nat) (v : W32) : State :=
  let hit (n : Nat) : Bool := n / 32 == w && bitAt v.toNat (n % 32)
  let live := (tkeep s.fc.sticky fun n on => on && hit n && s.lineHeld n).map fun x =>
    (x.1, ((tget s.fc.logs x.1).map (·.detail)).getD faultPlain)
  { s with fc := { s.fc with sticky := tkeep s.fc.sticky (fun n _ => !hit n), asserted := s.fc.asserted ++ live } }

/-- One reaction byte: not while LOCK is 1, not of a source that is FIXED or reserved, not ACTION 01 where the block has no
block reset (R10, R442). -/
def State.reactByte (s : State) (n : Nat) (c : Byte) : State :=
  let code := c &&& 0x1F
  if s.fc.lock || !srcExists n || srcFixed n || (actionOf code == 1 && (blockOf n).isNone) then s
  else { s with fc := { s.fc with react := tput s.fc.react n code } }

/-- FC_REACTw. -/
def State.reactWrite (s : State) (w : Nat) (v : W32) : State :=
  (List.range 4).foldl (fun s i => s.reactByte (4 * w + i) (BitVec.ofNat 8 (v.toNat >>> (8 * i)))) s

/-- FC_ERR_CTRL: RELEASE, and HOLD, which written 0 after the pulse releases ERR_N (R446; log entry 35). -/
def State.errCtrl (s : State) (v : W32) : State :=
  let s := { s with fc := { s.fc with hold := bitAt v.toNat 1 } }
  let s := if bitAt v.toNat 0 then s.errRelease_ else s
  if !s.fc.hold && s.fc.errLow && !s.fc.pulse && s.boot.mode != .safe then s.errUp else s

/-- PWR_DLY: each field takes a value from 1 to 255. -/
def State.delays (s : State) (v : W32) : State :=
  let field (hi lo : Nat) (old : Byte) : Byte := if bits v.toNat hi lo = 0 then old else BitVec.ofNat 8 (bits v.toNat hi lo)
  { s with pwr := { s.pwr with dlyDs := field 23 16 s.pwr.dlyDs, dlySleep := field 15 8 s.pwr.dlySleep,
                               dlyIdle := field 7 0 s.pwr.dlyIdle } }

/-- SLA_TP_CTRL: a field outside its range keeps its old value, and the others apply. -/
def State.tpCtrl (s : State) (v : W32) : State :=
  let rto := bits v.toNat 31 24
  let gm := bits v.toNat 23 16
  let wto := bits v.toNat 15 0
  { s with tp := { s.tp with rto := if inRange rto 2 50 then BitVec.ofNat 8 rto else s.tp.rto,
                             grantMax := if inRange gm 2 255 then BitVec.ofNat 8 gm else s.tp.grantMax,
                             wto := if inRange wto 100 10000 then BitVec.ofNat 16 wto else s.tp.wto } }

/-- SLA_CTRL or SLB_CTRL: ENC, ENABLE, MAX_RATE (0 discarded), UNRETIRE. -/
def State.slvCtrl (s : State) (sl : Sleeve) (v : W32) : State :=
  let n := v.toNat
  let s := s.modSlv sl fun x => { x with encMode := BitVec.ofNat 2 (bits n 6 5) }
  let s := if bitAt n 0 then s.slvOn sl else s.slvOff sl
  let s := s.slvRate sl (BitVec.ofNat 2 (bits n 4 3))
  if bitAt n 7 then s.slvUnretire sl else s

/-- A link register of a Sleeve, by its offset in the block. -/
def State.slvReg (s : State) (sl : Sleeve) (off : Nat) (v : W32) : State :=
  match off with
  | 0x04 => s.slvCtrl sl v
  | 0x0C => if inRange (v.toNat % 256) 10 200 then s.modSlv sl fun x => { x with replayTimer := v.setWidth 8 } else s
  | 0x14 => s.modSlv sl fun x => { x with evt := x.evt &&& ~~~(v.setWidth 8) }
  | _ => s

/-- BLT_CTRL. -/
def State.bltCtrl (s : State) (v : W32) : State :=
  let n := v.toNat
  let s := s.modBelt fun b => { b with summary := BitVec.ofNat 8 (bits n 15 8), sleepOk := bitAt n 1 }
  (if bitAt n 0 then s.beltOn else if s.belt.enable then s.beltOff else s).beltFloor

/-- AGE_CTRL. -/
def State.ageCtrl (s : State) (v : W32) : State :=
  let n := v.toNat
  let s := s.modLin fun l => { l with autoRetire := bitAt n 2, autoDerate := bitAt n 1 }
  let s := if bitAt n 3 then s.derateClear else s
  if bitAt n 0 then s.measureAll else s

/-- The blocks from FC to PLC: 0x004_0000 to 0x007_FFFF. -/
def State.regMid (s : State) (off : Nat) (v : W32) : State :=
  let n := v.toNat
  if 0x040000 ≤ off && off < 0x040090 then s.stickyClear ((off - 0x040000) / 4) v
  else if 0x041000 ≤ off && off < 0x041480 then s.reactWrite ((off - 0x041000) / 4) v
  else
    match off with
    | 0x040100 => if bitAt n 31 then s.lockReact else s
    | 0x040104 => s.errCtrl v
    | 0x040108 => if bitAt n 31 then { s with fc := { s.fc with lastSafeValid := false } } else s
    | 0x050010 => if n % 2048 ≤ 1025 then { s with el := { s.el with fnSel := BitVec.ofNat 11 n } } else s
    | 0x050014 => { s with el := { s.el with coefSel := BitVec.ofNat 6 n } }
    | 0x060008 => if bitAt n 0 then s.clearHistory else s
    | 0x06000C => s.delays v
    | 0x060010 => if bitAt n 31 then { s with pwr := { s.pwr with brownout := false } } else s
    | 0x060014 => { s with pwr := { s.pwr with pmeEn := BitVec.ofNat 4 n } }
    | 0x070024 => { s with plc := { s.plc with stgSel := BitVec.ofNat 8 n } }
    | _ => s

/-- The blocks from WIN to AGE: 0x008_0000 to 0x011_FFFF. -/
def State.regHigh (s : State) (off : Nat) (v : W32) : State :=
  let n := v.toNat
  match off with
  | 0x084000 => if inRange (n % 16384) 20 10000 then { s with win := { s.win with drDiscard := BitVec.ofNat 14 n } } else s
  | 0x0A0020 => if inRange (n % 65536) 10 60000 then { s with sti := { s.sti with staleMs := BitVec.ofNat 16 n } } else s
  | 0x0C8004 => s.tpCtrl v
  | 0x0C8008 => if n % 65536 ≥ 1000 then { s with tp := { s.tp with target := BitVec.ofNat 16 n } } else s
  | 0x0E0000 => s.bltCtrl v
  | 0x0E0008 => s.modBelt fun b => { b with wireNs := BitVec.ofNat 16 n }
  | 0x100004 => if n % 2048 ≤ 1025 then { s with xlt := { s.xlt with fnSel := BitVec.ofNat 11 n } } else s
  | 0x110018 => if n % 64 ≤ 47 then s.modLin fun l => { l with ageSel := BitVec.ofNat 6 n } else s
  | 0x110024 => s.ageCtrl v
  | _ =>
    if 0x0C0000 ≤ off && off < 0x0C0100 then s.slvReg .a (off - 0x0C0000) v
    else if 0x0D0000 ≤ off && off < 0x0D0100 then s.slvReg .b (off - 0x0D0000) v
    else s

/-- The arbiter of a Pleat table offset. -/
def arbOf (off : Nat) : Arb := if off < 0x024000 then .host else if off < 0x028000 then .sla else .slb

/-- One dword of PF0 BAR0 outside the Pocket and the doorbells (R58, R532). -/
def State.regPf0 (s : State) (off : Nat) (v : W32) : State :=
  if 0x010100 ≤ off && off < 0x0104FC then s.bindWrite ((off - 0x010100) / 4) v
  else if 0x020000 ≤ off && off < 0x02C000 then s.entryWrite (arbOf off) ((off - 0x020000) % 0x4000 / 4) v
  else if off = 0x02C000 then s.starvedClear v
  else if off = 0x02C004 then
    if inRange (v.toNat % 16384) 10 10000 then { s with plt := { s.plt with starveLimit := v.setWidth 14 } } else s
  else if 0x1C0000 ≤ off && off < 0x1C8000 then s.msixWrite 0 ((off - 0x1C0000) / 16) (off % 16 / 4) v
  else if off < 0x080000 then s.regMid off v
  else s.regHigh off v

/-! ## PF1 and the VFs -/

/-- BH_CTRL: TRACE_EN, then MARK. -/
def State.bhCtrl (s : State) (v : W32) : State :=
  let s := if bitAt v.toNat 0 then s.traceOn else s.traceOff
  if bitAt v.toNat 1 then s.traceMark else s

/-- One dword of PF1 BAR0 outside the Pocket (R59). -/
def State.regPf1 (s : State) (off : Nat) (v : W32) : State :=
  match off with
  | 0x00 => s.bhCtrl v
  | 0x04 => if bitAt v.toNat 0 then s.setBh { s.bh with lost := false } else s
  | 0x08 => s.setBh { s.bh with filter := v &&& 0xC7FFF7FF }
  | 0x0C => s.setBh { s.bh with cntTrace := v }
  | 0x10 => s.setBh { s.bh with intEn := bitAt v.toNat 31, intVec := BitVec.ofNat 4 v.toNat }
  | _ => if 0xFF0000 ≤ off && off < 0xFF0100 then s.msixWrite 1 ((off - 0xFF0000) / 16) (off % 16 / 4) v else s

/-- One dword of a VF's BAR0 outside the Pocket and the doorbells (R60): the MSI-X table. -/
def State.regVf (s : State) (fn off : Nat) (v : W32) : State :=
  if 0x4000 ≤ off && off < 0x8000 then s.msixWrite fn ((off - 0x4000) / 16) (off % 16 / 4) v else s

/-- One dword of a function's BAR0. -/
def State.regDword (s : State) (fn off : Nat) (v : W32) : State :=
  if fn = 0 then s.regPf0 off v else if fn = 1 then s.regPf1 off v else s.regVf fn off v

/-! ## The command -/

/-- Base of a function's Pocket (R81). -/
def pocketBase (fn : Nat) : Nat := if fn = 0 then 0x1000000 else if fn = 1 then 0xF00000 else 0x1000

/-- Base and size of a function's doorbell slots (R60, R167); PF1 has none. -/
def bellBase (fn : Nat) : Nat × Nat := if fn = 0 then (0x1010000, 0x10000) else if fn = 1 then (0, 0) else (0, 0x1000)

/-- The offset lies in the function's doorbell slots. -/
def inBells (fn off : Nat) : Bool := decide ((bellBase fn).1 ≤ off) && decide (off < (bellBase fn).1 + (bellBase fn).2)

/-- A write to the doorbell slots: 8 B at offset 0 of a slot, or discarded (R167). -/
def State.bellWrite (s : State) (fn off size : Nat) (v : W64) : State :=
  let slot := (off - (bellBase fn).1) / 64
  let n := v.toNat
  let d : Doorbell := { rsvHi := BitVec.ofNat 21 (bits n 62 42), qpIndex := BitVec.ofNat 10 (bits n 41 32),
                        rsvLo := BitVec.ofNat 16 (bits n 31 16), index := BitVec.ofNat 16 n }
  if size ≠ 8 || off % 64 ≠ 0 then s.written fn size
  else if bitAt n 63 then s.cqBell fn slot d
  else s.sqBell fn slot d

/-- The Pleat tables take aligned writes of 4 B only (R260). -/
def inPleats (fn off : Nat) : Bool := fn == 0 && inRange off 0x020000 0x02BFFF

/-- A write of BAR0 that reaches the function: 4 B, or 8 B as its two dwords in address order; other sizes and misaligned
writes are discarded (log entry 35). -/
def State.bar0Write (fn off size : Nat) (v : W64) (s : State) : State :=
  let base := pocketBase fn
  if inBells fn off then s.bellWrite fn off size v
  else if !s.regServed fn then s
  else
    let s := s.written fn size
    if !(size = 4 || size = 8) || off % size ≠ 0 then s
    else if inRange off base (base + 0xFFF) then s.pocketWrite fn (off - base) size v
    else if size = 4 then s.regDword fn off (v.setWidth 32)
    else if inPleats fn off then s
    else (s.regDword fn off (v.setWidth 32)).regDword fn (off + 4) ((v >>> 32).setWidth 32)

/-- A write of the BAR2 control page: START of WIN_FLUSH (R205). -/
def State.bar2Write (fn off size : Nat) (v : W64) (s : State) : State :=
  let page := s.ctlPage fn
  let s := s.written fn size
  if size = 4 && decide (page ≤ off) && (off - page) % 64 == 0 && bitAt v.toNat 0 then s.flushStart fn ((off - page) / 64)
  else s

/-- REGISTER_WRITE (R10, R11). -/
def execRegisterWrite (fn bar off size : Nat) (v : W64) (s : State) :=
  command (fun s => if bar = 0 then s.bar0Write fn off size v else if bar = 2 then s.bar2Write fn off size v else s) s

end Sys2Proof.Machine
end

