-- ==== Sys2Proof/Machine/Dispatch.lean ====
section
/-! DEFINITION. The dispatch of the block's commands: one arm per row of the opcode table. -/
namespace Sys2Proof.Machine

/-- The effect of one command on everything but the queue. -/
def exec (i : Instr) (s : State) : Host.Outcome State Fault Refusal :=
  match i with
  | .vaonValid addrSel => Sys2Proof.Machine.execVaonValid addrSel s
  | .vaonLost => Sys2Proof.Machine.execVaonLost s
  | .vddValid bootSel => Sys2Proof.Machine.execVddValid bootSel s
  | .supplyLoss => Sys2Proof.Machine.execSupplyLoss s
  | .manifestAccepted a b rec => Sys2Proof.Machine.execManifestAccepted a b rec s
  | .liningLoadComplete => Sys2Proof.Machine.execLiningLoadComplete s
  | .perstNAssert => Sys2Proof.Machine.execPerstNAssert s
  | .perstNDeassert ftestN => Sys2Proof.Machine.execPerstNDeassert ftestN s
  | .jalidLoadComplete => Sys2Proof.Machine.execJalidLoadComplete s
  | .configurationReady => Sys2Proof.Machine.execConfigurationReady s
  | .selfTestCommit => Sys2Proof.Machine.execSelfTestCommit s
  | .bootTimeout bootSel => Sys2Proof.Machine.execBootTimeout bootSel s
  | .chipReset cause bootSel => Sys2Proof.Machine.execChipReset cause bootSel s
  | .brownOut bootSel => Sys2Proof.Machine.execBrownOut bootSel s
  | .ckSrefLoss => Sys2Proof.Machine.execCkSrefLoss s
  | .pllLockLoss pll => Sys2Proof.Machine.execPllLockLoss pll s
  | .xtalStable => Sys2Proof.Machine.execXtalStable s
  | .xtalTimeout => Sys2Proof.Machine.execXtalTimeout s
  | .hotReset => Sys2Proof.Machine.execHotReset s
  | .hostLinkDown => Sys2Proof.Machine.execHostLinkDown s
  | .hostLinkTrained lanes rate flit t => Sys2Proof.Machine.execHostLinkTrained lanes rate flit t s
  | .l0pWidthChange lanes => Sys2Proof.Machine.execL0pWidthChange lanes s
  | .ltrMessage => Sys2Proof.Machine.execLtrMessage s
  | .ltr3ms => Sys2Proof.Machine.execLtr3ms s
  | .clkreqNAssert => Sys2Proof.Machine.execClkreqNAssert s
  | .l1Exit => Sys2Proof.Machine.execL1Exit s
  | .lwakeN => Sys2Proof.Machine.execLwakeN s
  | .smbusAddressMatch => Sys2Proof.Machine.execSmbusAddressMatch s
  | .configRequest fn off be wr => Sys2Proof.Machine.execConfigRequest fn off be wr s
  | .flrStart fn => Sys2Proof.Machine.execFlrStart fn s
  | .flrComplete fn => Sys2Proof.Machine.execFlrComplete fn s
  | .numvfsWrite n => Sys2Proof.Machine.execNumvfsWrite n s
  | .vfEnableSet => Sys2Proof.Machine.execVfEnableSet s
  | .vfEnableClear => Sys2Proof.Machine.execVfEnableClear s
  | .bmeClear fn => Sys2Proof.Machine.execBmeClear fn s
  | .bmeSet fn => Sys2Proof.Machine.execBmeSet fn s
  | .d3hotEntry fn => Sys2Proof.Machine.execD3hotEntry fn s
  | .d3hotToD0 fn => Sys2Proof.Machine.execD3hotToD0 fn s
  | .atsEnableClear fn => Sys2Proof.Machine.execAtsEnableClear fn s
  | .atsEnableSet fn stu => Sys2Proof.Machine.execAtsEnableSet fn stu s
  | .bar2Resize log2 => Sys2Proof.Machine.execBar2Resize log2 s
  | .cfgIdeSelWrite v => Sys2Proof.Machine.execCfgIdeSelWrite v s
  | .poolIdeBindWrite k v => Sys2Proof.Machine.execPoolIdeBindWrite k v s
  | .ideCheckFailed stream misrouted => Sys2Proof.Machine.execIdeCheckFailed stream misrouted s
  | .ideKeyProgramming stream accepted => Sys2Proof.Machine.execIdeKeyProgramming stream accepted s
  | .lockInterfaceRequest vf => Sys2Proof.Machine.execLockInterfaceRequest vf s
  | .startInterfaceRequest vf => Sys2Proof.Machine.execStartInterfaceRequest vf s
  | .stopInterfaceRequest vf => Sys2Proof.Machine.execStopInterfaceRequest vf s
  | .getDeviceInterfaceReport vf => Sys2Proof.Machine.execGetDeviceInterfaceReport vf s
  | .spdmGetCertificate slot off len => Sys2Proof.Machine.execSpdmGetCertificate slot off len s
  | .spdmChallenge slot nonce => Sys2Proof.Machine.execSpdmChallenge slot nonce s
  | .spdmGetMeasurements index => Sys2Proof.Machine.execSpdmGetMeasurements index s
  | .spdmKeyExchange => Sys2Proof.Machine.execSpdmKeyExchange s
  | .spdmKeyUpdate sess => Sys2Proof.Machine.execSpdmKeyUpdate sess s
  | .apertureWrite fn off data => Sys2Proof.Machine.execApertureWrite fn off data s
  | .apertureRead fn off len htag => Sys2Proof.Machine.execApertureRead fn off len htag s
  | .apertureReadLimit id => Sys2Proof.Machine.execApertureReadLimit id s
  | .bar2UnmappedAccess fn off len isRead => Sys2Proof.Machine.execBar2UnmappedAccess fn off len isRead s
  | .unsupportedRequest fn nonPosted => Sys2Proof.Machine.execUnsupportedRequest fn nonPosted s
  | .msixEntryWrite fn vec dword v => Sys2Proof.Machine.execMsixEntryWrite fn vec dword v s
  | .completionArrival rid tag st poisoned stream data => Sys2Proof.Machine.execCompletionArrival rid tag st poisoned stream data s
  | .translationCompletion rid tag st x => Sys2Proof.Machine.execTranslationCompletion rid tag st x s
  | .invalidateRequest fn itag base len global => Sys2Proof.Machine.execInvalidateRequest fn itag base len global s
  | .invalidationCompletion fn => Sys2Proof.Machine.execInvalidationCompletion fn s
  | .completionTimeout tag => Sys2Proof.Machine.execCompletionTimeout tag s
  | .tagQuarantineExpiry tag => Sys2Proof.Machine.execTagQuarantineExpiry tag s
  | .identify fn r => Sys2Proof.Machine.execIdentify fn r s
  | .yasilRead fn r => Sys2Proof.Machine.execYasilRead fn r s
  | .groupCreate fn r => Sys2Proof.Machine.execGroupCreate fn r s
  | .groupDestroy fn r => Sys2Proof.Machine.execGroupDestroy fn r s
  | .tenantCreate fn r => Sys2Proof.Machine.execTenantCreate fn r s
  | .tenantCreateComplete token => Sys2Proof.Machine.execTenantCreateComplete token s
  | .tenantDestroy fn r => Sys2Proof.Machine.execTenantDestroy fn r s
  | .tenantDestroyComplete vf => Sys2Proof.Machine.execTenantDestroyComplete vf s
  | .tenantQuery fn r => Sys2Proof.Machine.execTenantQuery fn r s
  | .spillGrant fn r => Sys2Proof.Machine.execSpillGrant fn r s
  | .spillRevoke fn r => Sys2Proof.Machine.execSpillRevoke fn r s
  | .spillRevokeComplete => Sys2Proof.Machine.execSpillRevokeComplete s
  | .qsetCreate fn r => Sys2Proof.Machine.execQsetCreate fn r s
  | .qsetModify fn r => Sys2Proof.Machine.execQsetModify fn r s
  | .qsetDestroy fn r => Sys2Proof.Machine.execQsetDestroy fn r s
  | .qpCreate fn r => Sys2Proof.Machine.execQpCreate fn r s
  | .qpModifyStart fn r => Sys2Proof.Machine.execQpModifyStart fn r s
  | .qpModifyStop fn r => Sys2Proof.Machine.execQpModifyStop fn r s
  | .qpModifyRecover fn r => Sys2Proof.Machine.execQpModifyRecover fn r s
  | .qpDestroy fn r => Sys2Proof.Machine.execQpDestroy fn r s
  | .qpDestroyComplete qp => Sys2Proof.Machine.execQpDestroyComplete qp s
  | .qpQuery fn r => Sys2Proof.Machine.execQpQuery fn r s
  | .aptOpen fn r => Sys2Proof.Machine.execAptOpen fn r s
  | .aptClose fn r => Sys2Proof.Machine.execAptClose fn r s
  | .aptCloseComplete n => Sys2Proof.Machine.execAptCloseComplete n s
  | .iwinOpen fn r => Sys2Proof.Machine.execIwinOpen fn r s
  | .iwinClose fn r => Sys2Proof.Machine.execIwinClose fn r s
  | .iwinCloseComplete n => Sys2Proof.Machine.execIwinCloseComplete n s
  | .winQuery fn r => Sys2Proof.Machine.execWinQuery fn r s
  | .stitchLoad fn r => Sys2Proof.Machine.execStitchLoad fn r s
  | .stitchClear fn r => Sys2Proof.Machine.execStitchClear fn r s
  | .stitchSet fn r => Sys2Proof.Machine.execStitchSet fn r s
  | .stitchQuery fn r => Sys2Proof.Machine.execStitchQuery fn r s
  | .capSet fn r => Sys2Proof.Machine.execCapSet fn r s
  | .reserveSet fn r => Sys2Proof.Machine.execReserveSet fn r s
  | .allowanceSet fn r => Sys2Proof.Machine.execAllowanceSet fn r s
  | .borrow fn r => Sys2Proof.Machine.execBorrow fn r s
  | .energyQuery fn r => Sys2Proof.Machine.execEnergyQuery fn r s
  | .hintSet fn r => Sys2Proof.Machine.execHintSet fn r s
  | .placeLimits fn r => Sys2Proof.Machine.execPlaceLimits fn r s
  | .numaMap fn r => Sys2Proof.Machine.execNumaMap fn r s
  | .telemConfig fn r => Sys2Proof.Machine.execTelemConfig fn r s
  | .counterSelect fn r => Sys2Proof.Machine.execCounterSelect fn r s
  | .telemSnapshot fn r => Sys2Proof.Machine.execTelemSnapshot fn r s
  | .voteSet fn r => Sys2Proof.Machine.execVoteSet fn r s
  | .voteQuery fn r => Sys2Proof.Machine.execVoteQuery fn r s
  | .faultVector fn r => Sys2Proof.Machine.execFaultVector fn r s
  | .faultQuery fn r => Sys2Proof.Machine.execFaultQuery fn r s
  | .faultClear fn r => Sys2Proof.Machine.execFaultClear fn r s
  | .logRead fn r => Sys2Proof.Machine.execLogRead fn r s
  | .updateBegin fn r => Sys2Proof.Machine.execUpdateBegin fn r s
  | .updateWrite fn r => Sys2Proof.Machine.execUpdateWrite fn r s
  | .updateWriteComplete flashOk => Sys2Proof.Machine.execUpdateWriteComplete flashOk s
  | .updateCommit fn r => Sys2Proof.Machine.execUpdateCommit fn r s
  | .updateCommitComplete found flashOk => Sys2Proof.Machine.execUpdateCommitComplete found flashOk s
  | .updateCancel fn r => Sys2Proof.Machine.execUpdateCancel fn r s
  | .updateActivate fn r => Sys2Proof.Machine.execUpdateActivate fn r s
  | .updateStatus fn r => Sys2Proof.Machine.execUpdateStatus fn r s
  | .nop fn r => Sys2Proof.Machine.execNop fn r s
  | .abort fn r => Sys2Proof.Machine.execAbort fn r s
  | .echo fn r => Sys2Proof.Machine.execEcho fn r s
  | .pktEvqHeadWrite fn v => Sys2Proof.Machine.execPktEvqHeadWrite fn v s
  | .evqEnable fn v => Sys2Proof.Machine.execEvqEnable fn v s
  | .evqDisable fn v => Sys2Proof.Machine.execEvqDisable fn v s
  | .heldEventWrite fn => Sys2Proof.Machine.execHeldEventWrite fn s
  | .jalidReload => Sys2Proof.Machine.execJalidReload s
  | .jalidReloadComplete => Sys2Proof.Machine.execJalidReloadComplete s
  | .sqDoorbell fn slot d => Sys2Proof.Machine.execSqDoorbell fn slot d s
  | .cqDoorbell fn slot d => Sys2Proof.Machine.execCqDoorbell fn slot d s
  | .descriptorFetch qp => Sys2Proof.Machine.execDescriptorFetch qp s
  | .put qp sqi => Sys2Proof.Machine.execPut qp sqi s
  | .get qp sqi => Sys2Proof.Machine.execGet qp sqi s
  | .sendD qp sqi => Sys2Proof.Machine.execSendD qp sqi s
  | .recv qp sqi => Sys2Proof.Machine.execRecv qp sqi s
  | .fence qp sqi => Sys2Proof.Machine.execFence qp sqi s
  | .fenceComplete qp sqi => Sys2Proof.Machine.execFenceComplete qp sqi s
  | .note qp sqi => Sys2Proof.Machine.execNote qp sqi s
  | .noteComplete qp sqi => Sys2Proof.Machine.execNoteComplete qp sqi s
  | .unitCommit u => Sys2Proof.Machine.execUnitCommit u s
  | .unitEmitted u => Sys2Proof.Machine.execUnitEmitted u s
  | .moderationHoldoff fn qset => Sys2Proof.Machine.execModerationHoldoff fn qset s
  | .pleatBegin pleat => Sys2Proof.Machine.execPleatBegin pleat s
  | .pleatLapsed arb => Sys2Proof.Machine.execPleatLapsed arb s
  | .grantOpportunity arb => Sys2Proof.Machine.execGrantOpportunity arb s
  | .starvation arb u => Sys2Proof.Machine.execStarvation arb u s
  | .queueSetPause fn qset => Sys2Proof.Machine.execQueueSetPause fn qset s
  | .accountingWindowBoundary => Sys2Proof.Machine.execAccountingWindowBoundary s
  | .planningEpoch rails => Sys2Proof.Machine.execPlanningEpoch rails s
  | .placementEpoch => Sys2Proof.Machine.execPlacementEpoch s
  | .migrationSwitch qp quiesceNs => Sys2Proof.Machine.execMigrationSwitch qp quiesceNs s
  | .migrationAbandon qp => Sys2Proof.Machine.execMigrationAbandon qp s
  | .spillLoadComplete qp outcome => Sys2Proof.Machine.execSpillLoadComplete qp outcome s
  | .spillWriteBack qp => Sys2Proof.Machine.execSpillWriteBack qp s
  | .flowletBoundary node vc => Sys2Proof.Machine.execFlowletBoundary node vc s
  | .domainIdleAttempt d => Sys2Proof.Machine.execDomainIdleAttempt d s
  | .domainSleepAttempt d => Sys2Proof.Machine.execDomainSleepAttempt d s
  | .domainDeepSleepAttempt d => Sys2Proof.Machine.execDomainDeepSleepAttempt d s
  | .domainEntryComplete d => Sys2Proof.Machine.execDomainEntryComplete d s
  | .domainWake d => Sys2Proof.Machine.execDomainWake d s
  | .wakeComplete d => Sys2Proof.Machine.execWakeComplete d s
  | .pwrCtrlClrHist => Sys2Proof.Machine.execPwrCtrlClrHist s
  | .winFlushStart fn apt => Sys2Proof.Machine.execWinFlushStart fn apt s
  | .writePkt sl p => Sys2Proof.Machine.execWritePkt sl p s
  | .readPkt sl p => Sys2Proof.Machine.execReadPkt sl p s
  | .delayedReadDataLanded handle => Sys2Proof.Machine.execDelayedReadDataLanded handle s
  | .collectPkt sl p => Sys2Proof.Machine.execCollectPkt sl p s
  | .delayedReadDiscard handle => Sys2Proof.Machine.execDelayedReadDiscard handle s
  | .prefetchDiscard win node => Sys2Proof.Machine.execPrefetchDiscard win node s
  | .readRsp sl p => Sys2Proof.Machine.execReadRsp sl p s
  | .readReady sl p => Sys2Proof.Machine.execReadReady sl p s
  | .collectRsp sl p => Sys2Proof.Machine.execCollectRsp sl p s
  | .sendPacket sl p => Sys2Proof.Machine.execSendPacket sl p s
  | .resetMark sl p => Sys2Proof.Machine.execResetMark sl p s
  | .statusFrame sl p => Sys2Proof.Machine.execStatusFrame sl p s
  | .stitchOutputFrame e => Sys2Proof.Machine.execStitchOutputFrame e s
  | .sensorStale e => Sys2Proof.Machine.execSensorStale e s
  | .telemetryRefresh fn => Sys2Proof.Machine.execTelemetryRefresh fn s
  | .sleeveDetect sl words => Sys2Proof.Machine.execSleeveDetect sl words s
  | .trainComplete sl t => Sys2Proof.Machine.execTrainComplete sl t s
  | .trainTimeout sl => Sys2Proof.Machine.execTrainTimeout sl s
  | .alignComplete sl => Sys2Proof.Machine.execAlignComplete sl s
  | .paramComplete sl => Sys2Proof.Machine.execParamComplete sl s
  | .stageBoundExpiry sl => Sys2Proof.Machine.execStageBoundExpiry sl s
  | .downRetry sl => Sys2Proof.Machine.execDownRetry sl s
  | .hello sl version cap node depth => Sys2Proof.Machine.execHello sl version cap node depth s
  | .nodeAssign sl node => Sys2Proof.Machine.execNodeAssign sl node s
  | .flitReceive sl fec flit => Sys2Proof.Machine.execFlitReceive sl fec flit s
  | .replayTimer sl => Sys2Proof.Machine.execReplayTimer sl s
  | .noValidFlit sl => Sys2Proof.Machine.execNoValidFlit sl s
  | .trainingWordRetrain sl ackSeq => Sys2Proof.Machine.execTrainingWordRetrain sl ackSeq s
  | .rxLockLoss sl lane => Sys2Proof.Machine.execRxLockLoss sl lane s
  | .retrainLaneTimeout sl lane => Sys2Proof.Machine.execRetrainLaneTimeout sl lane s
  | .retrainComplete sl t => Sys2Proof.Machine.execRetrainComplete sl t s
  | .retrainTimeout sl => Sys2Proof.Machine.execRetrainTimeout sl s
  | .laneRetire sl lane => Sys2Proof.Machine.execLaneRetire sl lane s
  | .shedRequest sl mask => Sys2Proof.Machine.execShedRequest sl mask s
  | .shedReady sl mask => Sys2Proof.Machine.execShedReady sl mask s
  | .shedSwitch sl mask => Sys2Proof.Machine.execShedSwitch sl mask s
  | .shedRefuse sl => Sys2Proof.Machine.execShedRefuse sl s
  | .quietRequest sl => Sys2Proof.Machine.execQuietRequest sl s
  | .quietRequestSent sl => Sys2Proof.Machine.execQuietRequestSent sl s
  | .quietAccept sl => Sys2Proof.Machine.execQuietAccept sl s
  | .quietRefuse sl => Sys2Proof.Machine.execQuietRefuse sl s
  | .sleeveWakePattern sl => Sys2Proof.Machine.execSleeveWakePattern sl s
  | .fray sl reason node => Sys2Proof.Machine.execFray sl reason node s
  | .linkDown sl reason => Sys2Proof.Machine.execLinkDown sl reason s
  | .keySwitch sl keyId counter => Sys2Proof.Machine.execKeySwitch sl keyId counter s
  | .mac sl verified => Sys2Proof.Machine.execMac sl verified s
  | .mgmt sl ctl len frag => Sys2Proof.Machine.execMgmt sl ctl len frag s
  | .linkKeyUpdate sl => Sys2Proof.Machine.execLinkKeyUpdate sl s
  | .sleeveEnableClear sl => Sys2Proof.Machine.execSleeveEnableClear sl s
  | .sleeveEnableSet sl => Sys2Proof.Machine.execSleeveEnableSet sl s
  | .maxRateWrite sl rate => Sys2Proof.Machine.execMaxRateWrite sl rate s
  | .unretire sl => Sys2Proof.Machine.execUnretire sl s
  | .grant sl m limit => Sys2Proof.Machine.execGrant sl m limit s
  | .ack sl m seq => Sys2Proof.Machine.execAck sl m seq s
  | .nak sl m seq status => Sys2Proof.Machine.execNak sl m seq status s
  | .epochMsg src epoch => Sys2Proof.Machine.execEpochMsg src epoch s
  | .want sl m => Sys2Proof.Machine.execWant sl m s
  | .retire sl m e => Sys2Proof.Machine.execRetire sl m e s
  | .resendTimer node vc => Sys2Proof.Machine.execResendTimer node vc s
  | .writeTimeout node vc => Sys2Proof.Machine.execWriteTimeout node vc s
  | .sendStateRetire node vc => Sys2Proof.Machine.execSendStateRetire node vc s
  | .receiveStateRetire node vc => Sys2Proof.Machine.execReceiveStateRetire node vc s
  | .retirementRecordExpiry node vc => Sys2Proof.Machine.execRetirementRecordExpiry node vc s
  | .refusalRecordExpiry node vc seq => Sys2Proof.Machine.execRefusalRecordExpiry node vc seq s
  | .wantRepeat node vc => Sys2Proof.Machine.execWantRepeat node vc s
  | .flowSilenceEnd node vc => Sys2Proof.Machine.execFlowSilenceEnd node vc s
  | .epochPeriodic => Sys2Proof.Machine.execEpochPeriodic s
  | .beltLock => Sys2Proof.Machine.execBeltLock s
  | .beltLockLoss => Sys2Proof.Machine.execBeltLockLoss s
  | .beltFlitReceive flit => Sys2Proof.Machine.execBeltFlitReceive flit s
  | .route m payload => Sys2Proof.Machine.execRoute m payload s
  | .timeMsg m => Sys2Proof.Machine.execTimeMsg m s
  | .timeLockTimeout => Sys2Proof.Machine.execTimeLockTimeout s
  | .enumMsg hops nextPos enumId => Sys2Proof.Machine.execEnumMsg hops nextPos enumId s
  | .beltWakePattern => Sys2Proof.Machine.execBeltWakePattern s
  | .beltEnableClear => Sys2Proof.Machine.execBeltEnableClear s
  | .beltEnableSet => Sys2Proof.Machine.execBeltEnableSet s
  | .summaryFrame => Sys2Proof.Machine.execSummaryFrame s
  | .faultAssert src rec => Sys2Proof.Machine.execFaultAssert src rec s
  | .trapAckTimeout => Sys2Proof.Machine.execTrapAckTimeout s
  | .chipResetWatchdog bootSel => Sys2Proof.Machine.execChipResetWatchdog bootSel s
  | .errNPulseEnd => Sys2Proof.Machine.execErrNPulseEnd s
  | .release => Sys2Proof.Machine.execRelease s
  | .fcLock => Sys2Proof.Machine.execFcLock s
  | .faultScrub badStatus badReact => Sys2Proof.Machine.execFaultScrub badStatus badReact s
  | .liningWatchdog => Sys2Proof.Machine.execLiningWatchdog s
  | .jalidWatchdog => Sys2Proof.Machine.execJalidWatchdog s
  | .sensorSample r => Sys2Proof.Machine.execSensorSample r s
  | .eventLogWrite => Sys2Proof.Machine.execEventLogWrite s
  | .setEndpointId b eid => Sys2Proof.Machine.execSetEndpointId b eid s
  | .getEndpointId b => Sys2Proof.Machine.execGetEndpointId b s
  | .getMctpVersionSupport b msgType => Sys2Proof.Machine.execGetMctpVersionSupport b msgType s
  | .getMessageTypeSupport b => Sys2Proof.Machine.execGetMessageTypeSupport b s
  | .mctpLogRead b payload => Sys2Proof.Machine.execMctpLogRead b payload s
  | .getTid b => Sys2Proof.Machine.execGetTid b s
  | .getPldmVersion b pldmType => Sys2Proof.Machine.execGetPldmVersion b pldmType s
  | .getPldmTypes b => Sys2Proof.Machine.execGetPldmTypes b s
  | .getPldmCommands b pldmType => Sys2Proof.Machine.execGetPldmCommands b pldmType s
  | .getPdrRepositoryInfo b => Sys2Proof.Machine.execGetPdrRepositoryInfo b s
  | .getPdr b handle => Sys2Proof.Machine.execGetPdr b handle s
  | .getSensorReading b sensor => Sys2Proof.Machine.execGetSensorReading b sensor s
  | .getSensorThresholds b sensor => Sys2Proof.Machine.execGetSensorThresholds b sensor s
  | .getNumericEffecterValue b effecter => Sys2Proof.Machine.execGetNumericEffecterValue b effecter s
  | .powerCap b v => Sys2Proof.Machine.execPowerCap b v s
  | .accountWindow b v => Sys2Proof.Machine.execAccountWindow b v s
  | .errRelease b v => Sys2Proof.Machine.execErrRelease b v s
  | .chipResetEffecter b v bootSel => Sys2Proof.Machine.execChipResetEffecter b v bootSel s
  | .ageMeasure b v => Sys2Proof.Machine.execAgeMeasure b v s
  | .requestUpdate b maxTransfer => Sys2Proof.Machine.execRequestUpdate b maxTransfer s
  | .passComponentTable b comp => Sys2Proof.Machine.execPassComponentTable b comp s
  | .updateComponent b comp size => Sys2Proof.Machine.execUpdateComponent b comp size s
  | .requestFirmwareData off data flashOk => Sys2Proof.Machine.execRequestFirmwareData off data flashOk s
  | .transferComplete => Sys2Proof.Machine.execTransferComplete s
  | .verifyComplete found flashOk bootSel => Sys2Proof.Machine.execVerifyComplete found flashOk bootSel s
  | .activateFirmware b => Sys2Proof.Machine.execActivateFirmware b s
  | .cancelUpdate b => Sys2Proof.Machine.execCancelUpdate b s
  | .cancelUpdateComponent b => Sys2Proof.Machine.execCancelUpdateComponent b s
  | .updateAgentTimeout => Sys2Proof.Machine.execUpdateAgentTimeout s
  | .ledgerDay d => Sys2Proof.Machine.execLedgerDay d s
  | .ageMeasurement drifts => Sys2Proof.Machine.execAgeMeasurement drifts s
  | .marginDeferExpiry sl => Sys2Proof.Machine.execMarginDeferExpiry sl s
  | .measureNow => Sys2Proof.Machine.execMeasureNow s
  | .clearDerate => Sys2Proof.Machine.execClearDerate s
  | .counterRead flags first count => Sys2Proof.Machine.execCounterRead flags first count s
  | .traceEnSet => Sys2Proof.Machine.execTraceEnSet s
  | .traceEnClear => Sys2Proof.Machine.execTraceEnClear s
  | .mark => Sys2Proof.Machine.execMark s
  | .counterTracePeriod => Sys2Proof.Machine.execCounterTracePeriod s
  | .registerWrite fn bar off size v => Sys2Proof.Machine.execRegisterWrite fn bar off size v s
  | .l1Entry sub => Sys2Proof.Machine.execL1Entry sub s
  | .tokenBucketRefill fn qset => Sys2Proof.Machine.execTokenBucketRefill fn qset s
  | .ckSrefPresent => Sys2Proof.Machine.execCkSrefPresent s
  | .addedLanesLocked sl mask => Sys2Proof.Machine.execAddedLanesLocked sl mask s
  | .spdmSessionEnd sess => Sys2Proof.Machine.execSpdmSessionEnd sess s
  | .doeDiscovery index => Sys2Proof.Machine.execDoeDiscovery index s
  | .alertResponseAddress => Sys2Proof.Machine.execAlertResponseAddress s
  | .dynamicAddressAssignment addr => Sys2Proof.Machine.execDynamicAddressAssignment addr s
  | .remainingSectionsLoad hashesOk => Sys2Proof.Machine.execRemainingSectionsLoad hashesOk s
  | .eyeMeasurement sl eyes => Sys2Proof.Machine.execEyeMeasurement sl eyes s
  | .equivalentStressMinute tempTenths => Sys2Proof.Machine.execEquivalentStressMinute tempTenths s

end Sys2Proof.Machine
end

