-- ==== Sys2Proof/Machine/RegRead.lean ====
section
/-! DEFINITION. What a host read of BAR0 or of the expansion ROM returns (R10, R11, R13, R51, R58 to R60, R62, R73, R82,
R531 to R533): the current value of each register, field by field, and 0 for a write-only or reserved field and for an
offset that no register occupies. The table of commands has no row for such a read: what stands here is the value that the
host would be given in a state, whole for one access (R13). -/
namespace Sys2Proof.Machine

/-! ## Register tables -/

/-- Registers of a block: offset, width in bytes, value. -/
abbrev Regs := List (Nat × Nat × Nat)

/-- Byte i of a value, least significant first. -/
def byteOf (v i : Nat) : Byte := BitVec.ofNat 8 (v >>> (8 * i))

/-- The byte of a register at an offset; 0 where none lies (R11). -/
def regByte (l : Regs) (off : Nat) : Byte :=
  match l.find? fun r => decide (r.1 ≤ off) && decide (off < r.1 + r.2.1) with
  | some r => byteOf r.2.2 (off - r.1)
  | none => 0

/-- 32-bit registers from an offset on, 4 apart. -/
def regs32 (off : Nat) (l : List Nat) : Regs := l.zipIdx.map fun x => (off + 4 * x.2, 4, x.1)

/-- 64-bit registers from an offset on, 8 apart. -/
def regs64 (off : Nat) (l : List Nat) : Regs := l.zipIdx.map fun x => (off + 8 * x.2, 8, x.1)

/-- Fields of a register: lowest bit and value. -/
def regOf (l : List (Nat × Nat)) : Nat := l.foldl (fun n x => n ||| x.2 <<< x.1) 0

/-- A signed number as a field of n bits. -/
def signedField (n : Nat) (v : Int) : Nat := (BitVec.ofInt n v).toNat

/-! ## PF0 BAR0: GLB and POOL -/

/-- GLB_CLK_STATUS.PLL_LOCK: a PLL whose domain is below Sleep reads 0. -/
def State.pllLock (s : State) : Nat :=
  let below (d : Domain) : Bool := (s.dom d).state == .deepSleep || (s.dom d).state == .off
  maskOf ([Domain.hst, .sla, .slb, .blt, .dp, .ctx, .ctl, .lin].zipIdx.map fun x =>
    bitAt s.clk.pllLock.toNat x.2 && !below x.1)

/-- GLB. -/
def State.glbRegs (s : State) : Regs :=
  regs32 0 [regOf [(24, 0xA1), (16, b2n Config.gradeFE), (0, 0x7160)], s.glbMode, s.glbBoot, s.boot.resetCause.toNat,
    regOf [(9, b2n s.clk.xtalOk), (8, b2n s.clk.srefOk), (0, s.pllLock)]]

/-- POOL_STATUS and the free counts (R71). -/
def State.poolRegs (s : State) : Regs :=
  (0, 4, regOf [(31, b2n s.prov.spill), (16, s.prov.groups.length), (0, s.prov.tenants.length)]) ::
    regs32 0x10 [s.freeQp, s.freeVec, s.freeApt, s.freeIwin, s.freeAts, s.freeCtx, s.freeStg, s.qps.length]

/-- POOL_IDE_BIND of stream k (R429). -/
def State.ideBindReg (s : State) (k : Nat) : Nat :=
  match tget s.prov.ide k with
  | none => 0
  | some b => regOf [(31, b2n b.valid), (30, b2n b.secure), (0, b.group.toNat)]

/-- State code of POOL_TDISP. -/
def tdispCode : Tdisp → Nat
  | .unlocked => 0
  | .locked => 1
  | .run => 2
  | .error => 3

/-- POOL_TDISP of VF n (R431). -/
def State.tdispReg (s : State) (n : Nat) : Nat :=
  match s.tenant n with
  | none => 0xFF00
  | some t =>
    regOf [(16, t.rejects.toNat), (8, if t.tdisp = .unlocked then 0xFF else t.stream.toNat), (0, tdispCode t.tdisp)]

/-- POOL, by offset in the block. -/
def State.poolByte (s : State) (off : Nat) : Byte :=
  if 0x100 ≤ off && off < 0x4FC then byteOf (s.ideBindReg ((off - 0x100) / 4)) (off % 4)
  else if 0x1000 ≤ off && off < 0x2000 then byteOf (s.tdispReg ((off - 0x1000) / 4 + 1)) (off % 4)
  else regByte s.poolRegs off

/-! ## PLT and FC -/

/-- PLT_STARVE_LAST of an arbiter: the wait of its oldest requester, and the group last reported. -/
def State.starveReg (s : State) (a : Arb) : Nat :=
  let age := ((oldest (s.requesters a)).map fun x => (s.clk.localCount - x.2.arrived) / 1000).getD 0
  regOf [(16, min age 0xFFFF), (0, (s.arb a).lastGroup.toNat)]

/-- The counters of an arbiter. -/
def Arbiter.counters (x : Arbiter) (off : Nat) : Regs :=
  regs64 off [x.owned.toNat, x.background.toNat, x.revoked.toNat, x.lapsed.toNat] ++ [(off + 0x20, 4, x.starveCnt.toNat)]

/-- PLT's registers. -/
def State.pltRegs (s : State) : Regs :=
  regs32 0xC000 [maskOf (allArbs.map fun a => (s.arb a).starved), s.plt.starveLimit.toNat, s.pleatNow % 4096] ++
    regs32 0xC010 (allArbs.map s.starveReg) ++
    (allArbs.map fun a => (s.arb a).counters (0xC100 + 0x40 * a.num)).flatten

/-- PLT_ENTRY of a pleat index (R260). -/
def Arbiter.entryReg (x : Arbiter) (i : Nat) : Nat := (tgetD x.entries i 0x100).toNat % 512

/-- PLT, by offset in the block. -/
def State.pltByte (s : State) (off : Nat) : Byte :=
  if off < 0xC000 then byteOf ((s.arb (arbOf (off + 0x020000))).entryReg (off % 0x4000 / 4)) (off % 4)
  else regByte s.pltRegs off

/-- FC's registers. -/
def State.fcRegs (s : State) : Regs :=
  let f := s.fc
  [(0x100, 4, b2n f.lock <<< 31), (0x104, 4, regOf [(31, b2n f.errLow), (30, b2n f.pulse), (1, b2n f.hold)]),
   (0x108, 4, regOf [(31, b2n f.lastSafeValid), (0, f.lastSafe.toNat)]), (0x110, 4, f.rises.toNat),
   (0x114, 4, f.blockResets.toNat)]

/-- FC, by offset in the block: the sticky bits of R438, and the reaction code of source n at byte 0x1000 + n (R441). -/
def State.fcByte (s : State) (off : Nat) : Byte :=
  if off < 0x90 then BitVec.ofNat 8 (maskOf ((List.range 8).map fun i => tgetD s.fc.sticky (8 * off + i) false))
  else if 0x1000 ≤ off && off < 0x1480 then s.reactOf (off - 0x1000)
  else regByte s.fcRegs off

/-! ## EL and PWR (R401, R402) -/

/-- The function that EL_FN_SEL selects. -/
def State.elFn (s : State) : Fn := s.fn s.el.fnSel.toNat

/-- EL_BASE: the device's energy of the window less every function's CONSUMED, in uJ (R370). -/
def State.windowBase (s : State) : Int := (s.el.devWindow / 1000 : Nat) - (s.fns.foldl (fun n p => n + p.2.used) 0 : Nat)

/-- EL. -/
def State.elRegs (s : State) : Regs :=
  let e := s.el
  let f := s.elFn
  let idx := e.coefSel.toNat
  regs32 0 [regOf [(31, b2n e.throttle), (30, b2n e.oversub), (28, s.capSrc), (0, e.coefGen.toNat)],
      regOf [(16, s.capMw), (0, e.window)],
      regOf [(24, e.slbW), (20, e.slaW), (15, e.hostW), (13, e.coreClk.toNat), (0, e.engines)], (e.k * 256).floor.toNat,
      e.fnSel.toNat, idx, if coefIdxs.contains idx then s.coef idx else 0] ++
    regs64 0x20 [s.budget, e.devWindow / 1000, e.reserveLeft.toNat, signedField 64 s.windowBase, f.used,
      f.limit.getD (2 ^ 64 - 1), f.total / fJ, e.devTotal / 1000] ++
    [(0x60, 4, e.target.toNat)] ++ regs64 0x100 (e.railTotal.map (· / 1000)) ++ regs64 0x180 (e.domTotal.map (· / 1000)) ++
    regs32 0x200 [e.windows.toNat, e.throttled.toNat, e.pauses.toNat] ++ [(0x210, 8, e.overrun.toNat)]

/-- The floor code of the state below a domain's present one; 4 above every floor where there is none. -/
def Dom.belowCode (x : Dom) : Nat := if x.state = .off then 4 else floorCode x.state - 1

/-- PWR_VOTE of a domain. DEDUCED: FLOOR is the highest of all clients' floors; AON, for which no client has one and which
never leaves Run, keeps the reset value (log entry 70). -/
def State.voteReg (s : State) (d : Domain) : Nat :=
  regOf [(16, if d = .aon then 4 else s.floorMax d),
    (0, maskOf ((List.range 13).map fun c => decide (s.clientFloor c d > (s.dom d).belowCode)))]

/-- PWR_HIST_TIME and PWR_HIST_INFO. -/
def histRegs (k : Nat) (h : Refuse) : Regs :=
  [(0xA0 + 16 * k, 8, h.time.toNat),
   (0xA8 + 16 * k, 4, regOf [(24, h.target.toNat), (16, h.domain.toNat), (8, h.client.toNat), (0, 1)])]

/-- PWR. -/
def State.pwrRegs (s : State) : Regs :=
  let p := s.pwr
  [(0, 8, regOf (p.doms.zipIdx.map fun x => (4 * x.2, pwrCode x.1.state)))] ++
    regs32 0x0C [regOf [(16, p.dlyDs.toNat), (8, p.dlySleep.toNat), (0, p.dlyIdle.toNat)],
      regOf [(31, b2n p.brownout), (16, p.wakeSrc.toNat), (0, p.aonLoad.toNat)], p.pmeEn.toNat, s.tenantsCount] ++
    regs32 0x20 ((List.range 11).map fun k => ((Domain.ofNum? k).map s.voteReg).getD 0) ++
    regs32 0x60 (p.doms.map (·.refuse.toNat)) ++
    [(0x90, 4, regOf [(31, b2n p.lastValid), (8, p.lastDomain.toNat), (0, p.lastClient.toNat)])] ++
    (p.hist.zipIdx.map fun x => histRegs x.2 x.1).flatten

/-! ## PLC -/

/-- The QP's context lies on-die: one that is being promoted is still in host memory. -/
def State.onDie (s : State) (q : Nat) (p : Qp) : Bool :=
  p.residence == .onDie || p.residence == .migrating && !(s.plc.moves.any fun m => m.1 == q && m.2.1 == .promote)

/-- PLC_STG_SHARE of the group selected. -/
def State.shareReg (s : State) : Nat :=
  let g := s.plc.stgSel.toNat
  regOf [(24, s.floorOf g), (16, s.shareBytes .slb g / 65536), (8, s.shareBytes .sla g / 65536),
    (0, s.shareBytes .host g / 65536)]

/-- PLC_ENG_QPS of an engine; an engine that still holds QPs has not been stopped (R347). -/
def State.engineReg (s : State) (e : Nat) : Nat :=
  let n := (s.qps.filter fun x => x.2.engine == e).length
  regOf [(31, b2n (bitAt s.plc.engActive.toNat e || n != 0)), (0, n)]

/-- PLC. -/
def State.plcRegs (s : State) : Regs :=
  let p := s.plc
  let on := (s.qps.filter fun x => s.onDie x.1 x.2).length
  let evac := s.qps.any fun x => !s.engineOk x.2.engine
  regs32 0 [regOf [(31, b2n (p.maxMig == 0)), (30, b2n evac), (29, b2n p.retained), (0, p.moves.length)],
      regOf [(16, p.engineMask.toNat), (14, p.sleeveMask.toNat), (0, p.maxMig.toNat)]] ++
    regs64 0x08 [s.prov.spillBase.toNat, s.prov.spillSize.toNat] ++
    regs32 0x20 [p.retBanks.toNat, p.stgSel.toNat, s.shareReg] ++ regs32 0x30 [on, s.qps.length - on] ++
    regs32 0x40 ((List.range 16).map s.engineReg) ++ [(0x80, 8, p.epochs.toNat)] ++
    regs32 0x88 [p.promote.toNat, p.demote.toNat, p.engMove.toNat, p.slvMove.toNat, p.migAbort.toNat, p.spillLoad.toNat,
      p.spillFail.toNat, p.quiesceMax.toNat]

/-! ## WIN and STI -/

/-- The register set of an aperture (R207). -/
def aptRegs (x : Apt) : Regs :=
  (0, 4, regOf [(30, winCode x.state), (27, b2n x.rule), (24, x.vc.toNat), (18, x.limitInForce), (16, b2n x.alloc),
      (0, if x.alloc then x.owner else 0)]) ::
    (regs64 0x08 [x.bar2, x.size, x.fbase] ++
      regs32 0x20 [x.node, x.tag.toNat, x.late.toNat, x.rdca.toNat, x.unack.toNat])

/-- The register set of an inbound window with the slots in use (R213). -/
def iwinRegs (x : Iwin) (slots : Nat) : Regs :=
  (0, 4, regOf [(30, winCode x.state), (27, b2n x.rule), (24, x.access.toNat), (16, b2n x.alloc),
      (0, if x.alloc then x.owner else 0)]) ::
    (regs64 0x08 [x.foff, x.size, x.iova] ++ regs32 0x20 [x.source, x.tag.toNat] ++ [(0x28, 8, x.pfd.toNat)] ++
      regs32 0x30 [x.deny.toNat, slots])

/-- The window unit's common registers (R221). -/
def State.winRegs (s : State) : Regs :=
  regs32 0x4000 [s.win.drDiscard.toNat, s.win.slots.length, s.win.drDiscardCnt.toNat, s.win.noWin.toNat, s.win.noMap.toNat]

/-- WIN, by offset in the block. -/
def State.winByte (s : State) (off : Nat) : Byte :=
  if off < 0x4000 then
    match tget s.win.apts (off / 64) with
    | some x => regByte (aptRegs x) (off % 64)
    | none => 0
  else if 0x10000 ≤ off then
    let n := (off - 0x10000) / 64
    match tget s.win.iwins n with
    | some x => regByte (iwinRegs x (s.win.slots.filter fun d => d.2.win == n).length) (off % 64)
    | none => 0
  else regByte s.winRegs off

/-- STI (R230). -/
def State.stiRegs (s : State) : Regs :=
  regs32 0 [s.sti.frames.toNat, s.sti.unmatched.toNat, s.sti.fieldErr.toNat, s.sti.sat.toNat, s.sti.oframes.toNat] ++
    [(0x20, 4, s.sti.staleMs.toNat)]

/-! ## SLA, SLB and BLT -/

/-- A Sleeve's link registers; the node is the bridge's (R281). -/
def State.slvRegs (s : State) (sl : Sleeve) : Regs :=
  let v := s.slv sl
  regs32 0 [regOf [(24, v.retiredRx.toNat), (16, v.retiredTx.toNat), (15, b2n v.encOn), (13, v.rate.toNat), (9, v.rxLanes),
        (5, v.txLanes), (0, slvStateCode v.state)],
      regOf [(5, v.encMode.toNat), (3, v.maxRate.toNat), (0, b2n v.enable)],
      regOf [(31, b2n s.tp.nodeFixed), (0, s.tp.node)], v.replayTimer.toNat,
      regOf [(16, v.rtt.toNat), (0, v.outstanding)], v.evt.toNat] ++
    [(0x20, 8, v.fecCorr.toNat), (0x28, 8, v.fecUncorr.toNat)] ++
    regs32 0x30 [v.seqMismatch.toNat, v.nakSent.toNat, v.nakRcvd.toNat, v.tmrReplay.toNat, v.retrainCnt.toNat,
      v.downCnt.toNat, v.macFail.toNat, v.bypUnknown.toNat] ++
    [(0x50, 8, v.stall.toNat)] ++
    ((List.range 8).map fun l =>
      [(0x100 + 16 * l, 8, (lget v.laneCorr l 0).toNat), (0x108 + 16 * l, 4, (lget v.eye l 0).toNat)]).flatten

/-- The transport's registers, in the SLA block only. -/
def State.tpRegs (s : State) : Regs :=
  let t := s.tp
  regs32 0x8000 [t.epoch.toNat, regOf [(24, t.rto.toNat), (16, t.grantMax.toNat), (0, t.wto.toNat)], t.target.toNat,
      regOf [(16, t.rx.length), (0, (t.tx.filter fun f => f.2.live).length)]] ++
    [(0x8020, 8, t.resent.toNat)] ++
    regs32 0x8028 [t.reroute.toNat, t.dup.toNat, t.ahead.toNat, t.stale.toNat, t.late.toNat, t.noState.toNat,
      t.malformed.toNat, t.frameDrop.toNat, t.ccCut.toNat, t.hold.toNat]

/-- BLT. -/
def State.bltRegs (s : State) : Regs :=
  let b := s.belt
  regs32 0 [regOf [(8, b.summary.toNat), (1, b2n b.sleepOk), (0, b2n b.enable)],
      regOf [(31, b2n b.bypassOpen), (30, b2n b.rxLock), (29, b2n b.txReady), (28, b2n b.overHops), (8, b.enumId.toNat),
        (0, b.position.toNat)],
      b.wireNs.toNat, regOf [(31, b2n s.clk.timeLocked), (0, signedField 24 s.clk.offset)]] ++
    regs32 0x20 [b.crcErr.toNat, b.lockLoss.toNat, b.dropHops.toNat, b.txDrop.toNat, b.bypUnknown.toNat,
      b.bypassClose.toNat, b.timeStep.toNat]

/-! ## XLT and AGE -/

/-- XLT_FN_INFO of the function that XLT_FN_SEL selects. -/
def State.xltInfo (s : State) : Nat :=
  let n := s.xlt.fnSel.toNat
  let f := s.fn n
  regOf [(31, b2n (f.cfg.atsEn && n != 1)), (26, f.cfg.stu.toNat), (20, f.invQueue.length),
    (13, (s.xlt.reqs.filter fun r => r.fn == n).length), (0, min (s.xlt.cache.filter fun e => e.fn == n).length 8191)]

/-- XLT. -/
def State.xltRegs (s : State) : Regs :=
  let x := s.xlt
  regs32 0 [regOf [(17, x.reqs.length), (0, x.cache.length)], x.fnSel.toNat, s.xltInfo,
      (s.fn x.fnSel.toNat).xltFaults.toNat] ++
    regs64 0x10 [x.hits.toNat, x.misses.toNat] ++ regs32 0x20 [x.invRcvd.toNat, x.invOvf.toNat, x.staleTc.toNat]

/-- AGE (R484). -/
def State.ageRegs (s : State) : Regs :=
  let l := s.lin
  let i := l.ageSel.toNat
  regs32 0 [regOf [(31, b2n s.measuring), (30, b2n (!l.deferA.isEmpty || !l.deferB.isEmpty)), (0, min l.days 0xFFFF)],
      regOf [(16, l.lifeDays.toNat), (0, l.limiter.toNat)]] ++
    regs64 0x08 [l.stressUs / 1000000, l.poweredSec] ++
    regs32 0x18 [i, regOf [(16, (lget l.drift i 0).toNat), (0, min ((l.poweredSec - lget l.ageAt i 0) / 3600) 0xFFFF)],
      regOf [(16, l.vddMv.toNat), (0, Config.vddBase.toNat)], regOf [(2, b2n l.autoRetire), (1, b2n l.autoDerate)],
      regOf [(31, b2n l.host128), (2, l.slbRate.toNat), (0, l.slaRate.toNat)]] ++
    regs32 0x30 [l.meas.toNat, l.actions.toNat]

/-! ## Tables that several functions have -/

/-- An MSI-X table entry as its 16 B. -/
def MsixEntry.bytes (e : MsixEntry) : Bytes := leBytes 8 e.addr.toNat ++ leBytes 4 e.data.toNat ++ leBytes 4 e.ctl.toNat

/-- The MSI-X table of a function: an entry at or above the count reads 0, entry 0 of an ABSENT VF masked (R45, R249). -/
def State.msixByte (s : State) (fn off : Nat) : Byte :=
  let n := off / 16
  if n < s.vectorCount fn then lget (tgetD (s.fn fn).msix n MsixEntry.masked).bytes (off % 16) 0
  else if n = 0 && isVf fn && (s.tenant (vfOf fn)).isNone then lget MsixEntry.masked.bytes (off % 16) 0
  else 0

/-- The pending bit array (R248, R249). -/
def State.pbaByte (s : State) (fn off : Nat) : Byte :=
  BitVec.ofNat 8 (maskOf ((List.range 8).map fun i =>
    decide (8 * off + i < s.vectorCount fn) && tgetD (s.fn fn).pba (8 * off + i) false))

/-- The counter array of R490 from the live or the snapshot view. -/
def State.counterByte (s : State) (snap : Bool) (off : Nat) : Byte := lget (s.bh.word snap (off / 8)) (off % 8) 0

/-- The registers of a Pocket; PKT_DOORBELL is write-only (R82 to R96). -/
def Pocket.regs (p : Pocket) : Regs :=
  [(0x04, 4, p.status), (0x08, 4, p.head.toNat), (0x0C, 4, p.tail.toNat), (0x10, 8, p.base.toNat),
   (0x18, 4, regOf [(31, b2n p.enable), (16, p.vector.toNat), (0, p.log2.toNat)]), (0x20, 4, p.lost.toNat)]

/-- A Pocket page: its registers and its two buffers. -/
def Pocket.byte (p : Pocket) (off : Nat) : Byte :=
  if 0x100 ≤ off && off < 0x900 then tgetD p.req (off - 0x100) 0
  else if 0x900 ≤ off && off < 0xF00 then lget p.rsp (off - 0x900) 0
  else regByte p.regs off

/-! ## Status pages (R60, R229) -/

/-- TEN_STATUS; PF0 reads READY and group 0. -/
def State.tenStatus (s : State) (fn : Nat) : Nat :=
  let t := if fn = 0 then some (TenState.ready, 0) else (s.tenant (vfOf fn)).map fun t => (t.state, t.group)
  match t with
  | none => 0
  | some (st, g) => regOf [(16, b2n (s.fn fn).paused), (8, if st = .absent then 0 else g), (0, tenCode st)]

/-- TEN_ALLOWANCE.REMAINING. -/
def Fn.remaining (f : Fn) : Nat :=
  match f.limit with
  | none => 2 ^ 64 - 1
  | some l => l - f.used

/-- A telemetry record as its 32 B: KIND, SLOT, VALID, SEQ, TIME and the values. -/
def TelemRec.bytes (kind slot : Nat) (r : TelemRec) : Bytes :=
  leBytes 1 kind ++ leBytes 1 slot ++ leBytes 2 1 ++ leBytes 4 r.seq.toNat ++ leBytes 8 r.time.toNat ++
    leBytes 8 r.v0.toNat ++ leBytes 8 r.v1.toNat

/-- The record area, by offset in the page. PRESUMED: a record that is not VALID reads 0 but for its KIND and SLOT (log
entry 70). -/
def Fn.telemByte (f : Fn) (off : Nat) : Byte :=
  let record (kind slot key : Nat) : Byte :=
    match tget f.telem key with
    | some r => lget (r.bytes kind slot) (off % 32) 0
    | none => lget (leBytes 1 kind ++ leBytes 1 slot) (off % 32) 0
  if off < 0x160 then record ((off - 0x100) / 32) 0 ((off - 0x100) / 32)
  else if off < 0x200 then 0
  else record 3 ((off - 0x200) / 32) (16 + (off - 0x200) / 32)

/-- A status page. Of an ABSENT VF only TEN_STATUS reads (R62). -/
def State.statusByte (s : State) (fn off : Nat) : Byte :=
  let f := s.fn fn
  if off < 4 then byteOf (s.tenStatus fn) off
  else if isVf fn && (s.tenant (vfOf fn)).isNone then 0
  else if 0x100 ≤ off then f.telemByte off
  else regByte [(0x08, 8, f.remaining), (0x10, 4, f.lateCpl.toNat), (0x14, 4, f.orphanCpl.toNat)] off

/-! ## The three BAR0s (R58 to R60) -/

/-- The register blocks of PF0 below the MSI-X table. -/
def State.blockByte (s : State) (off : Nat) : Byte :=
  if off < 0x010000 then regByte s.glbRegs off
  else if off < 0x020000 then s.poolByte (off - 0x010000)
  else if off < 0x040000 then s.pltByte (off - 0x020000)
  else if off < 0x050000 then s.fcByte (off - 0x040000)
  else if off < 0x060000 then regByte s.elRegs (off - 0x050000)
  else if off < 0x070000 then regByte s.pwrRegs (off - 0x060000)
  else if off < 0x080000 then regByte s.plcRegs (off - 0x070000)
  else if off < 0x0A0000 then s.winByte (off - 0x080000)
  else if off < 0x0C0000 then regByte s.stiRegs (off - 0x0A0000)
  else if off < 0x0D0000 then regByte (s.slvRegs .a ++ s.tpRegs) (off - 0x0C0000)
  else if off < 0x0E0000 then regByte (s.slvRegs .b) (off - 0x0D0000)
  else if off < 0x100000 then regByte s.bltRegs (off - 0x0E0000)
  else if off < 0x110000 then regByte s.xltRegs (off - 0x100000)
  else if off < 0x120000 then regByte s.ageRegs (off - 0x110000)
  else 0

/-- PF0 BAR0. -/
def State.pf0Byte (s : State) (off : Nat) : Byte :=
  if off < 0x1C0000 then s.blockByte off
  else if off < 0x1C8000 then s.msixByte 0 (off - 0x1C0000)
  else if off < 0x1C8100 then s.pbaByte 0 (off - 0x1C8000)
  else if off < 0x200000 then 0
  else if off < 0x208000 then s.counterByte false (off - 0x200000)
  else if off < 0x210000 then s.counterByte true (off - 0x208000)
  else if off < 0x1000000 then 0
  else if off < 0x1001000 then (s.fn 0).pocket.byte (off - 0x1000000)
  else if inRange off 0x1002000 0x1002FFF then s.statusByte 0 (off - 0x1002000)
  else 0

/-- BH's registers. -/
def Bh.regs (b : Bh) : Regs :=
  regs32 0 [b2n b.traceEn, regOf [(1, b2n b.running), (0, b2n b.lost)], b.filter.toNat, b.cntTrace.toNat,
    regOf [(31, b2n b.intEn), (0, b.intVec.toNat)], b.lostCnt.toNat] ++ [(0x18, 8, b.snapTime.toNat)]

/-- BH_SEL of a counter. -/
def Bh.selReg (b : Bh) (c : Nat) : Nat :=
  match tget b.sel c with
  | none => 0
  | some x => regOf [(16, x.event.toNat), (14, x.kind.toNat), (0, x.filter.toNat)]

/-- PF1 BAR0. -/
def State.pf1Byte (s : State) (off : Nat) : Byte :=
  if off < 0x1000 then regByte s.bh.regs off
  else if off < 0x5000 then byteOf (s.bh.selReg ((off - 0x1000) / 4)) (off % 4)
  else if off < 0x8000 then 0
  else if off < 0x10000 then s.counterByte true (off - 0x8000)
  else if off < 0x18000 then s.counterByte false (off - 0x10000)
  else if off < 0xF00000 then 0
  else if off < 0xF01000 then (s.fn 1).pocket.byte (off - 0xF00000)
  else if off < 0xF02000 then lget (s.view 1) (off - 0xF01000) 0
  else if inRange off 0xFF0000 0xFF00FF then s.msixByte 1 (off - 0xFF0000)
  else if inRange off 0xFF8000 0xFF8007 then s.pbaByte 1 (off - 0xFF8000)
  else 0

/-- A VF's BAR0; its doorbell slots read 0. -/
def State.vfByte (s : State) (fn off : Nat) : Byte :=
  if off < 0x1000 then 0
  else if off < 0x2000 then (s.fn fn).pocket.byte (off - 0x1000)
  else if off < 0x3000 then s.statusByte fn (off - 0x2000)
  else if off < 0x4000 then lget (s.view fn) (off - 0x3000) 0
  else if off < 0x8000 then s.msixByte fn (off - 0x4000)
  else if off < 0x8080 then s.pbaByte fn (off - 0x8000)
  else 0

/-- A byte of a function's BAR0: no function decodes another's (R533). -/
def State.bar0Byte (s : State) (fn off : Nat) : Byte :=
  if fn = 0 then s.pf0Byte off else if fn = 1 then s.pf1Byte off else s.vfByte fn off

/-- What a read of BAR0 returns, all its bytes of one instant (R13). -/
def State.bar0Read (s : State) (fn off len : Nat) : Bytes := (List.range len).map fun i => s.bar0Byte fn (off + i)

/-! ## The expansion ROM (R73) -/

/-- The image's header and PCI Data Structure. PRESUMED: the fields of the structure lie as the PCI Firmware Specification
has them; those that R73 does not give read 0 (log entry 70). -/
def romHead : Bytes :=
  let head : Bytes := [0x55, 0xAA] ++ zeros 22 ++ leBytes 2 0x40
  let pcir : Bytes := [0x50, 0x43, 0x49, 0x52] ++ leBytes 2 0x1F3C ++ leBytes 2 0x7160 ++ zeros 2 ++ leBytes 2 0x1C ++ [3] ++
    leBytes 3 0x0B4000 ++ leBytes 2 0x0800 ++ zeros 2 ++ [0x70, 0x80] ++ zeros 6
  fit 0x40 head ++ pcir

/-- The Expansion ROM is decoded: its enable and PF0's Memory Space Enable are both 1. -/
def State.romOn (s : State) : Bool := bitAt (s.rawNat 0 12) 0 && (s.fn 0).cfg.mse

/-- A byte of the image: the header, and the Yasil table from 0x1000 on, which reads 0 while Jalid starts or reloads (R79). -/
def State.romByte (s : State) (off : Nat) : Byte :=
  if off < 0x1000 then lget romHead off 0 else lget (s.view 0) (off - 0x1000) 0

/-! ## The read as a request (R51) -/

/-- A host read of BAR0 as the block answers it: the completion of R51, or the refusal of R451. CTL, which serves the
Pockets, wakes for it (R107). -/
def State.registerRead (fn off len : Nat) (s : State) : State :=
  if s.link.state = .down || s.nonPostedFull then s
  else
    let s := s.tlpRcvd fn 0
    match s.barGate fn with
    | .served =>
      let s := if inRange off (pocketBase fn) (pocketBase fn + 0xFFF) then s.accessWake .ctl else s
      s.complete fn .sc (s.bar0Read fn off len)
    | g => s.barRefuse fn true g

/-- A host read of the expansion ROM. -/
def State.romRead (off len : Nat) (s : State) : State :=
  if s.link.state = .down || s.nonPostedFull then s
  else
    let s := s.tlpRcvd 0 0
    match if s.romOn || s.boot.mode = .safe then s.barGate 0 else .refused true with
    | .served =>
      let s := s.accessWake .ctl
      s.complete 0 .sc ((List.range len).map fun i => s.romByte (off + i))
    | g => s.barRefuse 0 true g

end Sys2Proof.Machine
end

