-- ==== Sys2Proof/WellFormed.lean ====
section
/-! DEFINITION. Which commands a sender can form: every operand within the range its field has in the spec. exec is total and
asks for none of this; a value outside is one that no sender can put on the wire, in a register or on a pin. -/
namespace Sys2Proof

/-- A function number of R56: PF0, PF1, and VF1 to VF1024. -/
def fnOk (fn : Nat) : Bool := decide (fn ≤ 1025)

/-- A VF number (R56). -/
def vfOk (vf : Nat) : Bool := decide (1 ≤ vf) && decide (vf ≤ 1024)

/-- A global QP number (R26). -/
def qpOk (qp : Nat) : Bool := decide (qp < 65536)

/-- A node of 20 bits (R7). -/
def nodeOk (node : Nat) : Bool := decide (node < 2 ^ 20)

/-- A virtual channel (R298). -/
def vcOk (vc : Nat) : Bool := decide (vc < 8)

/-- A lane of a Sleeve (R268). -/
def laneOk (lane : Nat) : Bool := decide (lane < 8)

/-- A queue set (R128). -/
def qsetOk (q : Nat) : Bool := decide (q < 16)

/-- A queue set, or none for the function itself (R377). -/
def qsetOk? : Option Nat → Bool
  | some q => qsetOk q
  | none => true

/-- A pool-wide aperture number (R26). -/
def aptOk (n : Nat) : Bool := decide (n < 256)

/-- A pool-wide inbound window number (R26). -/
def winOk (n : Nat) : Bool := decide (n < 1024)

/-- A Stitch map entry (R223). -/
def stitchOk (e : Nat) : Bool := decide (e < 4096)

/-- A host link width (R34). -/
def lanesOk (n : Nat) : Bool := [1, 2, 4, 8, 16].contains n

/-- A request fits its fields (R83): LENGTH and the six reserved bytes. -/
def Request.wf (r : Request) : Bool := decide (r.len < 65536) && decide (r.rsv.length ≤ 6)

/-- A packet fits its header fields (R302). -/
def Packet.wf (p : Packet) : Bool := decide (p.len < 8192) && nodeOk p.src && nodeOk p.dst && decide (p.payload.length ≤ 4104)

/-- A transport message fits its fields (R305). -/
def TMsg.wf (m : TMsg) : Bool := nodeOk m.src && nodeOk m.dst && decide (m.vc < 256)

/-- A ROUTE message fits its fields (R329). -/
def RouteMsg.wf (m : RouteMsg) : Bool := decide (m.len < 65536) && nodeOk m.srcNode && nodeOk m.dstNode

/-- A sample has one reading for each sensor (R458). -/
def Readings.wf (r : Readings) : Bool :=
  decide (r.temps.length = 32) && decide (r.volts.length = 16) && decide (r.amps.length = 8) && decide (r.droops.length = 64)

/-- The command can be formed. -/
def Instr.wf (i : Instr) : Bool :=
  match i with
  | .vaonValid _ => true
  | .vaonLost => true
  | .vddValid _ => true
  | .supplyLoss => true
  | .manifestAccepted _ _ _ => true
  | .liningLoadComplete => true
  | .perstNAssert => true
  | .perstNDeassert _ => true
  | .jalidLoadComplete => true
  | .configurationReady => true
  | .selfTestCommit => true
  | .bootTimeout _ => true
  | .chipReset _ _ => true
  | .brownOut _ => true
  | .ckSrefLoss => true
  | .pllLockLoss pll => decide (pll < 8)
  | .xtalStable => true
  | .xtalTimeout => true
  | .hotReset => true
  | .hostLinkDown => true
  | .hostLinkTrained lanes rate _ t =>
    lanesOk lanes && decide (1 ≤ rate) && decide (rate ≤ 7) && t.eqs.all fun e => decide (3 ≤ e.rate) && decide (e.rate ≤ rate)
  | .l0pWidthChange lanes => lanesOk lanes
  | .ltrMessage => true
  | .ltr3ms => true
  | .clkreqNAssert => true
  | .l1Exit => true
  | .lwakeN => true
  | .smbusAddressMatch => true
  | .configRequest fn off _ _ => fnOk fn && decide (off < 4096) && decide (off % 4 = 0)
  | .flrStart fn => fnOk fn
  | .flrComplete fn => fnOk fn
  | .numvfsWrite _ => true
  | .vfEnableSet => true
  | .vfEnableClear => true
  | .bmeClear fn => fnOk fn
  | .bmeSet fn => fnOk fn
  | .d3hotEntry fn => fnOk fn
  | .d3hotToD0 fn => fnOk fn
  | .atsEnableClear fn => fnOk fn
  | .atsEnableSet fn _ => fnOk fn
  | .bar2Resize log2 => decide (log2 ≤ 43)
  | .cfgIdeSelWrite _ => true
  | .poolIdeBindWrite k _ => decide (k < 256)
  | .ideCheckFailed _ _ => true
  | .ideKeyProgramming _ _ => true
  | .lockInterfaceRequest vf => vfOk vf
  | .startInterfaceRequest vf => vfOk vf
  | .stopInterfaceRequest vf => vfOk vf
  | .getDeviceInterfaceReport vf => vfOk vf
  | .spdmGetCertificate slot off len => decide (slot < 8) && decide (off < 65536) && decide (len < 65536)
  | .spdmChallenge _ _ => true
  | .spdmGetMeasurements _ => true
  | .spdmKeyExchange => true
  | .spdmKeyUpdate _ => true
  | .apertureWrite fn _ data => fnOk fn && decide (data.length ≤ 4096)
  | .apertureRead fn _ len _ => fnOk fn && decide (len ≤ 4096)
  | .apertureReadLimit _ => true
  | .bar2UnmappedAccess fn _ len _ => fnOk fn && decide (len ≤ 4096)
  | .unsupportedRequest fn _ => fnOk fn
  | .msixEntryWrite fn vec dword _ => fnOk fn && decide (vec < 2048) && decide (dword < 4)
  | .completionArrival rid tag _ _ _ _ => fnOk rid && decide (tag < 16384)
  | .translationCompletion rid tag _ _ => fnOk rid && decide (tag < 16384)
  | .invalidateRequest fn itag _ _ _ => fnOk fn && decide (itag < 32)
  | .invalidationCompletion fn => fnOk fn
  | .completionTimeout _ => true
  | .tagQuarantineExpiry _ => true
  | .identify fn r => fnOk fn && Request.wf r
  | .yasilRead fn r => fnOk fn && Request.wf r
  | .groupCreate fn r => fnOk fn && Request.wf r
  | .groupDestroy fn r => fnOk fn && Request.wf r
  | .tenantCreate fn r => fnOk fn && Request.wf r
  | .tenantCreateComplete _ => true
  | .tenantDestroy fn r => fnOk fn && Request.wf r
  | .tenantDestroyComplete vf => vfOk vf
  | .tenantQuery fn r => fnOk fn && Request.wf r
  | .spillGrant fn r => fnOk fn && Request.wf r
  | .spillRevoke fn r => fnOk fn && Request.wf r
  | .spillRevokeComplete => true
  | .qsetCreate fn r => fnOk fn && Request.wf r
  | .qsetModify fn r => fnOk fn && Request.wf r
  | .qsetDestroy fn r => fnOk fn && Request.wf r
  | .qpCreate fn r => fnOk fn && Request.wf r
  | .qpModifyStart fn r => fnOk fn && Request.wf r
  | .qpModifyStop fn r => fnOk fn && Request.wf r
  | .qpModifyRecover fn r => fnOk fn && Request.wf r
  | .qpDestroy fn r => fnOk fn && Request.wf r
  | .qpDestroyComplete qp => qpOk qp
  | .qpQuery fn r => fnOk fn && Request.wf r
  | .aptOpen fn r => fnOk fn && Request.wf r
  | .aptClose fn r => fnOk fn && Request.wf r
  | .aptCloseComplete n => aptOk n
  | .iwinOpen fn r => fnOk fn && Request.wf r
  | .iwinClose fn r => fnOk fn && Request.wf r
  | .iwinCloseComplete n => winOk n
  | .winQuery fn r => fnOk fn && Request.wf r
  | .stitchLoad fn r => fnOk fn && Request.wf r
  | .stitchClear fn r => fnOk fn && Request.wf r
  | .stitchSet fn r => fnOk fn && Request.wf r
  | .stitchQuery fn r => fnOk fn && Request.wf r
  | .capSet fn r => fnOk fn && Request.wf r
  | .reserveSet fn r => fnOk fn && Request.wf r
  | .allowanceSet fn r => fnOk fn && Request.wf r
  | .borrow fn r => fnOk fn && Request.wf r
  | .energyQuery fn r => fnOk fn && Request.wf r
  | .hintSet fn r => fnOk fn && Request.wf r
  | .placeLimits fn r => fnOk fn && Request.wf r
  | .numaMap fn r => fnOk fn && Request.wf r
  | .telemConfig fn r => fnOk fn && Request.wf r
  | .counterSelect fn r => fnOk fn && Request.wf r
  | .telemSnapshot fn r => fnOk fn && Request.wf r
  | .voteSet fn r => fnOk fn && Request.wf r
  | .voteQuery fn r => fnOk fn && Request.wf r
  | .faultVector fn r => fnOk fn && Request.wf r
  | .faultQuery fn r => fnOk fn && Request.wf r
  | .faultClear fn r => fnOk fn && Request.wf r
  | .logRead fn r => fnOk fn && Request.wf r
  | .updateBegin fn r => fnOk fn && Request.wf r
  | .updateWrite fn r => fnOk fn && Request.wf r
  | .updateWriteComplete _ => true
  | .updateCommit fn r => fnOk fn && Request.wf r
  | .updateCommitComplete _ _ => true
  | .updateCancel fn r => fnOk fn && Request.wf r
  | .updateActivate fn r => fnOk fn && Request.wf r
  | .updateStatus fn r => fnOk fn && Request.wf r
  | .nop fn r => fnOk fn && Request.wf r
  | .abort fn r => fnOk fn && Request.wf r
  | .echo fn r => fnOk fn && Request.wf r
  | .pktEvqHeadWrite fn _ => fnOk fn
  | .evqEnable fn _ => fnOk fn
  | .evqDisable fn _ => fnOk fn
  | .heldEventWrite fn => fnOk fn
  | .jalidReload => true
  | .jalidReloadComplete => true
  | .sqDoorbell fn slot _ => fnOk fn && decide (slot < 1024)
  | .cqDoorbell fn slot _ => fnOk fn && decide (slot < 1024)
  | .descriptorFetch qp => qpOk qp
  | .put qp _ => qpOk qp
  | .get qp _ => qpOk qp
  | .sendD qp _ => qpOk qp
  | .recv qp _ => qpOk qp
  | .fence qp _ => qpOk qp
  | .fenceComplete qp _ => qpOk qp
  | .note qp _ => qpOk qp
  | .noteComplete qp _ => qpOk qp
  | .unitCommit _ => true
  | .unitEmitted _ => true
  | .moderationHoldoff fn qset => fnOk fn && qsetOk qset
  | .pleatBegin _ => true
  | .pleatLapsed _ => true
  | .grantOpportunity _ => true
  | .starvation _ _ => true
  | .queueSetPause fn qset => fnOk fn && qsetOk? qset
  | .accountingWindowBoundary => true
  | .planningEpoch rails => decide (rails.length = 8)
  | .placementEpoch => true
  | .migrationSwitch qp _ => qpOk qp
  | .migrationAbandon qp => qpOk qp
  | .spillLoadComplete qp _ => qpOk qp
  | .spillWriteBack qp => qpOk qp
  | .flowletBoundary node vc => nodeOk node && vcOk vc
  | .domainIdleAttempt _ => true
  | .domainSleepAttempt _ => true
  | .domainDeepSleepAttempt _ => true
  | .domainEntryComplete _ => true
  | .domainWake _ => true
  | .wakeComplete _ => true
  | .pwrCtrlClrHist => true
  | .winFlushStart fn apt => fnOk fn && aptOk apt
  | .writePkt _ p => Packet.wf p
  | .readPkt _ p => Packet.wf p
  | .delayedReadDataLanded handle => decide (handle < 65536)
  | .collectPkt _ p => Packet.wf p
  | .delayedReadDiscard handle => decide (handle < 65536)
  | .prefetchDiscard win node => winOk win && nodeOk node
  | .readRsp _ p => Packet.wf p
  | .readReady _ p => Packet.wf p
  | .collectRsp _ p => Packet.wf p
  | .sendPacket _ p => Packet.wf p
  | .resetMark _ p => Packet.wf p
  | .statusFrame _ p => Packet.wf p
  | .stitchOutputFrame e => stitchOk e
  | .sensorStale e => stitchOk e
  | .telemetryRefresh fn => fnOk fn
  | .sleeveDetect _ words => decide (words.length = 8)
  | .trainComplete _ _ => true
  | .trainTimeout _ => true
  | .alignComplete _ => true
  | .paramComplete _ => true
  | .stageBoundExpiry _ => true
  | .downRetry _ => true
  | .hello _ _ _ node depth => nodeOk node && decide (depth < 65536)
  | .nodeAssign _ node => nodeOk node
  | .flitReceive _ fec flit => decide (fec.corrected.length = 8) && decide (flit.length = 256)
  | .replayTimer _ => true
  | .noValidFlit _ => true
  | .trainingWordRetrain _ _ => true
  | .rxLockLoss _ lane => laneOk lane
  | .retrainLaneTimeout _ lane => laneOk lane
  | .retrainComplete _ _ => true
  | .retrainTimeout _ => true
  | .laneRetire _ lane => laneOk lane
  | .shedRequest _ _ => true
  | .shedReady _ _ => true
  | .shedSwitch _ _ => true
  | .shedRefuse _ => true
  | .quietRequest _ => true
  | .quietRequestSent _ => true
  | .quietAccept _ => true
  | .quietRefuse _ => true
  | .sleeveWakePattern _ => true
  | .fray _ _ node => nodeOk node
  | .linkDown _ _ => true
  | .keySwitch _ _ _ => true
  | .mac _ _ => true
  | .mgmt _ _ _ _ => true
  | .linkKeyUpdate _ => true
  | .sleeveEnableClear _ => true
  | .sleeveEnableSet _ => true
  | .maxRateWrite _ _ => true
  | .unretire _ => true
  | .grant _ m _ => TMsg.wf m
  | .ack _ m _ => TMsg.wf m
  | .nak _ m _ _ => TMsg.wf m
  | .epochMsg src _ => nodeOk src
  | .want _ m => TMsg.wf m
  | .retire _ m _ => TMsg.wf m
  | .resendTimer node vc => nodeOk node && vcOk vc
  | .writeTimeout node vc => nodeOk node && vcOk vc
  | .sendStateRetire node vc => nodeOk node && vcOk vc
  | .receiveStateRetire node vc => nodeOk node && vcOk vc
  | .retirementRecordExpiry node vc => nodeOk node && vcOk vc
  | .refusalRecordExpiry node vc _ => nodeOk node && vcOk vc
  | .wantRepeat node vc => nodeOk node && vcOk vc
  | .flowSilenceEnd node vc => nodeOk node && vcOk vc
  | .epochPeriodic => true
  | .beltLock => true
  | .beltLockLoss => true
  | .beltFlitReceive flit => decide (flit.length = 256)
  | .route m _ => RouteMsg.wf m
  | .timeMsg _ => true
  | .timeLockTimeout => true
  | .enumMsg _ _ _ => true
  | .beltWakePattern => true
  | .beltEnableClear => true
  | .beltEnableSet => true
  | .summaryFrame => true
  | .faultAssert src _ => decide (src < 1024)
  | .trapAckTimeout => true
  | .chipResetWatchdog _ => true
  | .errNPulseEnd => true
  | .release => true
  | .fcLock => true
  | .faultScrub _ _ => true
  | .liningWatchdog => true
  | .jalidWatchdog => true
  | .sensorSample r => Readings.wf r
  | .eventLogWrite => true
  | .setEndpointId _ _ => true
  | .getEndpointId _ => true
  | .getMctpVersionSupport _ _ => true
  | .getMessageTypeSupport _ => true
  | .mctpLogRead _ _ => true
  | .getTid _ => true
  | .getPldmVersion _ _ => true
  | .getPldmTypes _ => true
  | .getPldmCommands _ _ => true
  | .getPdrRepositoryInfo _ => true
  | .getPdr _ _ => true
  | .getSensorReading _ _ => true
  | .getSensorThresholds _ _ => true
  | .getNumericEffecterValue _ _ => true
  | .powerCap _ _ => true
  | .accountWindow _ _ => true
  | .errRelease _ _ => true
  | .chipResetEffecter _ _ _ => true
  | .ageMeasure _ _ => true
  | .requestUpdate _ _ => true
  | .passComponentTable _ _ => true
  | .updateComponent _ _ _ => true
  | .requestFirmwareData _ _ _ => true
  | .transferComplete => true
  | .verifyComplete _ _ _ => true
  | .activateFirmware _ => true
  | .cancelUpdate _ => true
  | .cancelUpdateComponent _ => true
  | .updateAgentTimeout => true
  | .ledgerDay _ => true
  | .ageMeasurement _ => true
  | .marginDeferExpiry _ => true
  | .measureNow => true
  | .clearDerate => true
  | .counterRead _ _ _ => true
  | .traceEnSet => true
  | .traceEnClear => true
  | .mark => true
  | .counterTracePeriod => true
  | .registerWrite fn bar _ size _ => fnOk fn && (decide (bar = 0) || decide (bar = 2)) && (decide (size = 4) || decide (size = 8))
  | .l1Entry _ => true
  | .tokenBucketRefill fn qset => fnOk fn && qsetOk qset
  | .ckSrefPresent => true
  | .addedLanesLocked _ _ => true
  | .spdmSessionEnd _ => true
  | .doeDiscovery _ => true
  | .alertResponseAddress => true
  | .dynamicAddressAssignment _ => true
  | .remainingSectionsLoad _ => true
  | .eyeMeasurement _ eyes => decide (eyes.length = 8)
  | .equivalentStressMinute _ => true

end Sys2Proof
end

