-- ==== Sys2Proof/Safety.lean ====
section
/-! DEFINITION. The words in which claims about the Y7 are stated: what a command has done when it answers a next state, the
part of the state that the common end of every command leaves alone, and the invariants. -/
namespace Sys2Proof

/-- The payload of a request: LEN bytes. -/
abbrev Request.data (r : Request) : Bytes := fit r.len r.payload

end Sys2Proof

namespace Sys2Proof.Machine

/-! ## A command completes -/

/-- The state after the common end of a command: was is the state before the command, own the one its own effect leaves.
Host reads and writes that may go are emitted, asserted lines are collected, a change of mode is recorded; the queue of
waiting commands is the one before. -/
def State.after (was own : State) : State := { settle was own with pending := was.pending }

/-- Command c runs to its end in state s, and its own effect, before the common end, leaves a state with P. -/
def Completes (c : Instr) (s : State) (P : State → Prop) : Prop := ∃ own, exec c s = .next (s.after own) ∧ P own

/-- Command c answers a next state with P. -/
def Answers (c : Instr) (s : State) (P : State → Prop) : Prop := ∃ t, exec c s = .next t ∧ P t

/-- Nothing waits at the host port and no line is asserted: the common end of a command has nothing to carry out. -/
structure State.Calm (s : State) : Prop where
  items : s.hostq = []
  reads : s.waits = []
  lines : s.fc.asserted = []
  arrivals : s.plt.arrivals = []
  lost : s.bh.intDue = false

/-! ## A request at a Pocket -/

/-- The request that a Pocket of the state takes and that passes every check which the commands share: the Pocket is served
and not WORKING, the doorbell is a token, steps 1 to 5 of R113 pass, the caller's tenant is not WIPING (or the command is
of class 0x01 or 0x0F), the length is the opcode's and the reserved fields are 0 (R82 to R90, R110, R113, R536). -/
structure Taken (o : OpInfo) (fn : Nat) (r : Request) (s : State) : Prop where
  served : s.pocketServed fn = true
  idle : (s.fn fn).pocket.state ≠ .working
  token : r.doorbell.toNat < 65536
  checks : s.admitStatus o fn r = stDone
  tenant : isVf fn = true → (s.tenant (vfOf fn)).map (·.state) = some .wiping → o.cls = 1 ∨ o.cls = 0xF
  length : lengthOk o (r.data) = true
  reserved : ∀ x ∈ o.rsv, leNat (slice x.1 x.2 (r.data)) = 0

/-- State own is u but for what taking and answering a request of fn may change: fn's Pocket (state, token, buffers, long
commands, held and lost events), fn's charge, and an event entry on its way to the host. -/
structure Beside (fn : Nat) (own u : State) : Prop where
  rest : own = { u with fns := own.fns, el := { u.el with epochCharge := own.el.epochCharge }, hostq := own.hostq,
                        stamp := own.stamp }
  others : ∀ n, n ≠ fn → own.fn n = u.fn n
  caller : own.fn fn = { u.fn fn with pocket := (own.fn fn).pocket, consumed := (own.fn fn).consumed,
                                      total := (own.fn fn).total }
  pocket : (own.fn fn).pocket =
    { (u.fn fn).pocket with
      state := (own.fn fn).pocket.state, token := (own.fn fn).pocket.token, drop := (own.fn fn).pocket.drop,
      req := (own.fn fn).pocket.req, rsp := (own.fn fn).pocket.rsp, longs := (own.fn fn).pocket.longs,
      held := (own.fn fn).pocket.held, ovf := (own.fn fn).pocket.ovf, lost := (own.fn fn).pocket.lost,
      lostNow := (own.fn fn).pocket.lostNow, lostTime := (own.fn fn).pocket.lostTime }

/-- Command c completes with the response st and payload d in fn's Pocket, long commands longs outstanding there, and, but for
what answering a request changes and the wake of CTL that its arrival asks for (R107, R387), the state u. -/
def Responds (c : Instr) (o : OpInfo) (fn : Nat) (r : Request) (s : State) (st : Nat) (d : Bytes) (longs : List LongCmd)
    (u : State) : Prop :=
  Completes c s fun own =>
    Beside fn own (u.accessWake .ctl) ∧ (own.fn fn).pocket.state = .responded ∧ (own.fn fn).pocket.token = r.token ∧
      (own.fn fn).pocket.rsp = responseBytes o.code r st d ∧ (own.fn fn).pocket.longs = longs

/-- A quick command is DONE: payload d, and the state u. -/
def Done (c : Instr) (o : OpInfo) (fn : Nat) (r : Request) (s : State) (d : Bytes) (u : State) : Prop :=
  Responds c o fn r s stDone d (s.fn fn).pocket.longs u

/-- A long command is ACCEPTED: it is outstanding with its object, and the state u. -/
def Accepted (c : Instr) (o : OpInfo) (fn : Nat) (r : Request) (s : State) (kind : LongKind) (obj : Nat) (u : State) : Prop :=
  Responds c o fn r s stAccepted []
    ((s.fn fn).pocket.longs ++ [{ token := r.token, kind := kind, obj := obj, payload := r.data }]) u

/-- A quick command is DONE by operation f on the state t that has taken the request, which is s but for the request and CTL's
wake: payload d t, and the state f t. -/
def DoneBy (c : Instr) (o : OpInfo) (fn : Nat) (r : Request) (s : State) (d : State → Bytes) (f : State → State) : Prop :=
  ∃ t, Beside fn t (s.accessWake .ctl) ∧ Completes c s fun own =>
    Beside fn own (f t) ∧ (own.fn fn).pocket.state = .responded ∧
      (own.fn fn).pocket.rsp = responseBytes o.code r stDone (d t)

/-- A long command is ACCEPTED, and operation f begins it. -/
def AcceptedBy (c : Instr) (o : OpInfo) (fn : Nat) (r : Request) (s : State) (kind : LongKind) (obj : Nat)
    (f : State → State) : Prop :=
  ∃ t, Beside fn t (s.accessWake .ctl) ∧ Completes c s fun own =>
    Beside fn own (f t) ∧ (own.fn fn).pocket.state = .responded ∧
      (own.fn fn).pocket.rsp = responseBytes o.code r stAccepted [] ∧
      (own.fn fn).pocket.longs =
        ((f t).fn fn).pocket.longs ++ [{ token := r.token, kind := kind, obj := obj, payload := r.data }]

/-- A command that passed the shared checks is refused with st by a check of its own: no effect but the response. -/
def RefusedWith (c : Instr) (o : OpInfo) (fn : Nat) (r : Request) (s : State) (st : Nat) (d : Bytes) : Prop :=
  Responds c o fn r s st d (s.fn fn).pocket.longs s

/-! ## What the common end of a command leaves alone -/

/-- A function without the fields that reporting, charging and queue work may change. -/
abbrev Fn.core (f : Fn) : Fn :=
  { f with
    cfg := { f.cfg with aerUnc := 0, aerCor := 0, raw := [] }, pba := [], qsets := [], xltFaults := 0, consumed := 0,
    total := 0, bytesOut := 0, bytesIn := 0, latSum := 0, latMax := 0, latN := 0,
    pocket := { f.pocket with state := .idle, ovf := false, evqFault := false, tail := 0, phase := false, lost := 0,
                              lostNow := 0, lostTime := 0, longs := [], held := [] } }

/-- The part of the state that the common end of a command never changes: boot but for the mode, clocks, host link,
provisioning but for TDISP states, the Stitch engine, ledger settings, power domains but for a wake that begins, Lining but
for its log, the Belt's registers, placement settings, the collector's settings, transport settings, pleats, and every
function's own. -/
structure Kept where
  boot : Boot
  clk : Clocks
  link : HostLink
  prov : Prov
  sti : Sti
  el : El
  pwr : Pwr
  lin : Lin
  belt : Belt
  maxMig : BitVec 9
  masks : W16 × BitVec 2
  numa : Table W16
  react : Table Byte
  fcBits : Bool × Bool × Bool
  transport : W16 × Byte × Byte × W16 × W16
  pleats : Table (BitVec 10) × Table (BitVec 10) × Table (BitVec 10)
  starveLimit : BitVec 14
  current : Nat
  fn : Nat → Fn

/-- That part of a state. -/
def State.kept (s : State) : Kept where
  boot := { s.boot with mode := .off, reloading := false }
  clk := s.clk
  link := s.link
  prov := { s.prov with tenants := tmap s.prov.tenants fun _ t => { t with tdisp := .unlocked } }
  sti := s.sti
  el := { s.el with epochCharge := [] }
  pwr := { s.pwr with doms := s.pwr.doms.map fun x => { x with waking := false, wakeNoted := false } }
  lin := { s.lin with logQueue := [], logLost := 0, session := { s.lin.session with isOpen := false } }
  belt := { s.belt with bypassOpen := false, bypassClose := 0, txQueue := [] }
  maxMig := s.plc.maxMig
  masks := (s.plc.engineMask, s.plc.sleeveMask)
  numa := s.plc.numa
  react := s.fc.react
  fcBits := (s.fc.lock, s.fc.hold, s.fc.releaseDue)
  transport := (s.tp.epoch, s.tp.rto, s.tp.grantMax, s.tp.wto, s.tp.target)
  pleats := (s.plt.host.entries, s.plt.sla.entries, s.plt.slb.entries)
  starveLimit := s.plt.starveLimit
  current := s.plt.current
  fn := fun n => (s.fn n).core

/-- A function without the fields that the common end of a command may change. -/
abbrev Fn.rest (f : Fn) : Fn := { f.core with recovering := none, stitched := [], pendSt := [] }

/-- What the common end of a command never changes: that part but for the Stitch map that status frames in waiting enter, the
requests refused to a VF in RUN, and the Belt's dropped flits,
and a function's recovery from a hold, stitched telemetry and pending messages' tags. -/
def State.lasting (s : State) : Kept :=
  { s.kept with
    sti := { Sti.init with staleMs := s.sti.staleMs },
    belt := { s.belt with bypassOpen := false, bypassClose := 0, txQueue := [], txDrop := 0 },
    prov := { s.prov with tenants := tmap s.prov.tenants fun _ t => { t with tdisp := .unlocked, rejects := 0 } },
    fn := fun n => (s.fn n).rest }

/-! ## PF0's mailbox -/

/-- An object stands ready in PF0's DOE mailbox, and beside it only an interrupt of PF0 may be on its way (R42, R44). -/
structure Told (s : State) (body : Bytes) (own : State) : Prop where
  said : own.out = s.out ++ [.doe body]
  mailbox : own.prov = { s.prov with doe := { s.prov.doe with busy := false, answer := dwordsOf body, intStatus := true } }
  rest : own.lasting = { s.lasting with prov := own.lasting.prov }

/-! ## Packets -/

/-- The rows of the packets that a Sleeve receives. -/
def packetRows (sl : Sleeve) (p : Packet) : List Instr :=
  [.writePkt sl p, .readPkt sl p, .collectPkt sl p, .readRsp sl p, .readReady sl p, .collectRsp sl p, .sendPacket sl p,
   .resetMark sl p, .statusFrame sl p]

/-- The packet is the expected one of its flow, from an epoch this node knows: R312 accepts it. -/
structure Expected (sl : Sleeve) (p : Packet) (r : RxFlow) (s : State) : Prop where
  up : s.slvUp sl = true
  wellFormed : packetOk p s.tp.node = true
  mine : p.dstEpoch = s.tp.epoch
  known : tget s.tp.known p.src = some p.srcEpoch
  flow : tget s.tp.rx p.rxFlow = some r
  inTurn : p.seq = r.expect

/-- A packet with P goes out on the flow (node, vc), or waits there for its window. -/
def State.Sends (s : State) (node vc : Nat) (P : Packet → Prop) : Prop :=
  ∃ f, tget s.tp.tx (flowKey node vc) = some f ∧ ∃ t ∈ f.unacked ++ f.queue, P t.pkt

/-- The packet is refused: its answer is a NAK with a status once no earlier packet of its flow waits (R313, R315). -/
def RefusedIn (p : Packet) (r : RxFlow) (st : Byte) (own : State) : Prop :=
  ∃ x, tget own.tp.rx p.rxFlow = some x ∧ x.expect = r.expect + 1 ∧
    (r.waiting = [] → { seq := p.seq, status := st } ∈ x.refused ∧ x.acked = some p.seq ∧ x.waiting = [])

/-- What an accepted packet changes of the kept part: its payload counts as inbound bytes (R381). -/
def CountedIn (sl : Sleeve) (p : Packet) (s own : State) : Prop :=
  own.lasting = { s.lasting with el := { s.lasting.el with inboundNow :=
    if sl = .a then (s.el.inboundNow.1 + p.len, s.el.inboundNow.2) else (s.el.inboundNow.1, s.el.inboundNow.2 + p.len) } }

/-- A completion has gone to the host for function fn. -/
def State.Replied (s : State) (fn : Nat) (st : CplStatus) (d : Bytes) : Prop := ∃ i t, .tlp fn i t (.cpl st d) ∈ s.out

/-! ## Sleeves -/

/-- A Sleeve that was not DOWN, DISABLED or in FRAY has gone DOWN (R288): its link parameters, replay buffer and queue are
gone, DOWN is counted and is a fault source; QPs, windows, provisioning and boot state stay. -/
structure WentDown (sl : Sleeve) (s own : State) : Prop where
  state : (own.slv sl).state = if (s.slv sl).enable then .down else .disabled
  count : (own.slv sl).downCnt = satInc (s.slv sl).downCnt
  params : (own.slv sl).rate = 0 ∧ (own.slv sl).rxLanes = 0 ∧ (own.slv sl).txLanes = 0 ∧ (own.slv sl).encOn = false
  empty : (own.slv sl).outstanding = 0 ∧ (own.slv sl).bypassQ = []
  source : (slvSource sl + 8, faultPlain) ∈ own.fc.asserted
  rest : own.qps = s.qps ∧ own.win = s.win ∧ own.prov = s.prov ∧ own.boot = s.boot ∧ own.tp.rx = s.tp.rx

/-- The eight transmit lanes of a Sleeve send their training words, each under its lane's number, with RETRAIN and ACK_SEQ,
from the coefficients stored for the rate proposed (R278, R280, R287). -/
def Trains (sl : Sleeve) (retrain : Bool) (own : State) : Prop :=
  ∃ words coefs, .signal sl (.training words coefs) ∈ own.out ∧ words.length = 8 ∧
    (∀ i w, words[i]? = some w → wordLane w = i ∧ bits w.toNat 22 22 = b2n retrain ∧
      bits w.toNat 19 8 = if retrain then (own.slv sl).ackSeq.toNat else 0xFFF) ∧
    coefs = (List.range 8).map fun i => tget own.lin.eq (eqKey (sl.num + 1) (own.slv sl).tryRate.toNat i)

/-- A Sleeve has begun a retrain (R287): counted, its SHED exchanges cancelled, training words with RETRAIN 1 under way. -/
structure Retrains (sl : Sleeve) (s own : State) : Prop where
  state : (own.slv sl).state = .retrain
  count : (own.slv sl).retrainCnt = satInc (s.slv sl).retrainCnt
  shed : (own.slv sl).shedMask = 0 ∧ (own.slv sl).shedAsk = none ∧ (own.slv sl).quietAsked = false ∧
    ∀ m ∈ (own.slv sl).bypassQ, m.headD 0 ≠ 0x03
  words : Trains sl true own
  wear : own.lin.today.retrains = s.lin.today.retrains + 1
  rest : own.qps = s.qps ∧ own.win = s.win ∧ own.prov = s.prov ∧ own.boot = s.boot ∧ own.units = s.units

/-- A bypass message has gone out on a Sleeve, or waits there for its flit. -/
def State.Said (s : State) (sl : Sleeve) (m : Bytes) : Prop := .bypass sl m ∈ s.out ∨ m ∈ (s.slv sl).bypassQ

/-- Only Sleeve sl's own registers may have changed, among what a link command could touch. -/
def LinkOnly (sl : Sleeve) (s own : State) : Prop :=
  own.slv sl.other = s.slv sl.other ∧ own.qps = s.qps ∧ own.units = s.units ∧ own.win = s.win ∧ own.prov = s.prov ∧
    own.boot = s.boot ∧ own.tp = s.tp

/-! ## Transport messages -/

/-- R306: a transport message reaches an UP Sleeve, is for this node and epoch, and its sender's epoch is the one known. -/
structure Heard (sl : Sleeve) (m : TMsg) (s : State) : Prop where
  up : s.slvUp sl = true
  mine : m.dst = s.tp.node
  epoch : m.dstEpoch = s.tp.epoch
  known : tget s.tp.known m.src = some m.srcEpoch

/-! ## The Belt -/

/-- State own is s but for the Belt port, what has gone out, and lines that assert. -/
structure BeltOnly (s own : State) : Prop where
  rest : own = { s with belt := own.belt, out := own.out, fc := { s.fc with asserted := own.fc.asserted } }

/-- The bypass opens where R334 holds and stays as it was where not; JOIN is the first flit of an opening (R334, R335). -/
structure OpensIf (may : Prop) (s own : State) : Prop where
  opens : may → own.belt.bypassOpen = true
  stays : ¬ may → own.belt.bypassOpen = s.belt.bypassOpen ∧ own.belt.txQueue = s.belt.txQueue
  join : s.belt.bypassOpen = false → may →
    own.belt.txQueue = (beltMsg 0x43 0x00 s.belt.position.toNat 0 (node3 s.tp.node ++ serialBytes), []) :: s.belt.txQueue.take 31

/-- What R334 asks for beside the receiver's lock, ENABLE and OVER. -/
def State.BeltReady (s : State) : Prop :=
  (s.dom .blt).state = .run ∧ s.belt.txReady = true ∧ (s.boot.mode = .boot ∨ s.boot.mode = .oper)

/-- The bypass closes, with LEAVE and its reason where one is given: counted, and the queue of own flits is gone (R334,
R335). -/
structure Closes (leave : Option Nat) (s own : State) : Prop where
  closed : own.belt.bypassOpen = false
  counted : s.belt.bypassOpen = true → own.belt.bypassClose = s.belt.bypassClose + 1 ∧ own.belt.txQueue = []
  asBefore : s.belt.bypassOpen = false → own.belt.bypassClose = s.belt.bypassClose ∧ own.belt.txQueue = s.belt.txQueue
  notice : s.belt.bypassOpen = true → ∀ r, leave = some r →
    let leave := beltMsg 0x44 0x00 s.belt.position.toNat 0 (beBytes 1 r ++ serialBytes)
    .belt leave [] ∈ own.out ∧ .beltForward (beltWire leave []) ∈ own.out

/-! ## Fault collector and management -/

/-- A source's log after an assertion: COUNT is one higher, the latest time and record are this one's, and the first time stays
(R440). -/
def State.LoggedFault (s own : State) (src : Nat) (r : FaultRec) : Prop :=
  ∃ l, tget own.fc.logs src = some l ∧ l.last = s.clk.timebase ∧ l.detail = r ∧
    (∀ l0, tget s.fc.logs src = some l0 → l.count = satInc l0.count ∧ l.first = l0.first) ∧
    (tget s.fc.logs src = none → l.count = 1 ∧ l.first = s.clk.timebase)

/-- The node says m on binding b, beside the state u; the first transaction of the two-wire bus fixes its use (R464). -/
def Said (b : Binding) (m : Bytes) (u own : State) : Prop :=
  ∃ k, own = { ({ u with freeIdx := k } : State).mctpSay b m with
    freeIdx := own.freeIdx, lin := { u.lin with bus := if b = .smbus ∨ b = .i3c then some b else u.lin.bus } }

/-- Messages on their bindings, in order, are all that leaves beside the state u (R329, R464). -/
def SaidAll (l : List (Binding × Bytes)) (u own : State) : Prop :=
  ∃ k, let t := l.foldl (fun t x => t.mctpSay x.1 x.2) ({ u with freeIdx := k } : State)
    own.out = t.out ∧ own.belt = t.belt

/-- The endpoint of a binding answers control messages: Lining's, or Buttonhole's (R464, R494). -/
def State.endpointOpen (s : State) (b : Binding) : Bool := if b = .bh then s.vdmOpen else s.bindingOpen b

/-! ## Requests that are refused -/

/-- The rows of the commands of Jalid with their opcodes, classes 0x01 to 0x05. -/
def yasilRowsA (fn : Nat) (r : Request) : List (Instr × OpInfo) :=
  [(.identify fn r, opIdentify), (.yasilRead fn r, opYasilRead), (.groupCreate fn r, opGroupCreate),
   (.groupDestroy fn r, opGroupDestroy), (.tenantCreate fn r, opTenantCreate), (.tenantDestroy fn r, opTenantDestroy),
   (.tenantQuery fn r, opTenantQuery), (.spillGrant fn r, opSpillGrant), (.spillRevoke fn r, opSpillRevoke),
   (.qsetCreate fn r, opQsetCreate), (.qsetModify fn r, opQsetModify), (.qsetDestroy fn r, opQsetDestroy),
   (.qpCreate fn r, opQpCreate), (.qpModifyStart fn r, opQpModify), (.qpModifyStop fn r, opQpModify),
   (.qpModifyRecover fn r, opQpModify), (.qpDestroy fn r, opQpDestroy), (.qpQuery fn r, opQpQuery),
   (.aptOpen fn r, opAptOpen), (.aptClose fn r, opAptClose), (.iwinOpen fn r, opIwinOpen), (.iwinClose fn r, opIwinClose),
   (.winQuery fn r, opWinQuery), (.stitchLoad fn r, opStitchLoad), (.stitchClear fn r, opStitchClear),
   (.stitchSet fn r, opStitchSet)]

/-- Those of the other classes. -/
def yasilRowsB (fn : Nat) (r : Request) : List (Instr × OpInfo) :=
  [(.stitchQuery fn r, opStitchQuery), (.capSet fn r, opCapSet), (.reserveSet fn r, opReserveSet),
   (.allowanceSet fn r, opAllowanceSet), (.borrow fn r, opBorrow), (.energyQuery fn r, opEnergyQuery),
   (.hintSet fn r, opHintSet), (.placeLimits fn r, opPlaceLimits), (.numaMap fn r, opNumaMap),
   (.telemConfig fn r, opTelemConfig), (.counterSelect fn r, opCounterSelect), (.telemSnapshot fn r, opTelemSnapshot),
   (.voteSet fn r, opVoteSet), (.voteQuery fn r, opVoteQuery), (.faultVector fn r, opFaultVector),
   (.faultQuery fn r, opFaultQuery), (.faultClear fn r, opFaultClear), (.logRead fn r, opLogRead),
   (.updateBegin fn r, opUpdateBegin), (.updateWrite fn r, opUpdateWrite), (.updateCommit fn r, opUpdateCommit),
   (.updateCancel fn r, opUpdateCancel), (.updateActivate fn r, opUpdateActivate), (.updateStatus fn r, opUpdateStatus),
   (.nop fn r, opNop), (.abort fn r, opAbort), (.echo fn r, opEcho)]

/-- A Pocket takes a request and refuses it at steps 1 to 5 of R113 with st: the response, and no other effect but CTL's
wake. -/
def TurnedAway (c : Instr) (o : OpInfo) (fn : Nat) (r : Request) (s : State) (st : Nat) : Prop :=
  Completes c s fun own =>
    Beside fn own (s.accessWake .ctl) ∧ (own.fn fn).pocket.state = .responded ∧
      (own.fn fn).pocket.token = BitVec.ofNat 16 r.doorbell.toNat ∧
      (own.fn fn).pocket.rsp = responseBytes o.code r st [] ∧ (own.fn fn).pocket.longs = (s.fn fn).pocket.longs

/-! ## Invariants -/

/-- A FIXED source, and one that the table marks reserved, has its reset reaction (R441, R442). -/
def State.ReactionsKept (s : State) : Prop := ∀ n, srcFixed n = true ∨ srcExists n = false → s.reactOf n = reactReset n

end Sys2Proof.Machine
end

