-- ==== Sys2Proof/Certificates/Slice0/Obligations.lean ====
section
/-! DEFINITION. The statements for the provers, by family of commands. Rules R<n> are the spec's. -/
open Sys2Proof Sys2Proof.Machine

/-! ## Supplies, boot, resets -/

/-- R16, R405, R414, R416, R456, R507, R520: VAON brings AON out of reset in OFF with ADDR_SEL sampled; its loss clears
all but MRAM and fuses; VDD in OFF starts the ROM in STANDBY with BOOT_SEL sampled and every domain in Run; a supply loss
leaves OFF with AON alone powered, cause 0x02, and the registers of AON, a domain's votes and refusal count among them, as
they were. R335, R404, R413, R441: with CK_SREF the PLLs of a device that has VDD lock; without it all but the host PHY's
stop, the bypass closes and source 37 asserts; a PLL that loses lock asserts source 39 while its domain runs; the
crystal's state is recorded and its timeout is source 38. -/
def Obligations.SuppliesAndClocks : Prop :=
  (∀ (s : State),
     (∀ a, s.boot.mode = .noPower → Completes (.vaonValid a) s fun own =>
       own.boot.mode = .off ∧ own.boot.vaon = true ∧ own.boot.addrSel = a ∧ own.boot.perst = true ∧
       own.boot.fuses = s.boot.fuses ∧ own.boot.fieldLock = s.boot.fieldLock ∧ own.boot.next = s.boot.next ∧
       own.boot.resetCause = 0x01 ∧ own.clk = Clocks.init ∧ own.qps = [] ∧ own.fns = [] ∧ own.tp.epoch = s.tp.epoch ∧
       own.lin.log = s.lin.log ∧ own.lin.stressUs = s.lin.stressUs ∧ own.lin.session = Session.none) ∧
     (s.boot.mode ≠ .noPower → Completes .vaonLost s fun own =>
       own.boot.mode = .noPower ∧ own.boot.vaon = false ∧ own.boot.fuses = s.boot.fuses ∧ own.clk = Clocks.init ∧
       own.belt.bypassOpen = false ∧ own.qps = [] ∧ own.fns = [] ∧ own.prov = Prov.init ∧ own.tp.epoch = s.tp.epoch ∧
       own.lin.log = s.lin.log) ∧
     (∀ b, s.boot.mode = .off → s.pwr.doms.length = 11 → Completes (.vddValid b) s fun own =>
       own.boot.mode = .standby ∧ own.boot.stage = .rom ∧ own.boot.vdd = true ∧ own.boot.bootSel = b ∧
       own.boot.reject = 0 ∧ own.boot.fallback = false ∧
       (∀ d, (own.dom d).state = .run ∧ (own.dom d).refuse = (s.dom d).refuse ∧ (own.dom d).pf0Floor = (s.dom d).pf0Floor) ∧
       own.boot.fuses = s.boot.fuses ∧ own.prov = s.prov) ∧
     (s.boot.mode ≠ .noPower → s.boot.mode ≠ .off → s.pwr.doms.length = 11 → Completes .supplyLoss s fun own =>
       own.boot.mode = .off ∧ own.boot.vdd = false ∧ own.boot.resetCause = 0x02 ∧ own.boot.fuses = s.boot.fuses ∧
       own.boot.next = s.boot.next ∧ own.clk.pllLock = 0 ∧
       (∀ d, (own.dom d).state = (if d = .aon then .run else .off) ∧ (own.dom d).refuse = (s.dom d).refuse ∧
         (own.dom d).pf0Floor = (s.dom d).pf0Floor ∧ (own.dom d).pf1Floor = (s.dom d).pf1Floor) ∧
       own.pwr.hist = s.pwr.hist ∧
       own.clk.timebase = s.clk.timebase ∧ own.clk.localCount = s.clk.localCount ∧ own.qps = [] ∧ own.units = [] ∧
       own.prov.tenants = [] ∧ own.lin.log = s.lin.log ∧ own.lin.firmware = false)) ∧
  (∀ (s : State), s.boot.mode ≠ .noPower →
     (Answers .ckSrefPresent s fun t => t.clk.srefOk = true ∧
       t.clk.pllLock = s.clk.pllLock &&& 0x01 ||| (if s.boot.vdd then 0xFE else 0) ∧
       t.clk.timebase = s.clk.timebase ∧ t.prov.groups = s.prov.groups) ∧
     (s.clk.srefOk = true → Completes .ckSrefLoss s fun own => own.clk.srefOk = false ∧
       own.clk.pllLock = s.clk.pllLock &&& 0x01 ∧ own.belt.bypassOpen = false ∧
       own.fc.asserted = s.fc.asserted ++ (if s.boot.vdd then [(37, faultPlain)] else []) ∧ own.qps = s.qps) ∧
     (∀ pll, pll < 8 → bitAt s.clk.pllLock.toNat pll = true → Completes (.pllLockLoss pll) s fun own =>
       own.clk.pllLock = s.clk.pllLock &&& ~~~(BitVec.ofNat 8 (2 ^ pll)) ∧
       own.fc.asserted = s.fc.asserted ++ (if (s.dom (pllDomain pll)).state = .run then [(39, faultAt pll)] else []) ∧
       own.qps = s.qps ∧ own.prov = s.prov) ∧
     (exec .xtalStable s = .next (s.after { s with clk := { s.clk with xtalOk := true } })) ∧
     (exec .xtalTimeout s = .next (s.after { s with clk := { s.clk with xtalOk := false },
                                                    fc := { s.fc with asserted := s.fc.asserted ++ [(38, faultPlain)] } })))

/-- R408, R409, R411, R424: the ROM boots the first slot of its order that passes: NEXT, then the other of A and B, then
recovery; PREVIOUS first after two attempts without commit; recovery first with BOOT_SEL; A, B, recovery where both copies
of the record are bad; slots refused before it are set in REJECT; where none passes no image runs. The Alias key is the
one of the image that boots, and the root of the spill keys is drawn afresh. R405, R406, R410, R416, R436, R437, R471:
Lining comes up in STANDBY or BOOT as PERST_N is; PERST_N deasserted in STANDBY raises the node epoch and leads to BOOT,
or to FACTORY with FTEST_N low in a part whose FIELD_LOCK is not blown; the Jalid load and start lead to operation with
new view generations; the self-test commit clears PENDING and ATTEMPTS and blows the fuses up to the running image's
version; the remaining sections' check is recorded. -/
def Obligations.BootChain : Prop :=
  (∀ (a b c : Found) (s : State), s.boot.stage = .rom → s.clk.srefOk = true →
     let f := foundOf a b c
     let ok := fun x => s.slotBoots x (f x)
     let i := s.boot
     let keys := fun (x : Slot) (t : State) => t.boot.ident =
       { deviceId := some (Config.deviceIdPair Config.deviceSecret),
         aliasKey := some (Config.aliasPair (Config.deviceIdPair Config.deviceSecret)
           (Config.measurement 2 (f x).manifest.build.toNat) (Config.measurement 3 (f x).manifest.build.toNat)
           (f x).manifest.secVer),
         spillRoot := some (Config.spillRootOf Config.deviceSecret (freeBytes 4 s.freeIdx)) }
     (i.bootSel = false → ¬(i.pendingBoot = true ∧ i.attempts = 2) → ok i.next = true →
       Answers (.manifestAccepted a b ⟨c, false⟩) s fun t => t.boot.stage = .lining ∧ t.boot.running = i.next ∧ keys i.next t ∧
         t.boot.next = i.next ∧ t.boot.prev = i.prev ∧ t.boot.pendingBoot = i.pendingBoot ∧
         t.boot.attempts = (if i.pendingBoot then i.attempts + 1 else i.attempts) ∧ t.boot.reject = i.reject ∧
         t.boot.fallback = false ∧ t.boot.fuses = i.fuses ∧
         t.boot.slot i.next = { valid := true, erased := (i.slot i.next).erased, secVer := (f i.next).manifest.secVer,
                                build := (f i.next).manifest.build }) ∧
     (i.bootSel = false → ¬(i.pendingBoot = true ∧ i.attempts = 2) → i.next ≠ .recovery →
       ok i.next = false → ok i.next.twin = true →
       Answers (.manifestAccepted a b ⟨c, false⟩) s fun t => t.boot.stage = .lining ∧ t.boot.running = i.next.twin ∧
         t.boot.next = i.next.twin ∧ t.boot.pendingBoot = false ∧ t.boot.fallback = true ∧
         t.boot.reject = i.reject ||| rejectBit i.next ∧ (t.boot.slot i.next).valid = false) ∧
     (i.bootSel = false → i.pendingBoot = true → i.attempts = 2 → ok i.prev = true →
       Answers (.manifestAccepted a b ⟨c, false⟩) s fun t => t.boot.stage = .lining ∧ t.boot.running = i.prev ∧
         t.boot.next = i.prev ∧ t.boot.pendingBoot = false ∧ t.boot.fallback = true) ∧
     (i.bootSel = true → ok .recovery = true →
       Answers (.manifestAccepted a b ⟨c, false⟩) s fun t => t.boot.stage = .lining ∧ t.boot.running = .recovery ∧
         t.boot.next = i.next) ∧
     (i.bootSel = false → ok .a = true → Answers (.manifestAccepted a b ⟨c, true⟩) s fun t => t.boot.stage = .lining ∧
       t.boot.running = .a ∧ t.boot.recordBad = true ∧ t.boot.next = i.next ∧ t.boot.attempts = i.attempts) ∧
     (∀ bad, ok .a = false → ok .b = false → ok .recovery = false →
       Answers (.manifestAccepted a b ⟨c, bad⟩) s fun t => t.boot.stage = .noImage ∧ t.boot.running = i.running)) ∧
  (∀ (s : State),
     (s.boot.stage = .lining → Completes .liningLoadComplete s fun own =>
       own.lin.firmware = true ∧ own.boot.perst = s.boot.perst ∧
       (s.boot.perst = true → own.boot.stage = .liningDone ∧ own.boot.mode = .standby) ∧
       (s.boot.perst = false → s.boot.mode = .factory → own.boot.stage = .liningDone ∧ own.boot.mode = .factory) ∧
       (s.boot.perst = false → s.boot.mode ≠ .factory → own.boot.stage = .jalidLoad ∧ own.boot.mode = .boot ∧
         ∀ sl, (s.slv sl).enable = true → (s.slv sl).state = .disabled → (own.slv sl).state = .down) ∧
       own.qps = s.qps ∧ own.prov = s.prov ∧ own.boot.fuses = s.boot.fuses) ∧
     (∀ b, s.boot.perst = true → s.boot.mode = .standby → (b = true ∨ s.boot.fieldLock = true) →
       Completes (.perstNDeassert b) s fun own => own.boot.mode = .boot ∧ own.boot.perst = false ∧
         own.boot.stage = (if s.boot.stage = .liningDone then .jalidLoad else s.boot.stage) ∧
         own.tp.epoch = s.tp.epoch + 1 ∧ own.link.pewake = false ∧ own.pwr.wakeSrc = 0x03 ∧ own.prov = s.prov ∧
         (s.boot.stage = .liningDone → ∀ sl, (s.slv sl).enable = true → (s.slv sl).state = .disabled →
           (own.slv sl).state = .down)) ∧
     (s.boot.perst = true → s.boot.mode = .standby → s.boot.fieldLock = false →
       Completes (.perstNDeassert false) s fun own => own.boot.mode = .factory ∧ own.boot.perst = false ∧
         own.boot.ident = { deviceId := none, aliasKey := none, spillRoot := none }) ∧
     (s.boot.stage = .jalidLoad → s.boot.mode = .boot →
       exec .jalidLoadComplete s = .next (s.after { s with boot := { s.boot with stage := .jalidStart } })) ∧
     (s.boot.stage = .jalidStart → s.boot.mode = .boot →
       exec .configurationReady s = .next (s.after { s with
         boot := { s.boot with stage := .ready, mode := .oper, cfgReady := true },
         prov := { s.prov with genAll := s.prov.genAll + 1 } })) ∧
     (s.boot.mode = .oper → s.boot.committed = false → s.boot.sectionsOk = true →
       Answers .selfTestCommit s fun t => t.boot.pendingBoot = false ∧ t.boot.attempts = 0 ∧ t.boot.committed = true ∧
         t.boot.fuses = max s.boot.fuses (min 64 (s.boot.slot s.boot.running).secVer) ∧ t.prov.groups = s.prov.groups ∧
         t.boot.next = s.boot.next) ∧
     (∀ ok, s.boot.mode = .oper → Answers (.remainingSectionsLoad ok) s fun t =>
       t.boot.sectionsOk = ok ∧ t.boot.fuses = s.boot.fuses ∧ t.link = s.link))

/-- R398, R410, R414, R415, R447, R448: every chip reset, whoever asks for it, restarts the device from the ROM with its
cause; BROWN_OUT records itself; PERST_N leaves STANDBY and takes the attempt of a boot without its commit back. MRAM, the
fuses, the timebase and the local count are kept; QPs, tenants, groups and the host link are gone; the node epoch is raised
by a chip reset outside PERST_N. -/
def Obligations.ChipResets : Prop :=
  ∀ (b : Bool) (s : State),
    let fresh := fun (cause : Byte) (own : State) =>
      own.boot.stage = .rom ∧ own.boot.resetCause = cause ∧ own.boot.bootSel = b ∧
      own.boot.mode = (if s.boot.perst then Mode.standby else Mode.boot) ∧
      own.qps = [] ∧ own.units = [] ∧ own.waits = [] ∧ own.prov.tenants = [] ∧ own.prov.groups = [] ∧
      own.link = HostLink.init ∧ own.boot.fuses = s.boot.fuses ∧ own.boot.next = s.boot.next ∧
      own.boot.attempts = s.boot.attempts ∧ own.boot.pendingBoot = s.boot.pendingBoot ∧
      own.clk.timebase = s.clk.timebase ∧ own.clk.localCount = s.clk.localCount ∧
      own.tp.epoch = (if s.boot.perst then s.tp.epoch else s.tp.epoch + 1) ∧ own.lin.firmware = false ∧
      own.lin.days = s.lin.days
    (s.resettable = true → Completes (.chipReset 0x06 b) s (fresh 0x06)) ∧
    (s.resettable = true → s.fc.chipResetDue = true → Completes (.chipReset 0x04 b) s (fresh 0x04)) ∧
    (s.resettable = true → s.fc.chipResetDue = true → Completes (.chipResetWatchdog b) s (fresh 0x04)) ∧
    (s.boot.pendingBoot = true → s.boot.committed = false →
      (s.boot.mode = .oper ∨ (s.boot.mode = .boot ∧ (s.boot.stage = .jalidLoad ∨ s.boot.stage = .jalidStart))) →
      Completes (.bootTimeout b) s (fresh 0x05)) ∧
    (s.resettable = true → s.boot.mode ≠ .safe →
      Completes (.brownOut b) s fun own => fresh 0x07 own ∧ own.pwr.brownout = true ∧ own.pwr.aonLoad = s.pwr.aonLoad) ∧
    (s.boot.mode ≠ .noPower → s.boot.mode ≠ .off → Completes .perstNAssert s fun own =>
      own.boot.mode = .standby ∧ own.boot.perst = true ∧ own.boot.resetCause = 0x03 ∧ own.qps = [] ∧ own.units = [] ∧
      own.prov.tenants = [] ∧ own.prov.groups = [] ∧ own.link = HostLink.init ∧ own.boot.fuses = s.boot.fuses ∧
      own.clk.timebase = s.clk.timebase ∧ own.tp.epoch = s.tp.epoch ∧ own.boot.next = s.boot.next ∧
      own.pwr.wakeSrc = 0x03 ∧
      (s.boot.mode = .oper → s.boot.stage = .ready → s.boot.pendingBoot = true → s.boot.committed = false →
        own.boot.attempts = s.boot.attempts - 1))

/-- R49, R69, R126, R322, R354, R414, R493: a hot reset, or a link-down that none preceded, acts as FLR on every function:
no group, no VF, no spill grant is left, every spill key is new, Buttonhole is at reset, the node epoch is raised, and
GLB_RESET_CAUSE says which it was. R49, R67, R69, R104, R194, R354, R414, R493: FLR of a VF resets its Pocket and
configuration, takes its QPs, makes its spill key new and its READY tenant WIPING; FLR of PF0 ends every group, VF Enable
and the spill grant as well; FLR of PF1 resets Buttonhole; at its end the function is out of FLR, its MSI-X table at
reset. -/
def Obligations.HotResetsAndFlr : Prop :=
  (∀ (s : State), s.boot.mode ≠ .safe → s.link.state ≠ .down →
     let gone := fun (cause : Byte) (own : State) =>
       own.boot.resetCause = cause ∧ own.link.state = .down ∧ own.prov.groups = [] ∧ own.prov.vfEnable = false ∧
       own.prov.numVFs = 0 ∧ own.prov.spill = false ∧ own.prov.keyGenAll = s.prov.keyGenAll + 1 ∧ own.bh.sel = [] ∧ own.bh.traceEn = false ∧
       own.tp.epoch = s.tp.epoch + 1 ∧ own.boot.fuses = s.boot.fuses ∧ own.clk.timebase = s.clk.timebase
     Completes .hotReset s (gone 0x08) ∧ Completes .hostLinkDown s (gone 0x09)) ∧
  (∀ (fn : Nat) (s : State),
     (s.cfgLive fn = true → isVf fn = true → Completes (.flrStart fn) s fun own =>
       (own.fn fn).flr = true ∧ (own.fn fn).pocket = Pocket.fresh fn ∧ (own.fn fn).cfg.bme = false ∧
       (own.fn fn).cfg.mps = (s.fn fn).cfg.mps ∧ (own.fn fn).keyGen = (s.fn fn).keyGen + 1 ∧ (own.fn fn).qsets = [] ∧
       own.prov.groups = s.prov.groups ∧
       ((s.tenant (vfOf fn)).map (·.state) = some .ready → (own.tenant (vfOf fn)).map (·.state) = some .wiping)) ∧
     (s.cfgLive 0 = true → Completes (.flrStart 0) s fun own =>
       (own.fn 0).flr = true ∧ own.prov.groups = [] ∧ own.prov.vfEnable = false ∧ own.prov.numVFs = 0 ∧
       own.prov.spill = false ∧ own.prov.ide = [] ∧ own.prov.bar2Log = 8 ∧ own.link = s.link ∧
       own.boot.fuses = s.boot.fuses ∧ own.lin.session.isOpen = false) ∧
     (s.cfgLive 1 = true → Completes (.flrStart 1) s fun own =>
       (own.fn 1).flr = true ∧ (own.fn 1).pocket = Pocket.fresh 1 ∧ own.bh = Bh.init ∧ own.prov.groups = s.prov.groups) ∧
     ((s.fn fn).flr = true → Answers (.flrComplete fn) s fun t =>
       (t.fn fn).flr = false ∧ (t.fn fn).msix = [] ∧ (∀ k, k ≠ fn → (t.fn k).rest = (s.fn k).rest) ∧
       (∀ x, isVf fn = true → s.tenant (vfOf fn) = some x → x.destroying = false → x.state = .wiping →
         (t.tenant (vfOf fn)).map (·.state) = some .ready)))

/-- R34, R35, R39, R40, R41, R44, R54, R55, R390, R441: a trained link is in L0 at its width and rate, with its lane order
and polarities; its training sequences advertise every rate, but 128.0 GT/s while the margin plan withholds it, flit mode and
Upconfigure Capability; an equalization starts from the stored coefficients of its rate and stores the final ones; one
narrower than x16 through lane failure asserts source 338, and DEG_CAUSE stays until a training at x16; L0p changes the width
alone; LTR says 20 us once there is work and 3 ms once there has been none, while LTR is enabled; the L1 substates and their
exits, CLKREQ_N and the wake pins set the link's state, PWR_WAKE_SRC and the wakes. -/
def Obligations.HostLinkEvents : Prop :=
  ∀ (s : State),
    (∀ lanes rate flit train, (s.boot.mode = .oper ∨ s.boot.mode = .safe ∨ (s.boot.mode = .boot ∧ s.boot.stage ≠ .noImage)) →
      hostWidth lanes = true → 1 ≤ rate → rate ≤ 7 → (rate = 7 → s.boot.no128 = true → s.lin.clearHost = true) →
      (6 ≤ rate → flit = true) →
      Completes (.hostLinkTrained lanes rate flit train) s fun own =>
        own.link = { s.link with state := .l0, lanes := lanes, trained := lanes, rate := rate, flit := flit, ltr := none,
                                 clkreq := true, reversed := train.reversed, inverted := train.inverted,
                                 tx := own.link.tx, equalized := (train.eqs.filter fun e => 3 ≤ e.rate).map (·.rate) } ∧
        .hostTraining (if s.boot.no128 && !s.lin.clearHost then [1, 2, 3, 4, 5, 6] else [1, 2, 3, 4, 5, 6, 7]) true true ∈
          own.out ∧
        (∀ e, train.eqs = [e] → 3 ≤ e.rate →
          .eqStart e.rate (s.lin.startCoefs 0 e.rate 16) ∈ own.out ∧ own.lin.eq = (s.lin.storeFinals 0 e.rate e.found).eq) ∧
        own.boot.degHost = (decide (lanes < 16) && (train.laneFailure || s.boot.degHost)) ∧
        own.clk.pllLock = s.clk.pllLock ||| 0x01 ∧
        own.fc.asserted = s.fc.asserted ++ (if lanes < 16 ∧ train.laneFailure = true then [(338, faultPlain)] else []) ∧
        own.qps = s.qps ∧ own.prov = s.prov) ∧
    (∀ lanes, s.link.state = .l0 → s.link.flit = true → hostWidth lanes = true → lanes ≠ 1 → lanes ≤ s.link.trained →
      exec (.l0pWidthChange lanes) s = .next (s.after { s with link := { s.link with lanes := lanes },
                                                               el := { s.el with hostW := lanes } })) ∧
    (s.link.state ≠ .down → s.anyQueueWork = true → s.link.ltr ≠ some 20 → bitAt (s.cfgRaw 0 30).toNat 10 = true → Completes .ltrMessage s fun own =>
      own.link = { s.link with ltr := some 20 } ∧ .hostMsg 0 (.ltr 20) ∈ own.out ∧ own.plc.retained = false ∧
      own.qps = s.qps) ∧
    (s.link.state ≠ .down → s.anyQueueWork = false → s.link.ltr ≠ some 3000 → s.largeConfig = false →
      bitAt (s.cfgRaw 0 30).toNat 10 = true → Completes .ltr3ms s fun own => own.link = { s.link with ltr := some 3000 } ∧ .hostMsg 0 (.ltr 3000) ∈ own.out ∧
        own.qps = s.qps ∧ own.plc = s.plc) ∧
    ((s.link.state = .l11 ∨ s.link.state = .l12) → Completes .clkreqNAssert s fun own =>
      own.link = { s.link with clkreq := true } ∧ own.pwr.wakeSrc = 0x02 ∧ own.qps = s.qps) ∧
    ((s.link.state = .l10 ∨ s.link.state = .l11) → Completes .l1Exit s fun own =>
      own.link = { s.link with state := .l0, clkreq := true } ∧ own.pwr.wakeSrc = 0x01 ∧ own.qps = s.qps) ∧
    (s.link.state = .l12 → Completes .l1Exit s fun own =>
      own.link = { s.link with state := .l0, clkreq := true } ∧ own.pwr.wakeSrc = 0x01) ∧
    (∀ sub, s.link.state ≠ .down → s.link.state ≠ .l2 → Answers (.l1Entry sub) s fun t =>
      t.link.state = (match sub with | .l10 => .l10 | .l11 => .l11 | .l12 => .l12 | .l2 => .l2) ∧
      t.link.clkreq = (match sub with | .l10 => true | .l11 => false | .l12 => false | .l2 => true) ∧
      t.link.rate = s.link.rate) ∧
    (s.boot.mode = .off → bitAt s.pwr.pmeEn.toNat 2 = true → Answers .lwakeN s fun t =>
      t.pwr.wakeSrc = 0x07 ∧ t.link.pewake = true) ∧
    (s.boot.mode ≠ .off → s.boot.mode ≠ .noPower → s.pwr.doms.length = 11 → Answers .lwakeN s fun t =>
      t.pwr.wakeSrc = 0x07 ∧ ∀ d, d ≠ .aon → (s.dom d).entering = none → (s.dom d).state ≠ .run → (s.dom d).state ≠ .off →
        (t.dom d).waking = true) ∧
    (s.boot.mode ≠ .off → s.boot.mode ≠ .noPower → s.pwr.doms.length = 11 → Answers .smbusAddressMatch s fun t =>
      t.pwr.wakeSrc = 0x08 ∧ ((s.dom .lin).state = .sleep → (s.dom .lin).entering = none → (t.dom .lin).waking = true))

/-! ## Jalid: groups, tenants, the spill grant -/

/-- R63, R64, R122, R126, R127: GROUP_CREATE adds the group with its floor; GROUP_DESTROY of a group without tenants
removes it, returns its shares and makes pleat entries and stream bindings that name it void; SPILL_GRANT records the
region; SPILL_REVOKE is accepted while a grant is in force and no other is outstanding. Each leaves all else unchanged
(Beside). R65 to R69, R119, R123 to R125: TENANT_CREATE on a free VF is accepted; at its end, where the pools hold the
allocation, the tenant exists and is READY; TENANT_DESTROY of a READY tenant is accepted and wipes it; at the end the VF
has no tenant; TENANT_QUERY answers the allocation entry and the window list and changes nothing. The revocation ends
where PF0 may read the spilled contexts, and waits while it may not (R103). -/
def Obligations.JalidPools : Prop :=
  (∀ (fn : Nat) (r : Request) (s : State),
     let g := leAt 0 1 r.data
     (Taken opGroupCreate fn r s → g ≠ 0 → tget s.prov.groups g = none → leAt 2 2 r.data ≤ 128 →
       leAt 2 2 r.data ≤ s.freeStg →
       Done (.groupCreate fn r) opGroupCreate fn r s []
         { s with prov := { s.prov with groups := tput s.prov.groups g (leAt 2 2 r.data) } }) ∧
     (Taken opGroupDestroy fn r s → g ≠ 0 → (tget s.prov.groups g).isSome = true → s.groupBusy g = false →
       Done (.groupDestroy fn r) opGroupDestroy fn r s []
         { s with
           prov := { s.prov with
             groups := tdel s.prov.groups g,
             ide := tmap s.prov.ide fun _ b => if b.group.toNat = g then { b with void := true } else b },
           plt := { s.plt with host := s.plt.host.voidGroup g, sla := s.plt.sla.voidGroup g,
                               slb := s.plt.slb.voidGroup g },
           plc := { s.plc with shareHost := tdel s.plc.shareHost g, shareSla := tdel s.plc.shareSla g,
                               shareSlb := tdel s.plc.shareSlb g } }) ∧
     (Taken opSpillGrant fn r s → leAt 0 8 r.data % 2 ^ 21 = 0 → leAt 8 8 r.data % 2 ^ 21 = 0 →
       2 ^ 21 ≤ leAt 8 8 r.data → leAt 8 8 r.data ≤ 2 ^ 36 → s.prov.spill = false →
       Done (.spillGrant fn r) opSpillGrant fn r s []
         { s with prov := { s.prov with spill := true, spillBase := BitVec.ofNat 64 (leAt 0 8 r.data),
                                        spillSize := BitVec.ofNat 64 (leAt 8 8 r.data) } }) ∧
     (Taken opSpillRevoke fn r s → s.longAny .spillRevoke = false → s.prov.spill = true → s.qps.length ≤ 32768 →
       Accepted (.spillRevoke fn r) opSpillRevoke fn r s .spillRevoke 0 s)) ∧
  (∀ (fn : Nat) (r : Request) (s : State),
     let vf := leAt 0 2 r.data
     (Taken opTenantCreate fn r s → s.createOk r.data = true → s.tenant vf = none → s.longOn .tenantCreate vf = false →
       Accepted (.tenantCreate fn r) opTenantCreate fn r s .tenantCreate vf s) ∧
     (∀ (token : W16) (c : LongCmd),
       (s.fn 0).pocket.longs.find? (fun x => x.token == token && x.kind == .tenantCreate) = some c →
       s.poolsHold c.payload = true →
       Answers (.tenantCreateComplete token) s fun t => ∃ x, t.tenant (leAt 0 2 c.payload) = some x ∧ x.state = .ready ∧
         x.group = leAt 3 1 c.payload ∧ x.qps = leAt 4 2 c.payload ∧ x.vectors = leAt 6 2 c.payload ∧
         x.ats = leAt 10 2 c.payload ∧ x.ctx = leAt 12 2 c.payload ∧ x.qsets = leAt 14 2 c.payload ∧
         (∀ k ≠ leAt 0 2 c.payload, (t.tenant k).map (·.state) = (s.tenant k).map (·.state)) ∧
         t.prov.groups = s.prov.groups ∧ t.link = s.link) ∧
     (Taken opTenantDestroy fn r s → 1 ≤ vf → vf ≤ 1024 → s.longOn .tenantDestroy vf = false →
       s.longOn .tenantCreate vf = false → (s.tenant vf).map (fun x => (x.state, x.destroying)) = some (.ready, false) →
       Completes (.tenantDestroy fn r) s fun own => (own.fn fn).pocket.state = .responded ∧
         (own.fn fn).pocket.rsp = responseBytes 0x0204 r stAccepted [] ∧
         (own.tenant vf).map (fun x => (x.state, x.destroying)) = some (.wiping, true)) ∧
     (∀ (k : Nat) (x : Tenant), s.tenant k = some x →
       x.destroying = true → x.state = .wiping →
       (s.fn (fnOfVf k)).flr = false → Answers (.tenantDestroyComplete k) s fun t => t.tenant k = none ∧
         (t.fn (fnOfVf k)).allowance = 0 ∧ (∀ j ≠ k, (t.tenant j).map (·.state) = (s.tenant j).map (·.state)) ∧
         t.prov.groups = s.prov.groups) ∧
     (Taken opTenantQuery fn r s → 1 ≤ vf → vf ≤ 1024 →
       Done (.tenantQuery fn r) opTenantQuery fn r s
         (s.allocEntry vf ++ leBytes 2 ((s.windowList vf).length / 4) ++ zeros 2 ++ s.windowList vf) s) ∧
     (s.longAny .spillRevoke = true → s.prov.spill = true → (s.spillOpen = true ∨ ∀ x ∈ s.qps, x.2.record = none) →
       Answers .spillRevokeComplete s fun t => t.prov.spill = false ∧ t.prov.groups = s.prov.groups) ∧
     (s.longAny .spillRevoke = true → s.prov.spill = true → s.spillOpen = false → (∃ x ∈ s.qps, x.2.record ≠ none) →
       exec .spillRevokeComplete s = .next (s.after s)))

/-! ## Jalid: queue sets and QPs -/

/-- R128, R129: QSET_CREATE adds the queue set that the request describes; QSET_MODIFY replaces its fields and lets the
function's QPs go on; QSET_DESTROY of a set without QPs announces what is due and removes it. R72, R130, R187: QP_CREATE
takes a free number, which the response names; the new QP is the caller's at the index asked for, STOPPED, with its
counters 0, and the queues the request gives. R131, R132, R133, R187: on the QP that TARGET and QP_INDEX name, START of a
STOPPED one makes it ACTIVE, or held while its function may issue no request; STOP of an ACTIVE or held one makes it
STOPPED; RECOVER of an ERROR one of the caller resets its counters; QP_DESTROY makes it DRAINING and the end of the drain
removes it; QP_QUERY answers without effect. R119, R132: when nothing of a draining QP is staged or unacknowledged, the
end of its QP_DESTROY removes it and no other. -/
def Obligations.JalidQueues : Prop :=
  (∀ (fn : Nat) (r : Request) (s : State),
     let q := leAt 0 1 r.data
     (Taken opQsetCreate fn r s → s.qsetOk fn r.data = true → tget (s.fn fn).qsets q = none →
       Done (.qsetCreate fn r) opQsetCreate fn r s []
         (s.modFn fn fun f => { f with qsets := tput f.qsets q (QSet.blank.load s.clk.localCount r.data) })) ∧
     (∀ x, Taken opQsetModify fn r s → s.qsetOk fn r.data = true → tget (s.fn fn).qsets q = some x →
       DoneBy (.qsetModify fn r) opQsetModify fn r s (fun _ => [])
         fun t => (t.modFn fn fun f => { f with qsets := tput f.qsets q (x.load t.clk.localCount r.data) }).kickFn fn) ∧
     (∀ x, Taken opQsetDestroy fn r s → q < s.qsetLimit fn → tget (s.fn fn).qsets q = some x →
       (∀ p ∈ s.qps, ¬(p.2.fn = fn ∧ p.2.qset = q)) →
       DoneBy (.qsetDestroy fn r) opQsetDestroy fn r s (fun _ => [])
         fun t => (if x.unannounced ≠ 0 then t.announceDue fn q else t).modFn fn fun f =>
           { f with qsets := tdel f.qsets q })) ∧
  (∀ (fn : Nat) (r : Request) (s : State),
     Taken opQpCreate fn r s → s.qpCreateOk fn r.data = true → s.qpFits fn = true →
       ∃ q, s.qp q = none ∧ Completes (.qpCreate fn r) s fun own =>
         (own.fn fn).pocket.rsp = responseBytes 0x0304 r stDone (leBytes 2 q ++ [0] ++ zeros 5) ∧
         ∃ p, own.qp q = some p ∧ p.fn = fn ∧ p.idx = leAt 0 2 r.data ∧ p.state = .stopped ∧ p.prod = 0 ∧ p.cons = 0 ∧
           p.cqProd = 0 ∧ p.cqCons = 0 ∧ p.residence = .onDie ∧ p.sqBase = BitVec.ofNat 64 (leAt 8 8 r.data) ∧
           p.cqBase = BitVec.ofNat 64 (leAt 16 8 r.data) ∧ p.sqLog2 = leAt 0x18 1 r.data ∧ p.cqLog2 = leAt 0x19 1 r.data) ∧
  (∀ (fn owner q : Nat) (p : Qp) (r : Request) (s : State),
     let stateOf := fun (u : State) => leBytes 1 (((u.qp q).map fun x => qpCode x.state).getD 0) ++ zeros 7
     s.target fn (leAt 0 2 r.data) = .ok owner → s.qpAt owner (leAt 2 2 r.data) = some (q, p) →
     (Taken opQpModify fn r s → leAt 4 1 r.data = 1 → p.state = .stopped → p.held = false →
       (p.mgrStop = false ∨ owner ≠ fn) →
       let f := fun t : State => ((t.modQp q fun p =>
         if t.busBlocked p.fn then { p with held := true, mgrStop := false }
         else { p with state := .active, mgrStop := false }).startUnits q).mgrEvent q (decide (owner ≠ fn))
       DoneBy (.qpModifyStart fn r) opQpModify fn r s (fun t => stateOf (f t)) f) ∧
     (Taken opQpModify fn r s → leAt 4 1 r.data = 2 → (p.state = .active ∨ (p.state = .stopped ∧ p.held = true)) →
       let f := fun t : State => (t.modQp q fun p =>
         { p with state := .stopped, held := false, mgrStop := p.mgrStop || decide (owner ≠ fn) }).mgrEvent q
           (decide (owner ≠ fn))
       DoneBy (.qpModifyStop fn r) opQpModify fn r s (fun t => stateOf (f t)) f) ∧
     (Taken opQpModify fn r s → leAt 4 1 r.data = 3 → p.state = .error → owner = fn →
       DoneBy (.qpModifyRecover fn r) opQpModify fn r s (fun t => stateOf (t.recoverQp q)) fun t => t.recoverQp q) ∧
     (Taken opQpDestroy fn r s → leAt 0 2 r.data = 0 → p.state ≠ .draining →
       AcceptedBy (.qpDestroy fn r) opQpDestroy fn r s .qpDestroy q fun t => t.qpDrain q) ∧
     (Taken opQpQuery fn r s →
       Done (.qpQuery fn r) opQpQuery fn r s (s.qpAnswer q p) s)) ∧
  (∀ (q : Nat) (p : Qp) (s : State), s.qp q = some p → p.state = .draining →
     s.qpDrained q = true → Completes (.qpDestroyComplete q) s fun own =>
       own.qp q = none ∧ own.kept = s.kept)

/-! ## Jalid: apertures and inbound windows -/

/-- R134, R136, R137, R206: APT_OPEN opens a closed aperture as the request says; APT_CLOSE of an open one is accepted and
makes it CLOSING; its end, when none of its writes is open, closes it; WIN_QUERY answers without effect. R135, R136, R212,
R219: IWIN_OPEN opens a closed window as the request says; IWIN_CLOSE of an open one is accepted, makes it CLOSING and
discards its prefetched bytes; its end, when none of its slots is held, closes it. -/
def Obligations.JalidWindows : Prop :=
  (∀ (fn n : Nat) (r : Request) (s : State),
     (Taken opAptOpen fn r s → leAt 0 2 r.data = n → s.aptOpenOk fn r.data = true → s.longOn .aptClose n = false →
       s.aptState n = .closed →
       Done (.aptOpen fn r) opAptOpen fn r s [] { s with win := { s.win with apts := tput s.win.apts n (aptOf fn r.data) } }) ∧
     (Taken opAptClose fn r s → leAt 0 2 r.data = n → s.aptNamed fn n = true → s.longOn .aptClose n = false →
       s.aptState n = .opened →
       Accepted (.aptClose fn r) opAptClose fn r s .aptClose n
         { s with win := { s.win with apts := tmod s.win.apts n Apt.closing } }) ∧
     (∀ x, tget s.win.apts n = some x → x.state = .closing → s.aptCovered n s.nextUnit = false →
       Completes (.aptCloseComplete n) s fun own => own.aptState n = .closed ∧ own.kept = s.kept ∧
         own.win.iwins = s.win.iwins ∧ ∀ k ≠ n, tget own.win.apts k = tget s.win.apts k) ∧
     (Taken opWinQuery fn r s → leAt 2 2 r.data = n →
       ((leAt 0 1 r.data = 0 ∧ (if fn = 0 then n < 256 else s.aptNamed fn n = true)) ∨
         (leAt 0 1 r.data = 1 ∧ (if fn = 0 then n < 1024 else s.iwinNamed fn n = true))) →
       Done (.winQuery fn r) opWinQuery fn r s (s.winAnswer (leAt 0 1 r.data) n) s)) ∧
  (∀ (fn n : Nat) (r : Request) (s : State),
     (Taken opIwinOpen fn r s → leAt 0 2 r.data = n → s.iwinOpenOk fn r.data = true → s.longOn .iwinClose n = false →
       s.iwinState n = .closed →
       Done (.iwinOpen fn r) opIwinOpen fn r s []
         { s with win := { s.win with iwins := tput s.win.iwins n (iwinOf fn r.data) } }) ∧
     (Taken opIwinClose fn r s → leAt 0 2 r.data = n → s.iwinNamed fn n = true → s.longOn .iwinClose n = false →
       s.iwinState n = .opened →
       AcceptedBy (.iwinClose fn r) opIwinClose fn r s .iwinClose n fun t =>
         ({ t with win := { t.win with iwins := tmod t.win.iwins n fun x =>
             { x with state := .closing, drainDiscards := 0 } } }).dropPrefetch fun p => p.win == n) ∧
     (∀ x, tget s.win.iwins n = some x → x.state = .closing →
       (∀ d ∈ s.win.slots, d.2.win ≠ n) →
       Completes (.iwinCloseComplete n) s fun own => own.iwinState n = .closed ∧ own.kept = s.kept ∧
         own.win.apts = s.win.apts ∧ ∀ k ≠ n, tget own.win.iwins k = tget s.win.iwins k))

/-! ## Jalid: the Stitch map and telemetry -/

/-- R138, R139, R140, R148, R224, R226, R229: STITCH_LOAD and STITCH_CLEAR put the new map in force where every entry
keeps the rules; STITCH_SET applies a control value to its KIND 0x04 entry; STITCH_QUERY answers; TELEM_CONFIG sets the
caller's mask and interval. R141 to R145, R375, R376, R379: CAP_SET stores PF0's cap and window; RESERVE_SET the reserve,
in force at once for creation, and BORROW_MAX; ALLOWANCE_SET the allowance a function has from the next window on; BORROW
grants the least of the amount asked for, the caller's unused share and the reserve left, and takes it from the reserve;
ENERGY_QUERY of PF0 for the device, for a tenant, and of a VF for itself answers without effect. -/
def Obligations.JalidStitchAndEnergy : Prop :=
  (∀ (fn : Nat) (r : Request) (s : State),
     let n := leAt 0 2 r.data
     (Taken opStitchLoad fn r s → entriesClean (leAt 2 2 r.data) (r.data.drop 8) = true →
       mapOk (loadEntries (leAt 2 2 r.data) n (r.data.drop 8) s.sti.map) s.tp.node = true →
       Done (.stitchLoad fn r) opStitchLoad fn r s []
         { s with sti := { s.sti with map := rebuild (loadEntries (leAt 2 2 r.data) n (r.data.drop 8) s.sti.map) } }) ∧
     (∀ m, Taken opStitchClear fn r s → 1 ≤ leAt 2 2 r.data → n + leAt 2 2 r.data ≤ 4096 →
       m = tkeep s.sti.map (fun k _ => decide (k < n) || decide (n + leAt 2 2 r.data ≤ k)) → mapOk m s.tp.node = true →
       Done (.stitchClear fn r) opStitchClear fn r s [] { s with sti := { s.sti with map := rebuild m } }) ∧
     (∀ e, Taken opStitchSet fn r s → n < 4096 → tget s.sti.map n = some e → e.kind = 4 →
       Done (.stitchSet fn r) opStitchSet fn r s [] (s.stitchApply n e (e.raw (leAt 8 8 r.data)))) ∧
     (Taken opStitchQuery fn r s → n < 4096 → tget s.sti.map n = none →
       Done (.stitchQuery fn r) opStitchQuery fn r s (zeros 56) s) ∧
     (∀ e, Taken opStitchQuery fn r s → n < 4096 → tget s.sti.map n = some e →
       Done (.stitchQuery fn r) opStitchQuery fn r s
         (e.bytes ++ leBytes 8 e.lastIn.toNat ++ leBytes 8 e.lastOut.toNat ++ leBytes 4 e.updates.toNat ++ zeros 4) s) ∧
     (Taken opTelemConfig fn r s → leAt 0 4 r.data < 16 → 100 ≤ leAt 4 4 r.data → leAt 4 4 r.data ≤ 1000000 →
       leAt 4 4 r.data % 100 = 0 →
       Done (.telemConfig fn r) opTelemConfig fn r s [] (s.modFn fn fun f =>
         { f with telemMask := BitVec.ofNat 32 (leAt 0 4 r.data), telemInterval := BitVec.ofNat 32 (leAt 4 4 r.data),
                  telem := tkeep f.telem fun k _ =>
                    if k < 16 then bitAt (leAt 0 4 r.data) k else bitAt (leAt 0 4 r.data) 3 }))) ∧
  (∀ (fn : Nat) (r : Request) (s : State),
     (Taken opCapSet fn r s → (leAt 0 4 r.data = 0 ∨ (12000 ≤ leAt 0 4 r.data ∧ leAt 0 4 r.data ≤ 44000)) →
       10 ≤ leAt 4 4 r.data → leAt 4 4 r.data ≤ 10000 →
       Done (.capSet fn r) opCapSet fn r s []
         { s with el := { s.el with pfCap := leAt 0 4 r.data, pfWindow := leAt 4 4 r.data } }) ∧
     (Taken opReserveSet fn r s → tsorted s.fns = true → leAt 0 8 r.data + s.allowances none ≤ s.budget →
       Completes (.reserveSet fn r) s fun own =>
         (own.fn fn).pocket.rsp = responseBytes 0x0602 r stDone [] ∧
         own.el = { s.el with reserve := BitVec.ofNat 64 (leAt 0 8 r.data), reserveForce := BitVec.ofNat 64 (leAt 0 8 r.data),
                              borrowMax := BitVec.ofNat 64 (leAt 8 8 r.data), epochCharge := own.el.epochCharge } ∧
         own.prov = s.prov ∧ own.qps = s.qps ∧ own.win = s.win) ∧
     (∀ x, Taken opAllowanceSet fn r s → tsorted s.fns = true →
       (if leAt 0 2 r.data = 0 then x = 0 else
         s.tenantTarget (leAt 0 2 r.data) = .ok x) →
       leAt 8 8 r.data + s.allowances (some x) + s.el.reserve.toNat ≤ s.budget →
       Completes (.allowanceSet fn r) s fun own =>
         (own.fn fn).pocket.rsp = responseBytes 0x0603 r stDone [] ∧ (own.fn x).allowSet = BitVec.ofNat 64 (leAt 8 8 r.data) ∧
         (own.fn x).allowance = (s.fn x).allowance ∧
         (own.fn x).generation =
           (if x = 0 ∨ (s.fn x).allowSet.toNat = leAt 8 8 r.data then (s.fn x).generation else (s.fn x).generation + 1) ∧
         ∀ k ≠ x, (own.fn k).allowSet = (s.fn k).allowSet) ∧
     (∀ g, Taken opBorrow fn r s → g = s.borrowGrant fn (leAt 0 8 r.data) → 0 < g →
       Done (.borrow fn r) opBorrow fn r s (leBytes 8 g)
         { s.modFn fn (fun f => { f with borrowed := f.borrowed + BitVec.ofNat 64 g }) with
           el := { s.el with reserveLeft := s.el.reserveLeft - BitVec.ofNat 64 g } }) ∧
     (Taken opBorrow fn r s → s.borrowGrant fn (leAt 0 8 r.data) = 0 →
       RefusedWith (.borrow fn r) opBorrow fn r s stAllowanceExhausted (leBytes 8 0)) ∧
     (Taken opEnergyQuery fn r s → leAt 0 2 r.data = 0 → fn < 2 →
       DoneBy (.energyQuery fn r) opEnergyQuery fn r s State.deviceAccounts id) ∧
     (∀ x, Taken opEnergyQuery fn r s → fn = 0 → leAt 0 2 r.data ≠ 0 → s.tenantQueried (leAt 0 2 r.data) = .ok x →
       DoneBy (.energyQuery fn r) opEnergyQuery fn r s (fun t => t.functionAccounts x) id) ∧
     (Taken opEnergyQuery fn r s → isVf fn = true → leAt 0 2 r.data = 0 →
       DoneBy (.energyQuery fn r) opEnergyQuery fn r s (fun t => t.functionAccounts fn) id))

/-! ## Jalid: placement, Buttonhole's counters, votes, faults and the log -/

/-- R146, R147, R149, R346, R491, R492: HINT_SET stores the hints of a QP or of a queue set; PLACE_LIMITS the three
limits; NUMA_MAP a node's tag, or none for 0xFFFF; COUNTER_SELECT selects a counter and zeroes it; TELEM_SNAPSHOT freezes
every counter at the time it answers. R150 to R154, R440, R460, R463: VOTE_SET records the caller's floors (PF1's for HST
and BH only) and wakes what lies below them; VOTE_QUERY, FAULT_VECTOR, FAULT_QUERY and LOG_READ answer without effect;
FAULT_CLEAR clears the status bits and logs of its sources and no others. -/
def Obligations.JalidMonitoring : Prop :=
  (∀ (fn : Nat) (r : Request) (s : State),
     let i := leAt 2 2 r.data
     (∀ q p, Taken opHintSet fn r s → leAt 0 1 r.data = 0 → hintsOk r.data = true → s.qpAt fn i = some (q, p) →
       s.longOn .qpDestroy q = false →
       Done (.hintSet fn r) opHintSet fn r s [] ((s.modQp q fun p =>
         { p with hintRes := BitVec.ofNat 8 (leAt 4 1 r.data), hintSlv := BitVec.ofNat 8 (leAt 5 1 r.data),
                  hintLat := BitVec.ofNat 8 (leAt 6 1 r.data), hintNuma := BitVec.ofNat 16 (leAt 8 2 r.data) }).resteerIdle q)) ∧
     (∀ x, Taken opHintSet fn r s → leAt 0 1 r.data = 1 → hintsOk r.data = true → tget (s.fn fn).qsets i = some x →
       Completes (.hintSet fn r) s fun own => (own.fn fn).pocket.rsp = responseBytes 0x0701 r stDone [] ∧
         tget (own.fn fn).qsets i = some { x with
           hintRes := BitVec.ofNat 8 (leAt 4 1 r.data), hintSlv := BitVec.ofNat 8 (leAt 5 1 r.data),
           hintLat := BitVec.ofNat 8 (leAt 6 1 r.data), hintNuma := BitVec.ofNat 16 (leAt 8 2 r.data) }) ∧
     (Taken opPlaceLimits fn r s → leAt 0 2 r.data ≤ 256 → leAt 2 2 r.data ≠ 0 → 1 ≤ leAt 4 1 r.data →
       leAt 4 1 r.data ≤ 3 →
       Done (.placeLimits fn r) opPlaceLimits fn r s [] { s with plc := { s.plc with
         maxMig := BitVec.ofNat 9 (leAt 0 2 r.data), engineMask := BitVec.ofNat 16 (leAt 2 2 r.data),
         sleeveMask := BitVec.ofNat 2 (leAt 4 1 r.data) } }) ∧
     (Taken opNumaMap fn r s → leAt 0 2 r.data ≤ 1023 →
       Answers (.numaMap fn r) s fun t => t.plc.numa =
         (if leAt 2 2 r.data = 0xFFFF then tdel s.plc.numa (leAt 0 2 r.data)
          else tput s.plc.numa (leAt 0 2 r.data) (BitVec.ofNat 16 (leAt 2 2 r.data))) ∧
         (t.fn fn).pocket.rsp = responseBytes 0x0703 r stDone []) ∧
     (Taken opCounterSelect fn r s → leAt 0 2 r.data ≤ 4095 →
       selectOk i (leAt 4 1 r.data) (leAt 6 2 r.data) = true →
       Completes (.counterSelect fn r) s fun own => (own.fn fn).pocket.rsp = responseBytes 0x0802 r stDone [] ∧
         tget own.bh.sel (leAt 0 2 r.data) = some { event := BitVec.ofNat 16 i, kind := BitVec.ofNat 2 (leAt 4 1 r.data),
                                                    filter := BitVec.ofNat 11 (leAt 6 2 r.data) } ∧
         tgetD own.bh.count (leAt 0 2 r.data) 0 = 0 ∧
         ∀ k ≠ leAt 0 2 r.data, tget own.bh.sel k = tget s.bh.sel k ∧ tget own.bh.count k = tget s.bh.count k) ∧
     (Taken opTelemSnapshot fn r s →
       Done (.telemSnapshot fn r) opTelemSnapshot fn r s (leBytes 8 s.clk.timebase.toNat)
         { s with bh := { s.bh with snap := s.bh.count, snapTime := s.clk.timebase } })) ∧
  (∀ (fn : Nat) (r : Request) (s : State),
     let first := leAt 0 2 r.data
     let count := leAt 2 2 r.data
     (Taken opVoteSet fn r s → voteOk fn r.data = true →
       Done (.voteSet fn r) opVoteSet fn r s []
         ((if fn = 0 then allDomains else [Domain.hst, Domain.bh]).foldl (fun t d =>
           (t.modDom d fun m => if fn = 0 then { m with pf0Floor := voteOf r.data d.num }
                                else { m with pf1Floor := voteOf r.data d.num }).floorWake d (voteOf r.data d.num)) s)) ∧
     (Taken opVoteQuery fn r s →
       Done (.voteQuery fn r) opVoteQuery fn r s
         ((s.pwr.doms.map fun x => BitVec.ofNat 8 (pwrCode x.state)) ++ zeros 5 ++
           (s.pwr.doms.map fun x => leBytes 4 x.refuse.toNat).flatten ++ leBytes 1 s.pwr.lastClient.toNat ++ zeros 3) s) ∧
     (Taken opFaultVector fn r s →
       Done (.faultVector fn r) opFaultVector fn r s
         (leBytes 144 (maskOf ((List.range 1152).map fun n => tgetD s.fc.sticky n false))) s) ∧
     (Taken opFaultQuery fn r s → first ≤ 1151 →
       Done (.faultQuery fn r) opFaultQuery fn r s
         (leBytes 2 first ++ leBytes 1 (b2n (tgetD s.fc.sticky first false)) ++ [s.reactOf first] ++
           faultLogBytes (tget s.fc.logs first)) s) ∧
     (Taken opFaultClear fn r s → 1 ≤ count → first + count ≤ 1152 →
       Completes (.faultClear fn r) s fun own => (own.fn fn).pocket.rsp = responseBytes 0x0A03 r stDone [] ∧
         own.kept.prov = s.kept.prov ∧ own.lin = s.lin ∧
         own.fc = { s.fc with
           sticky := tkeep s.fc.sticky fun k _ => !(decide (first ≤ k) && decide (k < first + count)),
           logs := tkeep s.fc.logs fun k _ => !(decide (first ≤ k) && decide (k < first + count)),
           asserted := own.fc.asserted }) ∧
     (Taken opLogRead fn r s → 1 ≤ leAt 4 2 r.data → leAt 4 2 r.data ≤ 47 →
       Done (.logRead fn r) opLogRead fn r s (s.logAnswer (BitVec.ofNat 32 (leAt 0 4 r.data)) (leAt 4 2 r.data)) s))

/-! ## Jalid: the update session -/

/-- R155, R156, R158, R160, R408, R472: UPDATE_BEGIN opens a session on the slot not in use, whose header is erased;
UPDATE_WRITE is accepted and queues the reads of its image bytes; UPDATE_CANCEL closes the session; UPDATE_ACTIVATE names
a valid slot as NEXT, with PENDING 1 and ATTEMPTS 0, and keeps the running slot as PREVIOUS; UPDATE_STATUS answers. R119,
R156, R157, R435, R436, R470, R471, R473: an UPDATE_WRITE whose bytes are in the flash advances WRITTEN by its length; an
UPDATE_COMMIT that finds a good manifest and good sections makes the slot valid with the image's version and build; one
that finds a bad manifest, a version below the fuses or bad sections leaves every slot as it was. -/
def Obligations.JalidUpdates : Prop :=
  (∀ (fn : Nat) (r : Request) (s : State),
     let u := s.lin.session
     (∀ slot, Taken opUpdateBegin fn r s → leAt 0 4 r.data % 4096 = 0 → leAt 0 4 r.data ≤ 2 ^ 25 → u.isOpen = false →
       s.targetSlot = some slot →
       Answers (.updateBegin fn r) s fun t =>
         (t.fn fn).pocket.rsp = responseBytes 0x0B01 r stDone
           (leBytes 2 (u.id + 1).toNat ++ leBytes 1 (slotCode slot) ++ zeros 5) ∧
         t.lin.session.id = u.id + 1 ∧ t.lin.session.slot = slot ∧ t.lin.session.imageLen = leAt 0 4 r.data ∧
         t.lin.session.written = 0 ∧ t.lin.session.pldm = false ∧ (t.boot.slot slot).valid = false ∧
         (t.boot.slot slot).erased = true ∧ t.boot.running = s.boot.running ∧ t.boot.next = s.boot.next) ∧
     (Taken opUpdateWrite fn r s → leAt 8 4 r.data % 4096 = 0 → 4096 ≤ leAt 8 4 r.data → leAt 8 4 r.data ≤ 2 ^ 22 →
       s.sessionIs r.data = true → leAt 4 4 r.data = u.written → leAt 4 4 r.data + leAt 8 4 r.data ≤ u.imageLen →
       s.sessionBusy = false →
       Accepted (.updateWrite fn r) opUpdateWrite fn r s .updateWrite u.id.toNat
         { s with waits := s.waits ++ (pieces (leAt 16 8 r.data) (leAt 8 4 r.data) (s.mrrs 0)).map fun x =>
             ({ fn := 0, role := .image, obj := imageObj, addr := leAt 16 8 r.data + x.1, len := x.2, xunit := 0,
                off := x.1, ats := false, asked := false } : Wait) }) ∧
     (Taken opUpdateCommit fn r s → s.sessionIs r.data = true → s.sessionBusy = false → u.imageLen ≤ u.written →
       Accepted (.updateCommit fn r) opUpdateCommit fn r s .updateCommit u.id.toNat s) ∧
     (Taken opUpdateCancel fn r s → s.sessionIs r.data = true → s.sessionBusy = false →
       Completes (.updateCancel fn r) s fun own => (own.fn fn).pocket.rsp = responseBytes 0x0B04 r stDone [] ∧
         own.lin.session = { u with isOpen := false } ∧ own.boot = s.boot) ∧
     (∀ slot, Taken opUpdateActivate fn r s → leAt 0 1 r.data = slotCode slot → slot ≠ .recovery → u.isOpen = false →
       (s.boot.slot slot).valid = true →
       Answers (.updateActivate fn r) s fun t => (t.fn fn).pocket.rsp = responseBytes 0x0B05 r stDone [] ∧
         t.boot.next = slot ∧ t.boot.prev = s.boot.running ∧ t.boot.pendingBoot = true ∧ t.boot.attempts = 0 ∧
         t.boot.running = s.boot.running ∧ t.boot.fuses = s.boot.fuses) ∧
     (Taken opUpdateStatus fn r s →
       Done (.updateStatus fn r) opUpdateStatus fn r s
         (leBytes 2 u.id.toNat ++ leBytes 1 (b2n u.isOpen) ++ leBytes 1 (b2n u.pldm) ++
           leBytes 4 (if u.isOpen then u.imageLen else 0) ++ leBytes 4 (if u.isOpen then u.written else 0) ++
           leBytes 1 (slotCode s.boot.running) ++ leBytes 1 (slotCode s.boot.next) ++
           leBytes 1 (maskOf [s.boot.slotA.valid, s.boot.slotB.valid, s.boot.slotR.valid]) ++
           leBytes 1 s.boot.attempts ++ zeros 8) s)) ∧
  (∀ (c : LongCmd) (s : State),
     ((s.fn 0).pocket.longs.find? (fun x => x.kind == .updateWrite) = some c → s.imageIn = true →
       Answers (.updateWriteComplete true) s fun t =>
         t.lin.session.written = s.lin.session.written + leAt 8 4 c.payload ∧ t.lin.session.slot = s.lin.session.slot ∧
         t.boot.fuses = s.boot.fuses) ∧
     (∀ f, (s.fn 0).pocket.longs.find? (fun x => x.kind == .updateCommit) = some c → manifestGood f = true →
       sectionsGood f = true → s.boot.fuses ≤ f.manifest.secVer →
       Answers (.updateCommitComplete f true) s fun t =>
         t.boot.slot s.lin.session.slot = { valid := true, erased := false, secVer := f.manifest.secVer,
                                                 build := f.manifest.build } ∧
         t.boot.next = s.boot.next ∧ t.boot.running = s.boot.running) ∧
     (∀ f b, (s.fn 0).pocket.longs.find? (fun x => x.kind == .updateCommit) = some c →
       (manifestGood f = false ∨ f.manifest.secVer < s.boot.fuses ∨ sectionsGood f = false) →
       Answers (.updateCommitComplete f b) s fun t => ∀ x, t.boot.slot x = s.boot.slot x))

/-! ## Jalid: service, the event queue registers, reload -/

/-- R102, R120, R121, R161: NOP has no effect; ECHO returns its payload; IDENTIFY and YASIL_READ answer from the state;
ABORT of a long command that has not reached its commit point ends it ABORTED. R79, R94, R96, R99, R105: enabling an event
queue starts its ring at entry 0 with the vector and size written; a write of HEAD within the unread entries is taken,
another sets HEAD_ERR; a held entry goes to the host once nothing holds it; a reload takes the Pockets OFFLINE and its end
counts a new generation of every view. -/
def Obligations.JalidServiceAndPocket : Prop :=
  (∀ (fn : Nat) (r : Request) (s : State),
     (Taken opNop fn r s → Done (.nop fn r) opNop fn r s [] s) ∧
     (Taken opEcho fn r s → Done (.echo fn r) opEcho fn r s r.data s) ∧
     (Taken opIdentify fn r s → Done (.identify fn r) opIdentify fn r s
       (leBytes 8 Config.serial.toNat ++ leBytes 8 s.runningBuild.toNat ++ leBytes 8 s.clk.timebase.toNat ++
         leBytes 4 s.tp.node ++ leBytes 2 fn ++ [0xA1] ++ leBytes 1 (b2n Config.gradeFE) ++ leBytes 1 s.modeCode ++
         [4, 2, 0] ++ leBytes 4 (s.viewGeneration fn).toNat) s) ∧
     (Taken opYasilRead fn r s → 1 ≤ leAt 4 2 r.data → leAt 4 2 r.data ≤ 1512 →
       DoneBy (.yasilRead fn r) opYasilRead fn r s (fun t => leBytes 4 (t.viewGeneration fn).toNat ++
         leBytes 2 (leAt 4 2 r.data) ++ zeros 2 ++ slice (leAt 0 4 r.data) (leAt 4 2 r.data) (t.view fn)) id) ∧
     (∀ c, Taken opAbort fn r s → (s.fn fn).pocket.longs.find? (fun x => x.token.toNat == leAt 0 2 r.data) = some c →
       c.kind.lateCommit = true →
       DoneBy (.abort fn r) opAbort fn r s (fun _ => []) fun t => (t.abortEffect c).finishLong fn c.token stAborted
         (t.abortDetail c))) ∧
  (∀ (fn : Nat) (v : W32) (s : State),
     let p := (s.fn fn).pocket
     let moved := (v.toNat % p.ringSize + p.ringSize - p.head.toNat % p.ringSize) % p.ringSize
     let used := (p.tail.toNat + p.ringSize - p.head.toNat % p.ringSize) % p.ringSize
     (s.regServed fn = true → bitAt v.toNat 31 = true → p.enable = false →
       Answers (.evqEnable fn v) s fun t => (t.fn fn).pocket.enable = true ∧ (t.fn fn).pocket.head = 0 ∧
         (t.fn fn).pocket.headErr = false ∧ (t.fn fn).pocket.log2 = BitVec.ofNat 4 (bits v.toNat 3 0) ∧
         (t.fn fn).pocket.vector = BitVec.ofNat 11 (bits v.toNat 26 16) ∧ (t.fn fn).pocket.base = p.base) ∧
     (s.regServed fn = true → bitAt v.toNat 31 = false →
       Answers (.evqDisable fn v) s fun t => (t.fn fn).pocket.enable = false ∧ (t.fn fn).pocket.head = p.head ∧
         (t.fn fn).pocket.vector = BitVec.ofNat 11 (bits v.toNat 26 16)) ∧
     (s.regServed fn = true → 1 ≤ moved →
       Answers (.pktEvqHeadWrite fn v) s fun t =>
         if moved ≤ used then (t.fn fn).pocket.head.toNat = v.toNat % p.ringSize ∧ (t.fn fn).pocket.headErr = false
         else (t.fn fn).pocket.head = p.head ∧ (t.fn fn).pocket.headErr = true) ∧
     (∀ h l, p.held = h :: l → s.eventsHeld fn = false → 0 < s.eventRoom fn →
       Completes (.heldEventWrite fn) s fun own =>
         ({ stamp := h.stamp, fn := fn, kind := .event h.ev h.final, asked := false } : HItem) ∈ own.hostq ∧
         own.kept = s.kept) ∧
     (s.operating = true → s.boot.reloading = false →
       Completes .jalidReload s fun own => own.boot = { s.boot with reloading := true } ∧
         own.lin.session.isOpen = false) ∧
     (s.boot.reloading = true → (∀ x ∈ s.fns, x.2.flr = true ∨ x.2.pocket.longs = []) →
       Answers .jalidReloadComplete s fun t => t.prov.genAll = s.prov.genAll + 1 ∧ t.prov.groups = s.prov.groups))

/-! ## Configuration of the functions -/

/-- R46, R47, R48, R57, R69, R192, R206, R232: Bus Master Enable, D3hot, ATS Enable with its translation unit, BAR2's
size, CFG_IDE_SEL, NumVFs and VF Enable take the value written in a live function; clearing ATS Enable drops the
function's translations; a smaller BAR2 closes the PF0 apertures that no longer fit; clearing VF Enable ends every group,
whose floors stay taken until the wipes have ended. R42, R51, R450, R451: a configuration read of a function that exists
is answered with the dword, and changes no register; a write is carried out under its byte enables and answered; before
configuration-ready, and in FLR, the answer is Request Retry Status; for a function that does not exist it is Unsupported
Request. In the safe state a read is answered from the frozen space and a write has no effect. -/
def Obligations.Configuration : Prop :=
  (∀ (fn : Nat) (s : State),
     let others := fun (t : State) => (∀ k, k ≠ fn → (t.fn k).rest = (s.fn k).rest) ∧ t.prov.groups = s.prov.groups
     (s.cfgLive fn = true → (s.fn fn).cfg.bme = true →
       Answers (.bmeClear fn) s fun t => (t.fn fn).cfg.bme = false ∧ others t) ∧
     (s.cfgLive fn = true → (s.fn fn).cfg.bme = false →
       Answers (.bmeSet fn) s fun t => (t.fn fn).cfg.bme = true ∧ others t) ∧
     (s.cfgLive fn = true → (s.fn fn).cfg.d3hot = false →
       Answers (.d3hotEntry fn) s fun t => (t.fn fn).cfg.d3hot = true ∧ (t.fn fn).cfg.bme = (s.fn fn).cfg.bme ∧ others t) ∧
     (s.cfgLive fn = true → (s.fn fn).cfg.d3hot = true → s.link.state ≠ .l0 →
       Answers (.d3hotToD0 fn) s fun t => (t.fn fn).cfg.d3hot = false ∧ (t.fn fn).cfg.bme = (s.fn fn).cfg.bme ∧ others t) ∧
     (s.cfgLive fn = true → (s.fn fn).cfg.d3hot = true → s.link.state = .l0 →
       Completes (.d3hotToD0 fn) s fun own => (own.fn fn).cfg.d3hot = false) ∧
     (s.cfgLive fn = true → fn ≠ 1 → (s.fn fn).cfg.atsEn = true →
       Completes (.atsEnableClear fn) s fun own => (own.fn fn).cfg.atsEn = false ∧
         own.xlt.cache = s.xlt.cache.filter (fun e => e.fn != fn) ∧ own.win = s.win) ∧
     (∀ stu, s.cfgLive fn = true → fn ≠ 1 → (s.fn fn).cfg.atsEn = false →
       Answers (.atsEnableSet fn stu) s fun t => (t.fn fn).cfg.atsEn = true ∧ (t.fn fn).cfg.stu = stu ∧ others t) ∧
     (∀ log2, s.cfgLive 0 = true → (s.fn 0).cfg.mse = false → log2 ≤ 8 →
       Completes (.bar2Resize log2) s fun own => own.prov = { s.prov with bar2Log := log2 } ∧
         own.win.iwins = s.win.iwins ∧ own.fns = s.fns ∧
         ∀ n x, tget s.win.apts n = some x → tget own.win.apts n = some
           (if x.owner = 0 ∧ x.state = .opened ∧ 2 ^ (30 + log2) - 0x10000 < x.bar2 + x.size then x.closing else x)) ∧
     (∀ v, s.cfgLive 0 = true → v ≠ 0xFF →
       exec (.cfgIdeSelWrite v) s = .next (s.after { s with prov := { s.prov with ideSel := v } })) ∧
     (∀ n : W16, s.cfgLive 0 = true → s.prov.vfEnable = false → n.toNat ≤ 1024 →
       exec (.numvfsWrite n) s = .next (s.after { s with prov := { s.prov with numVFs := n } })) ∧
     (s.cfgLive 0 = true → s.prov.vfEnable = false →
       exec .vfEnableSet s = .next (s.after { s with prov := { s.prov with vfEnable := true } })) ∧
     (s.cfgLive 0 = true → s.prov.vfEnable = true → Completes .vfEnableClear s fun own => own.prov.vfEnable = false ∧
       own.prov.groups = [] ∧
       ((∃ p ∈ own.fns, p.1 ≠ 1 ∧ p.2.flr = true) → own.freeStg = s.freeStg) ∧
       own.prov.numVFs = s.prov.numVFs ∧ own.prov.spill = s.prov.spill ∧ own.link = s.link)) ∧
  (∀ (fn off : Nat) (be : BitVec 4) (s : State), s.link.state ≠ .down → s.nonPostedFull = false →
     (s.boot.mode = .oper → (s.fn fn).flr = false → s.fnExists fn = true → off < 4096 →
       (Completes (.configRequest fn off be none) s fun own =>
         own.out = s.out ++ [.tlp fn (s.ideOf fn) (s.tdispIs fn .run) (.cpl .sc (leBytes 4 (s.cfgRead fn (off / 4)).toNat))] ∧
         own.prov = s.prov ∧ own.qps = s.qps ∧ own.win = s.win) ∧
       ∀ v, exec (.configRequest fn off be (some v)) s =
         .next (s.after (((s.tlpRcvd fn 4).cfgWrite fn (off / 4) be v).complete fn .sc []))) ∧
     (s.boot.mode = .safe → s.fnExists fn = true → off < 4096 →
       (Completes (.configRequest fn off be none) s fun own =>
         own.out = s.out ++ [.tlp fn (s.ideOf fn) (s.tdispIs fn .run) (.cpl .sc (leBytes 4 (s.cfgRead fn (off / 4)).toNat))] ∧
         own.kept = s.kept ∧ own.shadow = s.shadow) ∧
       ∀ v, Completes (.configRequest fn off be (some v)) s fun own =>
         own.out = s.out ++ [.tlp fn (s.ideOf fn) (s.tdispIs fn .run) (.cpl .sc [])] ∧ own.kept = s.kept ∧
         own.shadow = s.shadow) ∧
     (∀ wr, s.boot.mode = .boot → Completes (.configRequest fn off be wr) s fun own =>
       own.out = s.out ++ [.tlp fn (s.ideOf fn) (s.tdispIs fn .run) (.cpl .rrs [])] ∧ own.prov = s.prov ∧ own.kept = s.kept) ∧
     (∀ wr, s.boot.mode = .oper → (s.fn fn).flr = true → Completes (.configRequest fn off be wr) s fun own =>
       own.out = s.out ++ [.tlp fn (s.ideOf fn) (s.tdispIs fn .run) (.cpl .rrs [])] ∧ own.kept = s.kept) ∧
     (∀ wr, s.boot.mode = .oper → (s.fn fn).flr = false → s.fnExists fn = false →
       Completes (.configRequest fn off be wr) s fun own =>
         own.out = s.out ++ [.tlp fn (s.ideOf fn) (s.tdispIs fn .run) (.cpl .ur [])] ∧ own.kept = s.kept))

/-! ## SPDM, IDE and TDISP -/

/-- R42, R44, R425, R426, R427: PF0's DOE mailbox answers Discovery, the certificate chain, a challenge, measurements, up
to four sessions with their key updates, and the end of a session; only the mailbox and the sessions change, and free
values for nonces. The signatures are those of the Alias key of this boot. R428, R429, R431, R432, R433: IDE keys make a
stream Secure, a failed check ends that and asserts source 352 or 353, a stream is bound to a group while no VF of the
groups concerned is locked; LOCK takes an eligible VF to CONFIG_LOCKED, START to RUN, STOP back to CONFIG_UNLOCKED, and
the report is given in both locked states. -/
def Obligations.SpdmIdeAndTdisp : Prop :=
  (∀ (s : State), s.pf0Live = true →
     (∀ i, i ≤ 2 → Completes (.doeDiscovery i) s
       (Told s (leBytes 2 1 ++ leBytes 1 i ++ leBytes 1 (if i = 2 then 0 else i + 1)))) ∧
     (∀ off len, off ≤ s.chain.length → Completes (.spdmGetCertificate 0 off len) s
       (Told s ([0x02, 0] ++ leBytes 2 ((s.chain.drop off).take len).length ++
         leBytes 2 (s.chain.length - off - ((s.chain.drop off).take len).length) ++ (s.chain.drop off).take len))) ∧
     (∀ nonce, Completes (.spdmChallenge 0 nonce) s fun own =>
       own.freeIdx = s.freeIdx + 4 ∧ ∃ n, n.length = 32 ∧ Told s ([0x03, 0] ++ n ++
         Config.aliasSign (s.boot.ident.aliasKey.getD []) (fit 32 nonce ++ n)) own) ∧
     (∀ i, 1 ≤ i → i ≤ 8 → Completes (.spdmGetMeasurements i) s fun own =>
       ∃ n, n.length = 32 ∧ Told s ([0x60] ++ s.measurementEntry i ++ n ++
         Config.aliasSign (s.boot.ident.aliasKey.getD []) (s.measurementEntry i ++ n)) own) ∧
     (s.prov.spdm.length < 4 → Completes .spdmKeyExchange s fun own =>
       ∃ id n, id ∉ s.prov.spdm ∧ own.prov.spdm = s.prov.spdm ++ [id] ∧ own.prov.groups = s.prov.groups ∧
         own.out = s.out ++ [.doe ([0x64] ++ leBytes 2 id ++ n ++ Config.aliasSign (s.boot.ident.aliasKey.getD []) n)]) ∧
     (4 ≤ s.prov.spdm.length → Completes .spdmKeyExchange s (Told s [0x7F, 0x0A, 0])) ∧
     (∀ x ∈ s.prov.spdm, Completes (.spdmKeyUpdate x) s (Told s [0x69])) ∧
     (∀ x ∈ s.prov.spdm, Completes (.spdmSessionEnd x) s fun own =>
       own.prov.spdm = s.prov.spdm.filter (· != x) ∧ own.out = s.out ++ [.doe [0x6C]] ∧ own.prov.groups = s.prov.groups)) ∧
  (∀ (vf k : Nat) (x : Tenant) (s : State), s.pf0Live = true →
     (∀ v : W32, s.regServed 0 = true → k ≤ 254 → s.groupLocked (s.ideBind k).group.toNat = false →
       s.groupLocked (v.toNat % 256) = false →
       (∀ p ∈ s.prov.ide, p.1 ≠ k → ¬(p.2.valid = true ∧ p.2.group.toNat = v.toNat % 256)) →
       Answers (.poolIdeBindWrite k v) s fun t => t.prov.ide = tput s.prov.ide k { s.ideBind k with
         valid := bitAt v.toNat 31, group := BitVec.ofNat 8 (v.toNat % 256), void := false }) ∧
     (s.prov.spdm ≠ [] → k ≤ 254 → Answers (.ideKeyProgramming (some k) true) s fun t =>
       t.prov.ide = tput s.prov.ide k { s.ideBind k with secure := true }) ∧
     (s.prov.spdm ≠ [] → Completes (.ideKeyProgramming none true) s fun own =>
       own = { s with prov := { s.prov with linkIdeSecure := true } }) ∧
     (s.link.state ≠ .down → Completes (.ideCheckFailed (some k) false) s fun own =>
       (353, faultAt k) ∈ own.fc.asserted ∧ ∀ b, tget own.prov.ide k = some b → b.secure = false) ∧
     (s.link.state ≠ .down → Completes (.ideCheckFailed none false) s fun own =>
       (352, faultPlain) ∈ own.fc.asserted ∧ own.prov.linkIdeSecure = false) ∧
     (s.prov.spdm ≠ [] → s.vfExists vf = true → vf ≤ 1024 → s.tenant vf = some x →
       (∀ st, s.lockStream vf = some st → Completes (.lockInterfaceRequest vf) s fun own =>
         (own.tenant vf).map (fun y => (y.tdisp, y.stream)) = some (.locked, BitVec.ofNat 8 st)) ∧
       (x.tdisp = .locked → Completes (.startInterfaceRequest vf) s fun own =>
         (own.tenant vf).map (·.tdisp) = some .run) ∧
       (x.tdisp ≠ .unlocked → Completes (.stopInterfaceRequest vf) s fun own =>
         (own.tenant vf).map (fun y => (y.tdisp, y.rejects)) = some (.unlocked, 0) ∧
         (own.fn (fnOfVf vf)).keyGen = (s.fn (fnOfVf vf)).keyGen + 1) ∧
       ((x.tdisp = .locked ∨ x.tdisp = .run) → Completes (.getDeviceInterfaceReport vf) s
         (Told s (leBytes 1 0x04 ++ leBytes 4 (fnOfVf vf) ++ s.report vf x)))))

/-! ## Host accesses to BAR2, interrupts, and the ends of the block's own reads -/

/-- R199 to R205, R451: a served write into an open aperture is staged piece by piece, and one that finds its share full
waits at the port, where it holds the posted requests behind it (log entry 69); a read is held under the next number and
asked for by one READ per 4 KiB-bounded piece; a read of WIN_FLUSH is answered; what neither an open aperture nor the control
page holds counts in WIN_NOMAP and a read of it completes with zeros; the read limit ends a held read in Completer Abort; an
unsupported non-posted request is answered so; WIN_FLUSH's START covers the writes accepted so far. -/
def Obligations.Bar2Accesses : Prop :=
  ∀ (fn off a : Nat) (x : Apt) (s : State), s.link.state ≠ .down → s.bar2Gate fn = .served → s.postedHeld = false →
    s.nonPostedFull = false →
    (∀ data : Bytes, data ≠ [] → s.aptAt fn off data.length = some (a, x) → s.aptRoom x data.length = false →
      exec (.apertureWrite fn off data) s = .next (s.after { s with win := { s.win with held := some (fn, off, data) } })) ∧
    (∀ data : Bytes, data ≠ [] → s.flushReg fn off data.length = none → s.aptAt fn off data.length = some (a, x) →
      s.aptRoom x data.length = true →
      exec (.apertureWrite fn off data) s = .next (s.after ((aptPieces x off data.length).foldl (fun t p =>
        t.stageWrite a x p.2.1 (laneData x.rule (slice p.1 p.2.2 data))) (s.tlpRcvd fn data.length)))) ∧
    (∀ len htag, s.flushReg fn off len = some a → Completes (.apertureRead fn off len htag) s fun own =>
      own.out = s.out ++ [.tlp fn (s.ideOf fn) (s.tdispIs fn .run)
        (.cpl .sc (leBytes 4 (((tget s.win.apts a).map (·.flushValue)).getD 0)))] ∧ own.win = s.win) ∧
    (∀ len htag, 1 ≤ len → len ≤ 4096 → s.flushReg fn off len = none → s.aptAt fn off len = some (a, x) →
      let r : AptRead := { apt := a, fn := fn, htag := htag, len := len, rule := x.rule, runs := aptRuns x off len,
                           pieces := (aptAsks (aptRuns x off len)).map fun p => (p.1, p.2, none) }
      exec (.apertureRead fn off len htag) s = .next (s.after
        ({ s.tlpRcvd fn 0 with win := { s.win with reads := tput s.win.reads s.win.nextRead r,
                                                    nextRead := s.win.nextRead + 1 } }.aptAsk s.win.nextRead x
          (aptAsks (aptRuns x off len))))) ∧
    (∀ len, 1 ≤ len → s.aptAt fn off len = none → s.flushReg fn off len = none →
      (Completes (.bar2UnmappedAccess fn off len false) s fun own =>
        own.win = { s.win with noMap := satInc s.win.noMap } ∧ own.out = s.out ∧ own.kept = s.kept) ∧
      (Completes (.bar2UnmappedAccess fn off len true) s fun own =>
        own.win = { s.win with noMap := satInc s.win.noMap } ∧ own.kept = s.kept ∧
        own.out = s.out ++ [.tlp fn (s.ideOf fn) (s.tdispIs fn .run) (.cpl .sc (zeros len))])) ∧
    (s.tdispIs fn .run = false → Completes (.unsupportedRequest fn true) s fun own =>
      .tlp fn (s.ideOf fn) false (.cpl .ur []) ∈ own.out ∧ own.win = s.win ∧ own.kept = s.kept) ∧
    (∀ id r, tget s.win.reads id = some r → Completes (.apertureReadLimit id) s fun own =>
      tget own.win.reads id = none ∧ .tlp r.fn (s.ideOf r.fn) (s.tdispIs r.fn .run) (.cpl .ca []) ∈ own.out ∧
      (∀ y, tget s.win.apts r.apt = some y → tget own.win.apts r.apt = some { y with rdca := satInc y.rdca }) ∧
      own.kept = s.kept) ∧
    (tget s.win.apts a = some x → x.owner = fn → x.state = .opened → Completes (.winFlushStart fn a) s fun own =>
      tget own.win.apts a = some { x with
        flushPending := s.aptCovered a s.nextUnit, flushAt := s.nextUnit,
        flushFailed := satOfNat 16 ((if x.flushPending then x.flushFailed.toNat else 0) + x.failsOpen), failsOpen := 0 } ∧
      own.kept = s.kept)

/-- R193, R196, R234, R238 to R240, R248, R249, R451, R452: a write of an MSI-X dword is held where the vector exists; a
completion frees its tag and its data goes to its use, a late or orphan one is counted, an unexpected one asserts source
340; a translation answer is used, a stale one counted; an Invalidate Request takes every overlapping translation and is
answered once its reads have ended; a timeout keeps the tag and asserts 341; the end of the quarantine frees it. -/
def Obligations.HostAnswers : Prop :=
  ∀ (fn tag : Nat) (t : Tag) (s : State), s.boot.mode = .oper → s.link.state ≠ .down →
    let key := tagKey fn tag
    (∀ vec dword v, s.regServed fn = true → vec < s.vectorCount fn → Answers (.msixEntryWrite fn vec dword v) s fun u =>
      (u.fn fn).msix = tput (s.fn fn).msix vec ((tgetD (s.fn fn).msix vec MsixEntry.masked).write dword v)) ∧
    (∀ data, tget s.tags key = some t → t.state = .outstanding → s.offStream t.fn none = false → t.role ≠ .translation →
      exec (.completionArrival fn tag .sc false none data) s =
        .next (s.after (((s.tlpRcvd fn data.length).freeTag key).readData t data))) ∧
    (∀ st p x data, tget s.tags key = some t → t.state = .timedOut →
      Answers (.completionArrival fn tag st p x data) s fun u =>
        (u.fn t.fn).lateCpl = satInc (s.fn t.fn).lateCpl ∧ (u.fn t.fn).orphanCpl = (s.fn t.fn).orphanCpl) ∧
    (∀ st p x data, tget s.tags key = some t → t.state = .quarantined →
      Completes (.completionArrival fn tag st p x data) s fun own =>
        (own.fn t.fn).orphanCpl = satInc (s.fn t.fn).orphanCpl ∧ tget own.tags key = none) ∧
    (∀ st p x data, tget s.tags key = none → Completes (.completionArrival fn tag st p x data) s fun own =>
      (340, faultPlain) ∈ own.fc.asserted ∧ own.tags = s.tags ∧ own.qps = s.qps) ∧
    (∀ st x r, tget s.tags key = some t → t.state = .outstanding →
      s.xlt.reqs.find? (fun q => q.fn == fn && q.tag == tag) = some r →
      (r.stale = false → exec (.translationCompletion fn tag st x) s = .next (s.after
        ({ (s.tlpRcvd fn 0).freeTag key with xlt := { s.xlt with reqs := s.xlt.reqs.erase r } }.xlateUse r st x))) ∧
      (r.stale = true → Completes (.translationCompletion fn tag st x) s fun own =>
        own.xlt = { s.xlt with reqs := s.xlt.reqs.erase r, staleTc := s.xlt.staleTc + 1 })) ∧
    (∀ itag base len, (fn = 0 ∨ (isVf fn = true ∧ (s.tenant (vfOf fn)).isSome = true)) → (s.fn fn).flr = false →
      (s.fn fn).invQueue.length < 32 → Completes (.invalidateRequest fn itag base len false) s fun own =>
        (∀ e ∈ own.xlt.cache, e ∈ s.xlt.cache ∧ ¬(e.fn = fn ∧ overlap e.base e.len base len = true)) ∧
        (∀ e ∈ s.xlt.cache, ¬(e.fn = fn ∧ overlap e.base e.len base len = true) → e ∈ own.xlt.cache) ∧
        (own.fn fn).invQueue = (s.fn fn).invQueue ++ [(itag, s.readsIn fn base len false)] ∧
        own.xlt.invRcvd = s.xlt.invRcvd + 1) ∧
    (∀ itag r, (s.fn fn).invQueue = (itag, []) :: r → Completes (.invalidationCompletion fn) s fun own =>
      (own.fn fn).invQueue = r ∧ own.out = s.out ++ [.hostMsg fn (.invalidationCompletion itag)]) ∧
    (∀ k, tget s.tags k = some t → t.state = .outstanding → t.role ≠ .translation →
      let freed := s.freeTag k
      exec (.completionTimeout k) s = .next (s.after
        ((({ freed with tags := tput freed.tags k { t with state := .timedOut } }.aer t.aerFn aerCompletionTimeout
          false).raise 341 (faultAt t.fn)).readLost t csCompletionTimeout))) ∧
    (∀ k, tget s.tags k = some t → t.state ≠ .outstanding → Completes (.tagQuarantineExpiry k) s fun own =>
      tget own.tags k = none ∧ (∀ j, j ≠ k → tget own.tags j = tget s.tags j) ∧ own.qps = s.qps)

/-! ## Doorbells, descriptors, records -/

/-- R61, R167, R168, R188, R351, R359: an SQ doorbell's index becomes SQ_PROD where it is new and the ring has room for
it; beyond the ring the QP enters ERROR with cause 0x19; a demotion of the QP under way ends; the doorbell is kept for a
QP whose context is in the spill region, whose record is then asked for unless it has been; and it is discarded with a
reserved bit set or in another QP's slot. No other QP changes. R164, R168, R351: a CQ doorbell's index becomes CQ_CONS
unless it is more than the ring behind CQ_PROD; it is kept for a QP whose context is in the spill region. -/
def Obligations.Doorbells : Prop :=
  (∀ (fn slot q : Nat) (d : Doorbell) (p : Qp) (s : State),
     s.regServed fn = true → s.fnReady fn = true → s.qpAt fn d.qpIndex.toNat = some (q, p) →
     s.qp q = some p → p.state ≠ .draining →
     let at_ := d.rsvHi = 0 ∧ d.rsvLo = 0 ∧ slot = (if isVf fn then d.qpIndex.toNat % 64 else d.qpIndex.toNat)
     let used := (d.index - p.cqProd).toNat
     (at_ → s.qpAway q p = false → d.index ≠ p.prod → used ≤ min (2 ^ p.sqLog2) 65535 →
       Completes (.sqDoorbell fn slot d) s fun own =>
         (∃ x, own.qp q = some { x with prod := d.index, rings := p.rings ++ [(d.index, s.clk.timebase)],
                                        sample := p.sample + 1 } ∧
           ((∀ m ∈ s.plc.moves, m.1 ≠ q) → x = p) ∧ p = { x with residence := p.residence, record := p.record }) ∧
         (∀ m ∈ own.plc.moves, ¬(m.1 = q ∧ m.2.1 = .demote) ∨ ∃ y ∈ s.plc.moves, y.1 = q ∧ y.2.1 ≠ .demote) ∧
         (∀ k, k ≠ q → own.qp k = s.qp k) ∧ own.units = s.units ∧ own.waits = s.waits ∧ own.kept = s.kept) ∧
     (at_ → s.qpAway q p = false → d.index = p.prod → Completes (.sqDoorbell fn slot d) s fun own =>
       own.qp q = some { p with residence := ((own.qp q).map (·.residence)).getD p.residence,
                                record := (own.qp q).bind (·.record) } ∧
       (∀ k, k ≠ q → own.qp k = s.qp k) ∧ own.units = s.units ∧ own.waits = s.waits ∧ own.kept = s.kept) ∧
     (at_ → s.qpAway q p = false → d.index ≠ p.prod → ¬used ≤ min (2 ^ p.sqLog2) 65535 → p.state ≠ .error →
       Completes (.sqDoorbell fn slot d) s fun own =>
         (∃ x, own.qp q = some x ∧ x.state = .error ∧ x.cause = 0x19 ∧ x.prod = p.prod) ∧
         (∀ k, k ≠ q → own.qp k = s.qp k) ∧ own.kept = s.kept) ∧
     (at_ → s.qpAway q p = true → Completes (.sqDoorbell fn slot d) s fun own =>
       (∃ x, own.qp q = some x ∧ x.keptDoorbell = some d.index ∧ x.prod = p.prod ∧ x.state = p.state ∧
         ∀ r, p.record = some r → s.spillOpen = true → q ∉ s.plc.retry → x.loading = true ∧
           (p.loading = false → ∃ w ∈ own.waits, w.fn = 0 ∧ w.role = .spill ∧ w.obj = q ∧ w.len = 512 ∧
             w.addr = s.prov.spillBase.toNat + 512 * r)) ∧
       (∀ k, k ≠ q → own.qp k = s.qp k) ∧ own.kept = s.kept) ∧
     (¬at_ → Completes (.sqDoorbell fn slot d) s fun own => own.qps = s.qps ∧ own.kept = s.kept)) ∧
  (∀ (fn slot q : Nat) (d : Doorbell) (p : Qp) (s : State),
     s.regServed fn = true → s.fnReady fn = true → s.qpAt fn d.qpIndex.toNat = some (q, p) →
     s.qp q = some p → p.state ≠ .draining → d.rsvHi = 0 → d.rsvLo = 0 →
     slot = (if isVf fn then d.qpIndex.toNat % 64 else d.qpIndex.toNat) →
     (s.qpAway q p = false → (p.cqProd - d.index).toNat ≤ 2 ^ p.cqLog2 → Completes (.cqDoorbell fn slot d) s fun own =>
       (∃ x, own.qp q = some x ∧ x.cqCons = d.index ∧ x.prod = p.prod ∧ x.cons = p.cons) ∧
       (∀ k, k ≠ q → own.qp k = s.qp k) ∧ own.kept = s.kept) ∧
     (s.qpAway q p = false → ¬(p.cqProd - d.index).toNat ≤ 2 ^ p.cqLog2 → Completes (.cqDoorbell fn slot d) s fun own =>
       own.qps = s.qps ∧ own.kept = s.kept) ∧
     (s.qpAway q p = true → Completes (.cqDoorbell fn slot d) s fun own =>
       (∃ x, own.qp q = some x ∧ x.keptCq = some d.index ∧ x.cqCons = p.cqCons) ∧
       (∀ k, k ≠ q → own.qp k = s.qp k) ∧ own.kept = s.kept))

/-- R164, R165, R181, R188, R192, R537: a descriptor fetch of a QP that has entries reads at most 8 of them in one host
read from the ring's place of SQ_CONS, within the ring, within a 4 KiB page and within Max Read Request Size, while at
most 64 are held; a QP that is STOPPED or DRAINING, that waits behind a FENCE, whose completion ring is full, whose set or
function is paused, whose context is in the spill region, whose read is outstanding, or whose function may issue no
request fetches nothing. R175, R176, R177, R183, R185: a PUT, GET or SEND that may begin is begun in the QP that fetched
it and its leading bytes are cut into units of at most 4 KiB; where nothing holds it back the first unit is the one R183
cuts, read from the source address for a PUT or a SEND. R178, R181, R182: a RECV posts its buffer, a FENCE and a NOTE are
taken up, and nothing else moves, where no unit of the QP waits to start. -/
def Obligations.WorkBegins : Prop :=
  (∀ (q : Nat) (p : Qp) (s : State), s.qp q = some p →
     let n := s.fetchCount q p
     let at_ := p.sqBase.toNat + (p.cons.toNat % 2 ^ p.sqLog2) * 64
     (n ≠ 0 → exec (.descriptorFetch q) s = .next (s.after
         { s.modQp q (fun p => { p with fetching := n }) with
             waits := s.waits ++ [{ fn := p.fn, role := .descriptor, obj := q, addr := at_, len := n * 64, xunit := p.readNo,
                                    off := 0, ats := p.ats, asked := false }] }) ∧
       n ≤ 8 ∧ n ≤ (p.prod - p.cons).toNat ∧ n + p.descs.length ≤ 64 ∧ p.cons.toNat % 2 ^ p.sqLog2 + n ≤ 2 ^ p.sqLog2 ∧
       at_ % 4096 + n * 64 ≤ 4096 ∧ n * 64 ≤ s.mrrs p.fn ∧ p.fetching = 0) ∧
     ((p.state = .stopped ∨ p.state = .draining ∨ p.cqRoom = false ∨ s.busBlocked p.fn = true ∨ p.fetching ≠ 0 ∨
         (p.state = .active ∧ ((∃ d ∈ p.descs, d.opcode = 0x05 ∧ d.status = none) ∨ (s.fn p.fn).paused = true ∨
           (∃ x, s.qsetOf p = some x ∧ x.paused = true) ∨ s.qpAway q p = true))) →
       exec (.descriptorFetch q) s = .next (s.after s))) ∧
  (∀ (q : Nat) (sqi : W16) (d : Desc) (p : Qp) (s : State), s.qp q = some p →
     d.nextByte = 0 → d.units = [] →
     ∀ op c, (op, c) ∈ [((0x01 : Byte), Instr.put q sqi), (0x02, .get q sqi), (0x03, .sendD q sqi)] →
     s.toBegin q sqi op = some d →
     Completes c s fun own =>
       own.kept = s.kept ∧ (∀ k, k ≠ q → own.qp k = s.qp k) ∧
       ∃ p' d', own.qp q = some p' ∧ p'.desc? sqi = some d' ∧ d'.started = true ∧ d'.len = d.len ∧ d'.cookie = d.cookie ∧
         p'.prod = p.prod ∧ p'.cons = p.cons ∧ p'.cqProd = p.cqProd ∧ p'.state = p.state ∧
         (∀ u ∈ d'.units, u.1 ≤ 4096) ∧ (d'.units.map (·.1)).sum = d'.nextByte ∧
         ∀ x y, (s.modDesc q sqi fun d => { d with started := true }).nextToStart q = some (x, y) → y.sqi = sqi →
           y.opcode = op →
           d'.units.head? = some (y.unitLen, false) ∧
           (op ≠ 0x02 → ∃ u, tget own.units s.nextUnit = some u ∧ u.kind = (if op = 0x01 then UnitKind.put else .sendMsg) ∧
             u.obj = q ∧ u.addr = y.iova + y.nextByte ∧ u.len = y.unitLen ∧ u.committed = false ∧
             ∀ z ∈ pieces u.addr u.len (s.mrrs p.fn), ∃ w ∈ own.waits,
               w.role = .payload ∧ w.fn = p.fn ∧ w.xunit = s.nextUnit ∧ w.addr = u.addr + z.1 ∧ w.len = z.2)) ∧
  (∀ (q : Nat) (sqi : W16) (d : Desc) (s : State),
     ∀ op c, (op, c) ∈ [((0x04 : Byte), Instr.recv q sqi), (0x05, .fence q sqi), (0x06, .note q sqi)] →
     s.toBegin q sqi op = some d →
     let t := s.modDesc q sqi fun d => { d with started := true }
     t.nextToStart q = none → exec c s = .next (s.after t))

/-- R173, R181, R182, R186, R190, R191: a FENCE behind which nothing is pending and a NOTE whose turn has come complete, also
while their QP is STOPPED; where the ring has room the record of the first descriptor is written at CQ_PROD with the FENCE's
failure count or the timebase as DATA, and CQ_PROD advances; a FENCE or NOTE that is not due stays. A moderation holdoff
announces what waits; a token bucket is brought up to date at its rate within its depth. -/
def Obligations.RecordsAndModeration : Prop :=
  (∀ (q : Nat) (sqi : W16) (d : Desc) (p : Qp) (s : State), s.qp q = some p →
    let written := fun (x : Desc) (st : Byte) (r : List Desc) (own : State) =>
      (∃ p', own.qp q = some p' ∧ p'.descs = r ∧ p'.cqProd = p.cqProd + 1 ∧ p'.cqCons = p.cqCons ∧ p'.state = p.state ∧
        p'.phase = (if (p.cqProd.toNat + 1) % 2 ^ p.cqLog2 = 0 then !p.phase else p.phase)) ∧
      ∃ i ∈ own.hostq, i.fn = p.fn ∧ ∃ tag, i.kind = .write (p.cqBase.toNat + (p.cqProd.toNat % 2 ^ p.cqLog2) * 32)
        (recordBytes x st p.phase) p.ats tag .record q (some sqi)
    let waits := fun (x : Desc) (r : List Desc) (own : State) => ∃ p', own.qp q = some p' ∧ p'.descs = x :: r ∧
      p'.cqProd = p.cqProd ∧ p'.cqCons = p.cqCons ∧ p'.state = p.state
    (p.desc? sqi = some d → d.opcode = 0x05 → d.started = true → d.status = none → p.state = .active ∨ p.state = .stopped →
      (∀ e ∈ p.descs.takeWhile fun x => x.sqi != sqi, e.status.isSome = true) → s.writesPending q = false →
      Completes (.fenceComplete q sqi) s fun own =>
        let st := if p.fenceFails = 0 then csSuccess else csWritesFailed
        let x := { d with status := some st, data := BitVec.ofNat 64 p.fenceFails.toNat }
        own.lasting = s.lasting ∧ (∀ k, k ≠ q → own.qp k = s.qp k) ∧ own.units = s.units ∧ own.waits = s.waits ∧
        (∃ p', own.qp q = some p' ∧ p'.fenceFails = 0) ∧
        ∀ r, p.descs = d :: r → (∀ e ∈ r, e.sqi ≠ sqi) →
          (p.cqRoom = false → waits x r own ∧ own.hostq = s.hostq) ∧
          (p.cqRoom = true → (∀ e ∈ r.head?, e.status = none) → written x st r own)) ∧
    ((p.desc? sqi).all (fun d => d.opcode != 0x05 || !d.started || d.status.isSome) = true ∨
        (p.state ≠ .active ∧ p.state ≠ .stopped) ∨
        (∃ e ∈ p.descs.takeWhile fun x => x.sqi != sqi, e.status = none) ∨ s.writesPending q = true →
      exec (.fenceComplete q sqi) s = .next (s.after s)) ∧
    (∀ r, p.descs = d :: r → (∀ e ∈ r, e.sqi ≠ sqi) → d.sqi = sqi → d.opcode = 0x06 → d.started = true → d.status = none →
      p.state = .active ∨ p.state = .stopped → Completes (.noteComplete q sqi) s fun own =>
        let x := { d with status := some csSuccess, data := s.clk.timebase }
        own.lasting = s.lasting ∧ (∀ k, k ≠ q → own.qp k = s.qp k) ∧ own.units = s.units ∧ own.waits = s.waits ∧
        (p.cqRoom = false → waits x r own ∧ own.hostq = s.hostq) ∧
        (p.cqRoom = true → (∀ e ∈ r.head?, e.status = none) → written x csSuccess r own)) ∧
    (p.descs.head?.all (fun d => d.sqi != sqi || d.opcode != 0x06 || !d.started || d.status.isSome) = true ∨
        (p.state ≠ .active ∧ p.state ≠ .stopped) →
      exec (.noteComplete q sqi) s = .next (s.after s))) ∧
  (∀ (q : Nat) (sqi : W16) (s : State), s.qp q = none →
    exec (.fenceComplete q sqi) s = .next (s.after s) ∧ exec (.noteComplete q sqi) s = .next (s.after s)) ∧
  (∀ (fn n : Nat) (s : State),
    (∀ x, tget (s.fn fn).qsets n = some x → x.modTime ≠ 0 → x.unannounced ≠ 0 →
      Completes (.moderationHoldoff fn n) s fun own =>
        own.lasting = s.lasting ∧ tget (own.fn fn).qsets n = some { x with unannounced := 0, lastSt := none } ∧
        own.qps = s.qps ∧ own.units = s.units ∧ own.out = s.out ∧
        (s.boot.mode ≠ .safe → x.vector.toNat < s.vectorCount fn →
          (s.msixBlocked fn x.vector.toNat = true → tgetD (own.fn fn).pba x.vector.toNat false = true) ∧
          (s.msixBlocked fn x.vector.toNat = false →
            let e := tgetD (s.fn fn).msix x.vector.toNat MsixEntry.masked
            ∃ i ∈ own.hostq, i.fn = fn ∧ ∃ tag, i.kind = .msg e.addr e.data tag))) ∧
    ((∀ x, tget (s.fn fn).qsets n = some x → x.modTime = 0 ∨ x.unannounced = 0) →
      exec (.moderationHoldoff fn n) s = .next (s.after s)) ∧
    (∀ x, tget (s.fn fn).qsets n = some x → (∀ k ∈ s.qpsOfSet fn n, (s.qp k).all (fun p => p.descs.isEmpty) = true) →
      Completes (.tokenBucketRefill fn n) s fun own =>
        let depth := 1000 * bucketDepth x.rate.toNat
        own.lasting = s.lasting ∧ own.qps = s.qps ∧ own.units = s.units ∧ tget (own.fn fn).qsets n =
          some { x with bucket := min depth (x.bucket + x.rate.toNat * (s.clk.localCount - x.fillAt)), fillAt := s.clk.localCount }) ∧
    (tget (s.fn fn).qsets n = none → Completes (.tokenBucketRefill fn n) s fun own =>
      own.lasting = s.lasting ∧ own.qps = s.qps ∧ own.units = s.units ∧ ∀ k, own.fn k = s.fn k) ∧
    ∃ t, exec (.tokenBucketRefill fn n) s = .next t)

/-- R255 to R257, R262, R266: the pleats up to one that the local count has reached begin and wait at the three arbiters,
or trigger; one overtaken by four is dropped and counted; a grant consumes the first pending pleat whose owner has a
requester, or the first one in the background; a requester that waits beyond the limit counts once and sets STARVED, which
the first time is source 519 and an event. R21, R175, R184, R207, R210, R256, R309, R317: a unit whose last byte has
landed commits in the turn of its source; the first committed unit of a transmit queue that may go leaves: host-bound
whole as memory writes and out of staging, fabric-bound as one packet with its data, which a resend repeats. -/
def Obligations.PleatsAndEmission : Prop :=
  (∀ (s : State),
     (∀ p, s.plt.current < p → p ≤ s.clk.localCount * 10 / 128 → Completes (.pleatBegin p) s fun own =>
       own.plt.current = p ∧ own.prov = s.prov ∧ own.tp = s.tp ∧ own.qps = s.qps ∧
       ∀ a, (own.arb a).entries = (s.arb a).entries ∧ ((s.arb a).queue = [] → (own.arb a).pendings =
         (s.arb a).pendings ++ (List.range (p - s.plt.current)).map fun i => s.plt.current + i + 1)) ∧
     (∀ p, p ≤ s.plt.current ∨ s.clk.localCount * 10 / 128 < p → exec (.pleatBegin p) s = .next (s.after s)) ∧
     (∀ a p r, (s.arb a).pendings = p :: r → p + 4 ≤ s.plt.current → Completes (.pleatLapsed a) s fun own =>
       own.arb a = { s.arb a with pendings := r, lapsed := (s.arb a).lapsed + 1 } ∧ (∀ b, b ≠ a → own.arb b = s.arb b) ∧
       own.units = s.units ∧ own.kept = s.kept) ∧
     (∀ a p n u, (s.arb a).queue.length < 4 → s.ownedChoice a (s.livePleats a) = some (p, n, u) → tget s.units n = some u →
       Completes (.grantOpportunity a) s fun own =>
         own.arb a = { s.arb a with queue := (s.arb a).queue ++ [n], pendings := (s.arb a).pendings.filter (· != p),
                                    owned := (s.arb a).owned + 1,
                                    ownedAt := some (max p ((s.arb a).ownedAt.getD 0)) } ∧
         tget own.units n = some { u with granted := some (.owned, p) } ∧ (∀ k, k ≠ n → tget own.units k = tget s.units k) ∧
         own.kept = s.kept) ∧
     (∀ a p l n u, (s.arb a).queue.length < 4 → s.livePleats a = p :: l → s.ownedChoice a (p :: l) = none →
       oldest (s.requesters a) = some (n, u) → tget s.units n = some u → Completes (.grantOpportunity a) s fun own =>
         own.arb a = { s.arb a with queue := (s.arb a).queue ++ [n], pendings := (s.arb a).pendings.filter (· != p),
                                    background := (s.arb a).background + 1 } ∧
         tget own.units n = some { u with granted := some (.background, p) } ∧ own.kept = s.kept) ∧
     (∀ a, ¬(s.arb a).queue.length < 4 ∨ s.livePleats a = [] ∨ s.requesters a = [] →
       exec (.grantOpportunity a) s = .next (s.after s)) ∧
     (∀ a n u, tget s.units n = some u → s.requests a n u = true → u.starved = false →
       u.arrived + 1000 * s.plt.starveLimit.toNat < s.clk.localCount → Completes (.starvation a n) s fun own =>
       (own.arb a).starved = true ∧ (own.arb a).lastGroup = BitVec.ofNat 8 u.group ∧
       (own.arb a).starveCnt = satInc (s.arb a).starveCnt ∧ own.kept = s.kept ∧
       tget own.units n = some { u with starved := true } ∧ (∀ k, k ≠ n → tget own.units k = tget s.units k) ∧
       own.fc.asserted = s.fc.asserted ++ (if (s.arb a).starved then [] else [(519, faultAt a.num)])) ∧
     (∀ a n, (tget s.units n).all (fun u => !s.requests a n u || u.starved ||
         decide (s.clk.localCount ≤ u.arrived + 1000 * s.plt.starveLimit.toNat)) = true →
       exec (.starvation a n) s = .next (s.after s))) ∧
  (∀ (n : Nat) (u : XUnit) (s : State), tget s.units n = some u →
     let inTurn := u.ordered = false ∨ ∀ x ∈ s.units, x.1 < n → x.2.source = u.source → x.2.ordered = true → x.2.committed = true
     (u.committed = false → u.len ≤ u.landed → u.xlated = true → u.grantUnits = 0 → inTurn →
       (u.pkt = none ∨ u.cutOff = true ∨ (u.kind ≠ .inWrite ∧ u.kind ≠ .recvData) → exec (.unitCommit n) s = .next (s.after
         { s.modUnit n (fun u => { u with committed := true, commitNo := s.stamp }) with stamp := s.stamp + 1 })) ∧
       Completes (.unitCommit n) s fun own => own.lasting = s.lasting ∧ own.qps = s.qps ∧
         (tget own.units n).map (fun v => (v.committed, v.commitNo, v.data)) = some (true, s.stamp, u.data)) ∧
     ((u.landed < u.len ∨ u.committed = true ∨ u.xlated = false ∨ u.grantUnits ≠ 0 ∨ ¬inTurn) →
       exec (.unitCommit n) s = .next (s.after s)) ∧
     (s.unitReady n u = true → s.firstOut n u = true → u.hostBound = true → n < s.nextUnit →
       (∀ t ∈ s.hostTlps u, (∃ pa ns, s.xlook u.fn t.1 t.2.length u.ats true = .hit pa ns) ∨
         s.xlook u.fn t.1 t.2.length u.ats true = .untranslated) →
       Completes (.unitEmitted n) s fun own =>
         tget own.units n = none ∧ own.lasting = s.lasting ∧ (∀ a, n ∉ (own.arb a).queue) ∧
         ∀ r ∈ laneRuns u.rule u.addr u.len, ∀ x ∈ pieces r.2.1 r.2.2 (s.mps u.fn),
           let d := slice x.1 x.2 (laneData u.rule (slice r.1 r.2.2 u.data))
           ∃ ide t at_ role a, .tlp u.fn ide t (.mwr at_ d a role) ∈ own.out ∧ a.ns = u.noSnoop ∧ a.st = u.st ∧
             a.ro = (s.fn u.fn).cfg.relaxed ∧
             (s.xlook u.fn (r.2.1 + x.1) d.length u.ats true = .untranslated → at_ = r.2.1 + x.1 ∧ a.translated = false) ∧
             (∀ pa ns, s.xlook u.fn (r.2.1 + x.1) d.length u.ats true = .hit pa ns → at_ = pa ∧ a.translated = true)) ∧
     (∀ p f, s.unitReady n u = true → s.firstOut n u = true → u.hostBound = false → u.pkt = some p →
       tget s.tp.tx u.flow = some f →
       (u.resend = false → s.keptOf n u.flow = none → Completes (.unitEmitted n) s fun own =>
         own.lasting = s.lasting ∧
         .packet f.sleeve (s.fillPacket { p with payload := u.data ++ p.payload } f.next) ∈ own.out) ∧
       (∀ t, u.resend = false → s.keptOf n u.flow = some t → Completes (.unitEmitted n) s fun own =>
         own.lasting = s.lasting ∧ .packet f.sleeve (s.fillPacket t.pkt f.next) ∈ own.out) ∧
       (∀ t, u.resend = true → f.unacked.find? (·.again) = some t → Completes (.unitEmitted n) s fun own =>
         own.lasting = s.lasting ∧ .packet f.sleeve (packetAgain t.pkt) ∈ own.out)) ∧
     ((s.unitReady n u = false ∨ s.firstOut n u = false) → exec (.unitEmitted n) s = .next (s.after s)))

/-! ## Ledger, planner, placement, power domains -/

/-- R375 to R379: a function or queue set whose charge has reached its limit is paused and counted once, with THRESHOLD
said to have been sent from 80 % on; a window that ends gives the next one its length, its allowances scaled to the budget
where their sum exceeds it, and its reserve; an exempt function resumes. R370, R371, R373, R374, R380 to R382: an epoch's
energy on the eight rails, measured while LIN is in Run and else of every domain's state, goes to the device's, the rails'
and the domains' totals and to the window it belongs to; a pending coefficient set takes effect; k stays from 1/2 to 2; in
operation the epoch's target is at most 44,000 uJ and it is throttled exactly where the forecast exceeds what is admitted.
How a rail's energy is shared among its domains is a free value (log entry 3). R344, R347, R350: a placement epoch counts
itself, smooths every QP's access rate, and leaves at most 256 moves in flight, or as many as there were; outside
operation it does nothing. -/
def Obligations.LedgerAndPlanner : Prop :=
  (∀ (fn : Nat) (s : State),
     let f := s.fn fn
     (s.fnReady fn = true → f.exhausted = true → f.paused = false → Completes (.queueSetPause fn none) s fun own =>
       (own.fn fn).paused = true ∧ own.el.pauses = s.el.pauses + 1 ∧ (∀ n, n ≠ fn → own.fn n = s.fn n) ∧
       own.qps = s.qps ∧ own.prov = s.prov ∧
       (∀ l, f.limit = some l → nearLimit f.used l = true → (own.fn fn).thresholdSent = true)) ∧
     (s.fnReady fn = true → f.exhausted = false → Completes (.queueSetPause fn none) s fun own =>
       (own.fn fn).paused = f.paused ∧ own.el = s.el ∧ own.qps = s.qps) ∧
     (∀ q x, s.fnReady fn = true → tget f.qsets q = some x → x.exhausted = true → x.paused = false →
       Completes (.queueSetPause fn (some q)) s fun own =>
         (∃ y, tget (own.fn fn).qsets q = some y ∧ y.paused = true ∧ y.charged = x.charged) ∧
         own.el.pauses = s.el.pauses + 1 ∧ (own.fn fn).paused = f.paused ∧ own.qps = s.qps ∧ own.prov = s.prov) ∧
     (s.fnReady fn = false → ∀ q, exec (.queueSetPause fn q) s = .next (s.after s)) ∧
     (s.metering = true → Completes .accountingWindowBoundary s fun own =>
       let b := s.capMw * s.windowNext
       let sum := s.allowances none + s.el.reserve.toNat
       let beyond := decide (s.allowances none ≠ 0) && decide (sum > b)
       own.el.window = s.windowNext ∧ own.el.windowAt = s.clk.localCount ∧ own.el.windows = s.el.windows + 1 ∧
       own.el.closing = some (s.el.devWindow, s.budget) ∧ own.el.devWindow = 0 ∧ own.el.epochInWindow = 0 ∧
       own.el.oversub = beyond ∧
       own.el.reserveForce = BitVec.ofNat 64 (if beyond then s.el.reserve.toNat * b / sum else s.el.reserve.toNat) ∧
       own.el.reserveLeft = own.el.reserveForce ∧ own.prov = s.prov ∧ own.link = s.link ∧
       ∀ n g, tget s.fns n = some g →
         (own.fn n).borrowed = 0 ∧ (own.fn n).exempt = (g.allowSet == 0) ∧ (own.fn n).allowSet = g.allowSet ∧
         (own.fn n).allowance = BitVec.ofNat 64 (if beyond then g.allowSet.toNat * b / sum else g.allowSet.toNat) ∧
         ((g.paused = false ∨ g.allowSet = 0) → (own.fn n).paused = false)) ∧
     (s.metering = false → exec .accountingWindowBoundary s = .next (s.after s))) ∧
  (∀ (rails : List Nat) (s : State),
     let run := (s.dom .lin).state = .run
     let e := if run then rails.take 8 else s.stateRails
     (s.metering = true → s.el.railTotal.length = 8 → Completes (.planningEpoch rails) s fun own =>
       own.el.devTotal = s.el.devTotal + e.sum ∧
       (∀ r, r < 8 → lget own.el.railTotal r 0 = lget s.el.railTotal r 0 + lget e r 0) ∧
       (run → s.el.domTotal.length = 11 → own.el.domTotal.sum + lget e 6 0 = s.el.domTotal.sum + e.sum) ∧
       own.el.epochInWindow = s.el.epochInWindow + 1 ∧ own.el.closing = none ∧
       (s.el.closing = none → own.el.devWindow = s.el.devWindow + e.sum) ∧
       (∀ n b, s.el.closing = some (n, b) → own.el.devWindow = s.el.devWindow ∧
         (b < (n + e.sum) / 1000 → (707, faultPlain) ∈ own.fc.asserted)) ∧
       own.el.coefPending = false ∧ own.el.coefGen = (if s.el.coefPending then s.el.coefGen + 1 else s.el.coefGen) ∧
       own.el.inboundPrev = s.el.inboundNow ∧
       own.el.k = nextK s.el.k e.sum s.levers.base s.el.forecast ∧ (1 / 2 ≤ s.el.k → s.el.k ≤ 2 → 1 / 2 ≤ own.el.k ∧ own.el.k ≤ 2) ∧
       (s.boot.mode = .oper → own.el.target.toNat ≤ 44000 ∧
         own.el.throttle = decide (own.el.forecast > own.el.admitted) ∧
         own.el.throttled = (if own.el.throttle then s.el.throttled + 1 else s.el.throttled)) ∧
       (s.boot.mode ≠ .oper → own.el.forecast = 0) ∧ own.prov = s.prov ∧ own.boot = s.boot ∧ own.link = s.link) ∧
     (s.metering = false → exec (.planningEpoch rails) s = .next (s.after s))) ∧
  (∀ (s : State),
     (s.boot.mode = .oper → Completes .placementEpoch s fun own =>
       own.plc.epochs = s.plc.epochs + 1 ∧ own.lasting = s.lasting ∧
       own.plc.moves.length ≤ max 256 s.plc.moves.length ∧
       ∀ q p, s.qp q = some p → ∃ x, own.qp q = some x ∧ x.rate = p.rate - p.rate / 4 + 64 * p.sample ∧ x.fn = p.fn) ∧
     (s.boot.mode ≠ .oper → exec .placementEpoch s = .next (s.after s)))

/-- R321, R351, R353, R356, R358 to R360, R362: the switch of a move whose first phase has ended changes where the QP's context
is in force within 2 us; a move that cannot be quiesced in that time, or whose QP to be demoted is quiescent no more, is
abandoned, and an abandoned move keeps the source copy; a move whose first phase goes on goes on; a verified record serves the
QP or ends the first phase of its promotion, a rejected one loses it and is source 642, a host error is source 704; a
write-back writes the 512 B record; at a flowlet boundary a held flow takes the other Sleeve. -/
def Obligations.Migrations : Prop :=
  ∀ (q : Nat) (p : Qp) (s : State), s.qp q = some p →
    let moved := fun (own : State) => (∀ m ∈ own.plc.moves, m.1 ≠ q) ∧ own.lasting = s.lasting
    let dropped := fun (mv : Move) (own : State) => moved own ∧ own.plc.migAbort = satInc s.plc.migAbort ∧
      ∃ x, own.qp q = some x ∧ x.residence = (match mv with
        | .promote => .spilled
        | .demote => .onDie
        | .engine _ => p.residence.settled) ∧ x.engine = p.engine
    (∀ ns, ns ≤ 2000 → s.quiesces q = true → s.plc.moves.find? (·.1 == q) = some (q, .promote, true) →
      Completes (.migrationSwitch q ns) s fun own => moved own ∧ own.plc.promote = s.plc.promote + 1 ∧
        ∃ x, own.qp q = some x ∧ x.residence = .onDie ∧ x.record = none ∧ x.fn = p.fn) ∧
    (∀ ns two, ns ≤ 2000 → s.quiesces q = true → s.plc.moves.find? (·.1 == q) = some (q, .demote, two) →
      s.recordOut q = true → s.quiescent q p = true → Completes (.migrationSwitch q ns) s fun own =>
        moved own ∧ own.plc.demote = s.plc.demote + 1 ∧ ∃ x, own.qp q = some x ∧ x.residence = .spilled ∧ x.record = p.record) ∧
    (∀ ns two e, ns ≤ 2000 → s.quiesces q = true → s.plc.moves.find? (·.1 == q) = some (q, .engine e, two) →
      Completes (.migrationSwitch q ns) s fun own => moved own ∧ own.plc.engMove = s.plc.engMove + 1 ∧
        ∃ x, own.qp q = some x ∧ x.engine = e ∧ x.residence = p.residence.settled) ∧
    (∀ ns mv two, s.plc.moves.find? (·.1 == q) = some (q, mv, two) →
      ((mv = .promote ∧ two = false) ∨ (mv = .demote ∧ s.recordOut q = false) →
        exec (.migrationSwitch q ns) s = .next (s.after s)) ∧
      (¬(mv = .promote ∧ two = false) → ¬(mv = .demote ∧ s.recordOut q = false) →
        2000 < ns ∨ s.quiesces q = false ∨ (mv = .demote ∧ s.quiescent q p = false) →
        Completes (.migrationSwitch q ns) s (dropped mv))) ∧
    (∀ ns, s.plc.moves.find? (·.1 == q) = none → exec (.migrationSwitch q ns) s = .next (s.after s)) ∧
    (∀ mv two, s.plc.moves.find? (·.1 == q) = some (q, mv, two) → Completes (.migrationAbandon q) s (dropped mv)) ∧
    (p.loading = true → s.plc.retry.contains q = false → s.qpAway q p = true →
      (s.readOver q = true → p.residence = .spilled → Completes (.spillLoadComplete q .verified) s fun own =>
        own.lasting = s.lasting ∧ ∃ x, own.qp q = some x ∧ x.serviceLoaded = true ∧ x.loading = false ∧
          x.residence = .spilled) ∧
      (s.readOver q = true → p.residence = .migrating → Completes (.spillLoadComplete q .verified) s fun own =>
        own.lasting = s.lasting ∧ own.qp q = some { p with loading := false } ∧
        own.plc.moves = s.plc.moves.map fun m => if m.1 = q then (m.1, m.2.1, true) else m) ∧
      (s.readOver q = true → Completes (.spillLoadComplete q .rejected) s fun own =>
        own.lasting = s.lasting ∧ own.qp q = none ∧ own.plc.spillFail = satInc s.plc.spillFail ∧ (642, faultPlain) ∈ own.fc.asserted) ∧
      (∀ c, Completes (.spillLoadComplete q (.translationFault c)) s fun own =>
        own.kept = s.kept ∧ own.qps = s.qps ∧ own.plc.spillFail = satInc s.plc.spillFail ∧ q ∈ own.plc.retry) ∧
      Completes (.spillLoadComplete q .hostError) s fun own =>
        own.kept = s.kept ∧ own.qps = s.qps ∧ own.plc.spillFail = satInc s.plc.spillFail ∧ q ∈ own.plc.retry ∧
        (704, faultPlain) ∈ own.fc.asserted) ∧
    (∀ r, p.record = some r → p.serviceLoaded = true → s.spillOpen = true → s.moving q = false → s.quiescent q p = true →
      Completes (.spillWriteBack q) s fun own =>
        own.qp q = some { p with serviceLoaded := false } ∧ own.kept = s.kept ∧
        tgetD own.plc.writeCounts r 0 = tgetD s.plc.writeCounts r 0 + 1 ∧
        ∃ i ∈ own.hostq, i.fn = 0 ∧ ∃ d, d.length = 512 ∧
          i.kind = .write (s.prov.spillBase.toNat + 512 * r) d true none .spill q none) ∧
    (∀ node vc f sl, tget s.tp.tx (flowKey node vc) = some f → f.hold = some sl → f.unacked = [] →
      Completes (.flowletBoundary node vc) s fun own =>
        own.lasting = s.lasting ∧ own.plc.slvMove = s.plc.slvMove + 1 ∧
        ∃ g, tget own.tp.tx (flowKey node vc) = some g ∧ g.sleeve = sl ∧ g.hold = none)

/-- R385, R387 to R390, R392, R395, R400, R412: a domain goes down one state at a time, where no floor lies above the target;
a refused attempt at Sleep or Deep Sleep is counted and recorded with the lowest client; an entry completes, and a wake noted
during it follows; a wake takes the domain to Run, its PLL locked; CLR_HIST clears the refusals. -/
def Obligations.PowerDomains : Prop :=
  ∀ (d : Domain) (s : State), s.pwr.doms.length = 11 →
    let x := s.dom d
    let only := fun (y : Dom) (own : State) => own.dom d = y ∧ (∀ e, e ≠ d → own.dom e = s.dom e) ∧ own.qps = s.qps ∧
      own.prov = s.prov ∧ own.fns = s.fns
    (∀ target c, (target, c) ∈ [(PwrState.idle, Instr.domainIdleAttempt d), (.sleep, .domainSleepAttempt d),
        (.deepSleep, .domainDeepSleepAttempt d)] →
      d ≠ .aon → x.state = target.above → x.entering = none → x.waking = false →
      (s.refusers d target = [] → Completes c s fun own => only { x with entering := some target, wakeNoted := false } own ∧
        own.pwr.hist = s.pwr.hist ∧ (d = .blt → target = .idle → own.belt.bypassOpen = false)) ∧
      (∀ k r, s.refusers d target = k :: r → target ≠ .idle → Completes c s fun own =>
        only { x with refuse := satInc x.refuse } own ∧ own.pwr.lastValid = true ∧
        own.pwr.lastDomain = BitVec.ofNat 4 d.num ∧ own.pwr.lastClient = BitVec.ofNat 4 k ∧
        own.pwr.hist.head? = some { time := s.clk.timebase, target := BitVec.ofNat 8 (pwrCode target),
                                    domain := BitVec.ofNat 8 d.num, client := BitVec.ofNat 8 k }) ∧
      (∀ k r, s.refusers d target = k :: r → target = .idle → exec c s = .next (s.after s))) ∧
    (∀ t, x.entering = some t → Completes (.domainEntryComplete d) s fun own =>
      only { x with state := t, entering := none, waking := x.wakeNoted, wakeNoted := false } own) ∧
    (x.entering = none → exec (.domainEntryComplete d) s = .next (s.after s)) ∧
    (x.entering = none → x.state ≠ .run → x.state ≠ .off → Completes (.domainWake d) s fun own =>
      only { x with waking := true } own ∧ own.pwr.wakeSrc = 0x04) ∧
    (x.entering ≠ none → Completes (.domainWake d) s fun own => only { x with wakeNoted := true } own ∧ own.pwr.wakeSrc = 0x04) ∧
    (x.entering = none → x.state = .run ∨ x.state = .off → exec (.domainWake d) s = .next (s.after s)) ∧
    (x.waking = true → Completes (.wakeComplete d) s fun own =>
      own.dom d = { x with state := .run, waking := false } ∧ (∀ e, e ≠ d → own.dom e = s.dom e) ∧ own.qps = s.qps ∧
      own.prov = s.prov ∧ (s.clk.srefOk = true → x.state ≠ .idle → ∀ n, domainPll d = some n →
        own.clk.pllLock = s.clk.pllLock ||| BitVec.ofNat 8 (2 ^ n))) ∧
    (x.waking = false → exec (.wakeComplete d) s = .next (s.after s)) ∧
    (s.regServed 0 = true → Completes .pwrCtrlClrHist s fun own =>
      own.pwr = { s.pwr with doms := s.pwr.doms.map (fun y => { y with refuse := 0 }),
                             lastValid := false, lastDomain := 0, lastClient := 0, hist := [] } ∧
      own.qps = s.qps ∧ own.prov = s.prov)

/-! ## Packets from the fabric -/

/-- R304, R309, R312: a packet on a Sleeve that is not UP, a malformed one, one of another epoch of this node, one of an older
epoch of its sender, one of an unknown flow, one ahead of its turn and a duplicate are discarded and counted; none of them
stages, changes a window or touches a QP. -/
def Obligations.PacketsDiscarded : Prop :=
  ∀ (sl : Sleeve) (p : Packet) (s : State), ∀ c ∈ packetRows sl p,
    let nothing := fun (own : State) => own.qps = s.qps ∧ own.units = s.units ∧ own.win = s.win ∧ own.lasting = s.lasting
    (s.slvUp sl = false → exec c s = .next (s.after s)) ∧
    (s.slvUp sl = true → packetOk p s.tp.node = false → Completes c s fun own =>
      nothing own ∧ own.tp.malformed = satInc s.tp.malformed ∧ own.out = s.out) ∧
    (s.slvUp sl = true → packetOk p s.tp.node = true →
      (p.dstEpoch ≠ s.tp.epoch ∨ s.epochOlder p.src p.srcEpoch = true) → Completes c s fun own =>
        nothing own ∧ own.tp.stale = satInc s.tp.stale ∧ own.tp.rx = s.tp.rx) ∧
    (s.slvUp sl = true → packetOk p s.tp.node = true → p.dstEpoch = s.tp.epoch →
      tget s.tp.known p.src = some p.srcEpoch → p.kind ≠ 0x09 →
      (tget s.tp.rx p.rxFlow = none → Completes c s fun own =>
        nothing own ∧ own.tp.noState = satInc s.tp.noState ∧ tget own.tp.rx p.rxFlow = none) ∧
      ∀ r, tget s.tp.rx p.rxFlow = some r → p.seq ≠ r.expect →
        ((p.seq - r.expect).toNat < 2 ^ 23 → Completes c s fun own => nothing own ∧ own.tp.ahead = s.tp.ahead + 1 ∧
          (tget own.tp.rx p.rxFlow).map (·.expect) = some r.expect) ∧
        (¬(p.seq - r.expect).toNat < 2 ^ 23 → Completes c s fun own => nothing own ∧ own.tp.dup = s.tp.dup + 1 ∧
          (tget own.tp.rx p.rxFlow).map (·.expect) = some r.expect))

/-- R208, R210, R313: an expected WRITE is checked against the open windows; one that fails is counted and refused,
without a unit; one that passes is staged with its data for the window's host address, uncommitted. R208, R211, R216,
R219, R313: an expected READ outside the windows or against their rules is answered with its status; one of up to 4 KiB
reads host memory for one response; a longer one takes a slot, or is answered RETRY where there is none. -/
def Obligations.InboundAccesses : Prop :=
  (∀ (sl : Sleeve) (p : Packet) (r : RxFlow) (s : State), Expected sl p r s → p.kind = 0x01 →
     (s.iwinAt p.offset.toNat = none → Completes (.writePkt sl p) s fun own =>
       own.win = { s.win with noWin := satInc s.win.noWin } ∧ own.qps = s.qps ∧ own.units = s.units ∧
       RefusedIn p r 0x01 own) ∧
     (∀ w x, s.iwinAt p.offset.toNat = some (w, x) →
       let st := s.inStatus x p p.offset.toNat p.len true
       (st ≠ 0 → Completes (.writePkt sl p) s fun own =>
         own.win = { s.win with iwins := tmod s.win.iwins w fun x => { x with deny := satInc x.deny } } ∧ own.qps = s.qps ∧
         own.units = s.units ∧ RefusedIn p r (BitVec.ofNat 8 st) own) ∧
       (st = 0 → Completes (.writePkt sl p) s fun own =>
         CountedIn sl p s own ∧ own.qps = s.qps ∧
         (∃ y, tget own.tp.rx p.rxFlow = some y ∧ y.expect = r.expect + 1 ∧ { seq := p.seq, status := none, sleeve := sl } ∈ y.waiting) ∧
         ∃ u, tget own.units s.nextUnit = some u ∧ u.kind = .inWrite ∧ u.fn = x.owner ∧ u.obj = w ∧
           u.addr = x.iova + (p.offset.toNat - x.foff) ∧ u.len = p.len ∧ u.landed = p.len ∧ u.data = p.payload ∧
           u.committed = false ∧ u.pkt = some p ∧ u.rule = x.rule ∧
           (s.atsOn x.owner = true → u.xlated = false ∧ ∃ v ∈ own.waits, v.role = .translation ∧ v.xunit = s.nextUnit ∧
             v.addr = u.addr ∧ v.len = p.len)))) ∧
  (∀ (sl : Sleeve) (p : Packet) (r : RxFlow) (s : State), Expected sl p r s → p.kind = 0x02 →
     let len := beNat (p.payload.take 4)
     let answered := fun (st : Nat) (own : State) => own.Sends p.src p.vc.toNat fun a =>
       a.kind = 0x03 ∧ a.len = 0 ∧ a.tag.toNat = p.seq.toNat ∧ a.status = BitVec.ofNat 8 st ∧ a.offset = p.offset
     (s.iwinAt p.offset.toNat = none → Completes (.readPkt sl p) s fun own =>
       own.win = { s.win with noWin := satInc s.win.noWin } ∧ own.qps = s.qps ∧ answered 0x01 own) ∧
     (∀ w x, s.iwinAt p.offset.toNat = some (w, x) →
       let st := s.inStatus x p p.offset.toNat len false
       let host := x.iova + (p.offset.toNat - x.foff)
       (st ≠ 0 → Completes (.readPkt sl p) s fun own =>
         own.win = { s.win with iwins := tmod s.win.iwins w fun x => { x with deny := satInc x.deny } } ∧ own.qps = s.qps ∧
         answered st own) ∧
       (st = 0 → len ≤ 4096 → Completes (.readPkt sl p) s fun own =>
         own.qps = s.qps ∧ CountedIn sl p s own ∧ own.win.slots = s.win.slots ∧
         (∃ u, tget own.units s.nextUnit = some u ∧ u.kind = .readRsp ∧ u.fn = x.owner ∧ u.obj = w ∧ u.addr = host ∧
           u.len = len ∧ u.landed = 0 ∧ u.pkt = some (mkPacket 0x03 p.src p.vc.toNat len p.seq.toNat p.offset.toNat)) ∧
         ∀ h ∈ hostReads (laneRuns x.rule host len) (s.mrrs x.owner), ∃ v ∈ own.waits, v.role = .inbound ∧ v.fn = x.owner ∧
           v.xunit = s.nextUnit ∧ v.off = h.1 ∧ v.addr = h.2.1 ∧ v.len = h.2.2) ∧
       (st = 0 → 4096 < len → s.slotRoom sl w x len = true → s.prefetched w p.src p.offset.toNat = none →
         Completes (.readPkt sl p) s fun own =>
           own.qps = s.qps ∧ CountedIn sl p s own ∧
           (∃ d, tget own.win.slots (smallestFree (tkeys s.win.slots)) = some d ∧ d.win = w ∧ d.node = p.src ∧
             d.off = p.offset.toNat ∧ d.len = len ∧ d.ready = false ∧ d.landed = 0 ∧ d.collected = [] ∧ d.lead = (rawSpan x.rule p.offset.toNat len).1 ∧
               d.data.length = (rawSpan x.rule p.offset.toNat len).2) ∧
           ∀ h ∈ hostReads [(0, host - (rawSpan x.rule p.offset.toNat len).1, (rawSpan x.rule p.offset.toNat len).2)] (s.mrrs x.owner),
             ∃ v ∈ own.waits, v.role = .delayed ∧
             v.obj = smallestFree (tkeys s.win.slots) ∧ v.addr = h.2.1 ∧ v.len = h.2.2) ∧
       (st = 0 → 4096 < len → s.slotRoom sl w x len = false → Completes (.readPkt sl p) s fun own =>
         own.qps = s.qps ∧ own.win.slots = s.win.slots ∧ answered 0x06 own)))

/-- R216 to R219: a delayed read whose last byte has landed is ready and says so; a COLLECT of a ready slot's own node
gets the bytes it names, and the slot is free once all are collected; an unknown handle, another node's or a range beyond
the read gets STALE; a ready slot or prefetched bytes left alone are discarded and counted. R205: START of a flush takes a
flush point behind the writes accepted so far and shows the failures since the last; without such writes it is over at
once. The Y7 takes no START while a posted write waits at the host port (R201; log entry 69). -/
def Obligations.DelayedReadsAndFlush : Prop :=
  (∀ (h : Nat) (d : DrSlot) (s : State), tget s.win.slots h = some d →
     (d.ready = false → d.data.length ≤ d.landed → Completes (.delayedReadDataLanded h) s fun own =>
       (tget own.win.slots h).map (·.ready) = some true ∧ own.qps = s.qps ∧ own.lasting = s.lasting ∧
       own.Sends d.node d.vc fun a => a.kind = 0x04 ∧ a.status = 0 ∧ a.tag.toNat = d.seq.toNat ∧
         a.offset = BitVec.ofNat 64 (h <<< 48 ||| d.len)) ∧
     ((d.ready = true ∨ d.landed < d.data.length) → exec (.delayedReadDataLanded h) s = .next (s.after s)) ∧
     (d.ready = true → Completes (.delayedReadDiscard h) s fun own =>
       tget own.win.slots h = none ∧ own.win.drDiscardCnt = s.win.drDiscardCnt + 1 ∧ own.lasting = s.lasting ∧
       ∀ k, k ≠ h → tget own.win.slots k = tget s.win.slots k) ∧
     (d.ready = false → exec (.delayedReadDiscard h) s = .next (s.after s)) ∧
     (∀ w node, Completes (.prefetchDiscard w node) s fun own =>
       (∀ f ∈ own.win.prefetch, ¬(f.win = w ∧ f.node = node ∧ f.landed = f.data.length)) ∧
       (∀ f ∈ s.win.prefetch, ¬(f.win = w ∧ f.node = node ∧ f.landed = f.data.length) → f ∈ own.win.prefetch) ∧
       own.win.slots = s.win.slots ∧ own.qps = s.qps ∧ own.lasting = s.lasting) ∧
     (∀ sl p r x, Expected sl p r s → p.kind = 0x05 → p.handle = h → tget s.win.iwins d.win = some x →
       let off := bits p.offset.toNat 47 16
       let len := bits p.offset.toNat 15 0
       ((d.ready = false ∨ d.node ≠ p.src ∨ d.len < off + len) → Completes (.collectPkt sl p) s fun own =>
         own.win = s.win ∧ own.units = s.units ∧ own.qps = s.qps ∧
         own.Sends p.src p.vc.toNat fun a => a.kind = 0x06 ∧ a.len = 0 ∧ a.status = 0x07) ∧
       (d.ready = true → d.node = p.src → off + len ≤ d.len →
         let st := s.inStatus x p (d.off + off) len false
         let bad := if 4096 < len ∧ (st = 0 ∨ st = 0x05) then 0x08 else st
         bad ≠ 0 → Completes (.collectPkt sl p) s fun own =>
           own.win = { s.win with iwins := tmod s.win.iwins d.win fun x => { x with deny := satInc x.deny } } ∧
           own.units = s.units ∧ own.qps = s.qps ∧
           own.Sends p.src p.vc.toNat fun a => a.kind = 0x06 ∧ a.len = 0 ∧ a.status = BitVec.ofNat 8 bad) ∧
       (d.ready = true → d.node = p.src → off + len ≤ d.len → 1 ≤ len → len ≤ 4096 →
         s.inStatus x p (d.off + off) len false = 0 → Completes (.collectPkt sl p) s fun own =>
           CountedIn sl p s own ∧
           (len ≤ 64 → own.Sends d.node d.vc fun a => a.kind = 0x06 ∧ a.len = len ∧ a.status = 0 ∧
             a.payload = d.collect x.rule off len ∧ a.offset = BitVec.ofNat 64 (h <<< 48 ||| off <<< 16 ||| len)) ∧
           (64 < len → ∃ u, tget own.units s.nextUnit = some u ∧ u.kind = .collectRsp ∧ u.len = len ∧ u.landed = len ∧
             u.data = d.collect x.rule off len) ∧
           (let got := d.collected ++ [(off, len)]
            tget own.win.slots h = if coversN (got.length + 1) got 0 d.len then none else some { d with collected := got })))) ∧
  (∀ (fn a : Nat) (x : Apt) (s : State), tget s.win.apts a = some x → s.bar2Gate fn = .served →
     (x.owner = fn → x.state = .opened → s.postedHeld = false → s.link.state ≠ .down →
       Completes (.winFlushStart fn a) s fun own => tget own.win.apts a = some { x with
         flushPending := s.aptCovered a s.nextUnit, flushAt := s.nextUnit, failsOpen := 0,
         flushFailed := satOfNat 16 ((if x.flushPending then x.flushFailed.toNat else 0) + x.failsOpen) } ∧
       (∀ b, b ≠ a → tget own.win.apts b = tget s.win.apts b) ∧ own.units = s.units ∧ own.qps = s.qps ∧ own.lasting = s.lasting) ∧
     ((x.owner ≠ fn ∨ x.state ≠ .opened ∨ s.postedHeld = true ∨ s.link.state = .down) → Completes (.winFlushStart fn a) s fun own => own.win = s.win ∧ own.lasting = s.lasting))

/-- R176, R204, R209, R313, R316: a READ_RSP ends the wait for it: with data it stages a GET's unit for the descriptor's buffer
and answers an aperture's read; with a status it puts the QP into ERROR, or aborts the read; one that nothing awaits, and
READ_READY and COLLECT_RSP, are late. -/
def Obligations.Responses : Prop :=
  ∀ (sl : Sleeve) (p : Packet) (r : RxFlow) (s : State), Expected sl p r s →
    let late := fun (own : State) => own.tp.late = satInc s.tp.late ∧ own.qps = s.qps ∧ own.win.slots = s.win.slots ∧
      own.win.reads = s.win.reads ∧ CountedIn sl p s own
    (p.kind = 0x04 → Completes (.readReady sl p) s late) ∧
    (p.kind = 0x06 → Completes (.collectRsp sl p) s late) ∧
    (p.kind = 0x03 →
      let awaited := s.tp.awaits.find? fun a => a.node == p.src && a.vc == p.vc.toNat && a.seq == BitVec.ofNat 24 p.tag.toNat
      (awaited = none → Completes (.readRsp sl p) s late) ∧
      (∀ a q i no x d, awaited = some a → a.owner = .get q i no → s.qp q = some x → x.desc? i = some d → d.status = none →
        (p.status = 0 → Completes (.readRsp sl p) s fun own =>
          own.tp.awaits = s.tp.awaits.erase a ∧ own.qps = s.qps ∧ CountedIn sl p s own ∧
          ∃ u, tget own.units s.nextUnit = some u ∧ u.kind = .getData ∧ u.fn = x.fn ∧ u.obj = q ∧ u.sqi = d.sqi ∧
            u.unitNo = no ∧ u.addr = d.iova + d.unitAt no ∧ u.data = fit a.len p.payload ∧ u.landed = a.len) ∧
        (p.status ≠ 0 → (x.state = .active ∨ x.state = .stopped) → Completes (.readRsp sl p) s fun own =>
          own.tp.awaits = s.tp.awaits.erase a ∧ CountedIn sl p s own ∧
          ∃ y, own.qp q = some y ∧ y.state = .error ∧ y.cause = csOfInbound p.status.toNat)) ∧
      (∀ a id no y, awaited = some a → a.owner = .aptRead id no → tget s.win.reads id = some y →
        (p.status ≠ 0 → Completes (.readRsp sl p) s fun own =>
          tget own.win.reads id = none ∧ own.Replied y.fn .ca [] ∧ own.qps = s.qps) ∧
        (p.status = 0 → y.pieces.length = 1 → no = 0 → Completes (.readRsp sl p) s fun own =>
          tget own.win.reads id = none ∧ own.qps = s.qps ∧ CountedIn sl p s own ∧
          own.Replied y.fn .sc (y.bytes (fit a.len p.payload)))))

/-- R178, R179, R314, R351, R421: a SEND for no QP, one that a refusal covers, without a window that admits its tag, without a
RECV, or longer than the RECV is refused, and so is what follows of it and, at a QP that exists, of its source QP; a matched
unit is staged for the RECV's buffer; a spilled QP's waits; RESET_MARK ends the refusals of its source QP. -/
def Obligations.Messages : Prop :=
  ∀ (sl : Sleeve) (p : Packet) (r : RxFlow) (s : State), Expected sl p r s →
    let record := fun (st : Byte) (lasting : Bool) =>
      ({ target := p.sendTo, node := p.src, from_ := sendFrom p, status := st, lasting := lasting } : SendRefusal)
    (p.kind = 0x07 → s.qp p.sendTo = none → Completes (.sendPacket sl p) s fun own =>
      own.qps = s.qps ∧ own.units = s.units ∧ own.win = s.win ∧ RefusedIn p r 0x02 own ∧
      (p.last = false → record 0x02 false ∈ own.tp.refusing)) ∧
    (∀ x, p.kind = 0x07 → s.qp p.sendTo = some x →
      let held := s.qpAway p.sendTo x || s.tp.held.any fun h => h.1 == p.sendTo
      let src := sendFrom p * 8 + p.vc.toNat
      let turned := fun (st : Byte) (own : State) => RefusedIn p r st own ∧ own.win = s.win ∧ own.units = s.units ∧
        record st true ∈ own.tp.refusing ∧ ∃ y, own.qp p.sendTo = some y ∧ y.descs = x.descs ∧ y.state = x.state
      (held = true → Completes (.sendPacket sl p) s fun own => (p.sendTo, false, p) ∈ own.tp.held ∧ own.units = s.units ∧
        own.win = s.win) ∧
      (∀ st, held = false → s.refusalOf p = some st → Completes (.sendPacket sl p) s (turned (BitVec.ofNat 8 st))) ∧
      (held = false → s.refusalOf p = none →
        ((s.fnReady x.fn = false ∨ s.tagAdmitted x.fn p = false) → Completes (.sendPacket sl p) s (turned 0x02)) ∧
        (s.fnReady x.fn = true → s.tagAdmitted x.fn p = true →
          (∀ st, x.recvFor p src = .error st → Completes (.sendPacket sl p) s (turned (BitVec.ofNat 8 st))) ∧
          (∀ d total left, x.recvFor p src = .ok (d, total, left) →
            let data := p.sendData.take left
            (data = [] → Completes (.sendPacket sl p) s fun own => own.units = s.units ∧ own.win = s.win ∧
              ∃ y, tget own.tp.rx p.rxFlow = some y ∧ y.expect = r.expect + 1) ∧
            (data ≠ [] → Completes (.sendPacket sl p) s fun own => CountedIn sl p s own ∧ own.win = s.win ∧
              (∃ u, tget own.units s.nextUnit = some u ∧ u.kind = .recvData ∧ u.fn = x.fn ∧ u.obj = p.sendTo ∧
                u.sqi = d.sqi ∧ u.addr = d.iova + d.unitAt d.units.length ∧ u.data = data ∧ u.committed = false) ∧
              ∃ y e, own.qp p.sendTo = some y ∧ y.desc? d.sqi = some e ∧
                e.matched = some (p.src, src, total, left - data.length) ∧ e.immValid = p.last ∧
                (p.last = true → 8 ≤ p.len → e.data = BitVec.ofNat 64 (leNat (p.payload.drop (p.len - 8))))))))) ∧
    (p.kind = 0x08 → (s.win.iwins.any fun w => s.tagAdmitted w.2.owner p) = true → Completes (.resetMark sl p) s fun own =>
      own.units = s.units ∧ own.win = s.win ∧ own.qps = s.qps ∧
      own.tp.refusing = s.tp.refusing.filter fun k => !(k.node == p.src && k.from_ == sendFrom p)) ∧
    (p.kind = 0x08 → (s.win.iwins.any fun w => s.tagAdmitted w.2.owner p) = false → Completes (.resetMark sl p) s fun own =>
      own.qps = s.qps ∧ own.win = s.win ∧ own.tp.refusing = s.tp.refusing ∧ RefusedIn p r 0x02 own)

/-- R222 to R225, R312: a status frame of a known epoch awaits the Stitch engine, and is dropped and counted with 64
waiting; the engine unpacks it at the end of the command while DP is in Run: a frame that no entry takes leaves the map as
it is, the one entry that takes it gets the scaled field, or is passed over where the field lies beyond the body. R148,
R227 to R229, R341: in operation an output frame leaves on an UP Sleeve, without window or sequence; a sensor entry left
without update is no longer fresh; a refresh gives each selected record the function's figures and starts the latency
samples again. -/
def Obligations.StatusFramesAndTelemetry : Prop :=
  (∀ (sl : Sleeve) (p : Packet) (s : State), s.slvUp sl = true → packetOk p s.tp.node = true →
     p.dstEpoch = s.tp.epoch → tget s.tp.known p.src = some p.srcEpoch → p.kind = 0x09 →
     let hits := s.sti.map.filter fun e => e.2.matches_ p.src (beAt 0 2 p.payload)
     let len := min (beAt 2 2 p.payload) (p.payload.length - 4)
     let out := s.stitchFrame p.src p.payload
     (s.sti.awaiting.length < 64 → Completes (.statusFrame sl p) s fun own =>
       own.sti = { s.sti with awaiting := s.sti.awaiting ++ [(p.src, p.payload)] } ∧ own.qps = s.qps ∧
       own.win = s.win ∧ own.units = s.units ∧ own.tp = s.tp) ∧
     (64 ≤ s.sti.awaiting.length → Completes (.statusFrame sl p) s fun own =>
       own.tp = { s.tp with frameDrop := satInc s.tp.frameDrop } ∧ own.sti = s.sti ∧ own.qps = s.qps ∧ own.win = s.win ∧
       own.units = s.units) ∧
     (s.sti.awaiting = [] → (s.dom .dp).state = .run → Answers (.statusFrame sl p) s fun t =>
       t.sti.awaiting = [] ∧ t.sti.map = out.sti.map) ∧
     (hits = [] → out = { s with sti := { s.sti with frames := s.sti.frames + 1, unmatched := s.sti.unmatched + 1 } }) ∧
     (∀ n e, hits = [(n, e)] → tget s.sti.map n = some e →
       (8 * len < e.srcBit + e.srcWidth →
         out = { s with sti := { s.sti with frames := s.sti.frames + 1, fieldErr := satInc s.sti.fieldErr } }) ∧
       (e.srcBit + e.srcWidth ≤ 8 * len →
         let raw := e.raw (beNat (slice 4 len p.payload) >>> (8 * len - e.srcBit - e.srcWidth))
         out.qps = s.qps ∧ out.win = s.win ∧ out.units = s.units ∧ out.sti.frames = s.sti.frames + 1 ∧
         out.sti.unmatched = s.sti.unmatched ∧ out.sti.fieldErr = s.sti.fieldErr ∧
         out.sti.sat = (if (e.result raw).2 then satInc s.sti.sat else s.sti.sat) ∧
         (∃ x, tget out.sti.map n = some x ∧ x.lastIn = BitVec.ofInt 64 raw ∧ x.lastOut = BitVec.ofInt 64 (e.result raw).1 ∧
           x.updates = e.updates + 1 ∧ x.fresh = true) ∧
         ∀ k, k ≠ n → (e.kind = 0x03 → k ≠ e.dst) → tget out.sti.map k = tget s.sti.map k))) ∧
  (∀ (s : State),
     (∀ n e, s.boot.mode = .oper → tget s.sti.map n = some e → e.kind = 0x05 →
       let p := { mkPacket 0x09 e.node e.srcWidth e.frameBytes.length 0 0 with payload := e.frameBytes }
       (∀ sl, s.slvUp sl = true → (sl = .b → s.slvUp .a = false) →
         (s.slvReady sl (packetFlits p.len) = true → s.sti.due = [] → Completes (.stitchOutputFrame n) s fun own =>
           .packet sl (s.fillPacket p 0) ∈ own.out ∧ own.sti = { s.sti with oframes := s.sti.oframes + 1 } ∧
           own.tp = s.tp ∧ own.qps = s.qps) ∧
         (s.slvReady sl (packetFlits ((s.sti.due ++ [p]).head?.map (·.len) |>.getD 0)) = false →
           Completes (.stitchOutputFrame n) s fun own =>
             own.sti = { s.sti with due := s.sti.due ++ [p] } ∧ own.out = s.out ∧ own.tp = s.tp ∧ own.qps = s.qps)) ∧
       (s.slvUp .a = false → s.slvUp .b = false → Completes (.stitchOutputFrame n) s fun own =>
         own.sti = { s.sti with due := [], oframes := s.sti.oframes + BitVec.ofNat _ (s.sti.due.length + 1) } ∧
         own.tp = s.tp ∧ own.qps = s.qps)) ∧
     (∀ n, (s.boot.mode ≠ .oper ∨ (tget s.sti.map n).map (·.kind) ≠ some 0x05) →
       exec (.stitchOutputFrame n) s = .next (s.after s)) ∧
     (∀ n e, tget s.sti.map n = some e → e.kind = 0x01 → Completes (.sensorStale n) s fun own =>
       tget own.sti.map n = some { e with fresh := false } ∧ (∀ k, k ≠ n → tget own.sti.map k = tget s.sti.map k) ∧
       own.qps = s.qps ∧ own.prov = s.prov) ∧
     (∀ fn, s.boot.mode = .oper → s.fnReady fn = true → (s.fn fn).flr = false → (s.fn fn).telemInterval ≠ 0 →
       Completes (.telemetryRefresh fn) s fun own =>
         let f := s.fn fn
         let shows := fun (k : Nat) (a b : W64) => ∃ x, tget (own.fn fn).telem k = some x ∧ x.time = s.clk.timebase ∧
           x.v0 = a ∧ x.v1 = b ∧ x.seq = (match tget f.telem k with | some y => y.seq + 1 | none => 1)
         (bitAt f.telemMask.toNat 0 = true → shows 0 f.bytesOut f.bytesIn) ∧
         (bitAt f.telemMask.toNat 1 = true → shows 1 (BitVec.ofNat 64 (if f.latN = 0 then 0 else f.latSum / f.latN))
           (BitVec.ofNat 64 f.latMax)) ∧
         (bitAt f.telemMask.toNat 2 = true → shows 2 (BitVec.ofNat 64 f.used) (BitVec.ofNat 64 (f.total / fJ))) ∧
         (bitAt f.telemMask.toNat 3 = true → (f.stitched.map (·.1)).Nodup →
           ∀ x ∈ f.stitched, shows (16 + x.1) x.2.1 x.2.2) ∧
         (own.fn fn).latSum = 0 ∧ (own.fn fn).latMax = 0 ∧ (own.fn fn).latN = 0 ∧
         (∀ k, k ≠ fn → own.fn k = s.fn k) ∧ own.qps = s.qps))

/-! ## Sleeves -/

/-- R277 to R281, R291, R294, R322, R434: link-up by its stages: detected training words start TRAIN at the highest rate that
both sides offer, lanes and polarity mapped; TRAIN settles on the widest legal widths of lanes not retired, or the link is
DOWN; its timeout tries the next lower common rate; ALIGN leads to PARAM with a HELLO; HELLO and NODE_ASSIGN are taken in
PARAM, which leads to UP, once our HELLO is acknowledged, with the node fixed; where encryption applies the SPDM session
opens and a KEY SWITCH names a group at least 64 flits ahead; a bound exceeded is DOWN, except under a node mismatch; a DOWN
link that is enabled tries again. -/
def Obligations.SleeveLinkUp : Prop :=
  ∀ (sl : Sleeve) (s : State),
    let v := s.slv sl
    (∀ words, let good := trainWords words
      let enough := 2 ≤ laneCount (laneMask good (·.isSome))
      (v.state = .detect → enough → Completes (.sleeveDetect sl words) s fun own =>
        LinkOnly sl s own ∧ (own.slv sl).state = .train ∧
        (∀ r, r < 3 → (bitAt (own.slv sl).peerRates.toNat r = true ↔
          ∀ x ∈ good, ∀ y, x = some y → bitAt (wordRates y.2).toNat r = true)) ∧
        (own.slv sl).tryRate.toNat = commonRate ((s.rateFreed sl).slvMax sl).toNat (own.slv sl).peerRates ∧
        (own.slv sl).rxMap = good.map (fun x => x.map fun y => wordLane y.2) ∧
        (own.slv sl).rxInv = laneMask good (fun x => (x.map (·.1)).getD false) ∧
        (own.slv sl).retiredRx = (if v.unretire then 0 else v.retiredRx) ∧ (own.slv sl).unretire = false ∧
        Trains sl false own) ∧
      (v.state ≠ .detect ∨ ¬enough → exec (.sleeveDetect sl words) s = .next (s.after s))) ∧
    (∀ t, let rx := widthFor (laneCount (t.rxLocked &&& ~~~v.retiredRx))
      let tx := widthFor (laneCount (t.txLocked &&& ~~~v.retiredTx))
      let fits := v.state = .train ∧ t.rate ≠ 0 ∧ t.rate = v.tryRate ∧ t.rate.toNat ≤ t.best.toNat ∧
        t.best.toNat = commonRate (s.slvMax sl).toNat v.peerRates
      (fits → rx ≠ 0 → tx ≠ 0 → Completes (.trainComplete sl t) s fun own =>
        LinkOnly sl s own ∧ (own.slv sl).state = .align ∧ (own.slv sl).rate = t.rate ∧ (own.slv sl).rxLanes = rx ∧
        (own.slv sl).txLanes = tx ∧ laneCount (own.slv sl).txMask = tx ∧
        ((∀ l, l < 8 → v.peerLane l = l) → laneCount (own.slv sl).rxMask = rx) ∧
        (own.slv sl).rxMask &&& ~~~(t.rxLocked &&& ~~~v.retiredRx) = 0 ∧
        (own.slv sl).txMask &&& ~~~(t.txLocked &&& ~~~v.retiredTx) = 0 ∧ Trains sl false own ∧
        ∀ i c, t.coefs[i]? = some c → tget own.lin.eq (eqKey (sl.num + 1) t.rate.toNat i) = some c) ∧
      (fits → (rx = 0 ∨ tx = 0) → Completes (.trainComplete sl t) s (WentDown sl s)) ∧
      (¬fits → exec (.trainComplete sl t) s = .next (s.after s))) ∧
    (v.state = .train →
      let next := commonRate (v.tryRate.toNat - 1) v.peerRates
      (next ≠ 0 → Completes (.trainTimeout sl) s fun own =>
        LinkOnly sl s own ∧ own.slv sl = { v with tryRate := BitVec.ofNat 2 next } ∧ Trains sl false own) ∧
      (next = 0 → Completes (.trainTimeout sl) s (WentDown sl s))) ∧
    (v.state ≠ .train → exec (.trainTimeout sl) s = .next (s.after s)) ∧
    (v.state = .align → Completes (.alignComplete sl) s fun own =>
      LinkOnly sl s own ∧ (own.slv sl).state = .param ∧ (own.slv sl).expect = 0 ∧ (own.slv sl).oldest = 0 ∧
      (own.slv sl).nextSeq = 1 ∧ (own.slv sl).encOn = false ∧
      own.Said sl (helloMsg v.cap (if s.tp.nodeFixed then s.tp.node else 0))) ∧
    (∀ version cap node depth, v.state = .param → version = 0x01 → Completes (.hello sl version cap node depth) s fun own =>
      LinkOnly sl s own ∧ (own.slv sl).state = .param ∧ (own.slv sl).helloRcvd = true ∧ (own.slv sl).peerCap = cap ∧
      (own.slv sl).peerDepth = depth ∧
      ({ v with peerCap := cap }.encApplies = true → s.anchored sl = true → (bitAt cap.toNat 0 || bitAt cap.toNat 1) = true →
        ∀ m ∈ mgmtMsgs (Config.spdmRequest sl.num (v.session ++ v.sessionUp)), own.Said sl m) ∧
      ({ v with peerCap := cap }.encApplies = false → own.out = s.out ∧ (own.slv sl).bypassQ = v.bypassQ)) ∧
    (∀ version cap node depth, (v.state ≠ .param ∨ version ≠ 0x01) →
      exec (.hello sl version cap node depth) s = .next (s.after s)) ∧
    (∀ node, v.state = .param →
      ((node = 0 ∨ 0xFFFFF ≤ node) → Completes (.nodeAssign sl node) s fun own =>
        WentDown sl s own ∧ (slvSource sl + 12, faultPlain) ∈ own.fc.asserted) ∧
      (node ≠ 0 → node < 0xFFFFF → s.tp.nodeFixed = true → node ≠ s.tp.node → Completes (.nodeAssign sl node) s fun own =>
        LinkOnly sl s own ∧ (own.slv sl).nodeOk = false ∧ (own.slv sl).assigned = node ∧ (own.slv sl).state = .param ∧
        (slvSource sl + 13, faultPlain) ∈ own.fc.asserted) ∧
      (node ≠ 0 → node < 0xFFFFF → (s.tp.nodeFixed = false ∨ node = s.tp.node) →
        exec (.nodeAssign sl node) s = .next (s.after (s.modSlv sl fun v => { v with assigned := node, nodeOk := true })))) ∧
    (∀ node, v.state = .up ∨ v.state = .retrain ∨ v.state = .quiet → s.tp.nodeFixed = true → node ≠ s.tp.node →
      Completes (.nodeAssign sl node) s fun own =>
        LinkOnly sl s own ∧ (own.slv sl).state = v.state ∧ (slvSource sl + 13, faultPlain) ∈ own.fc.asserted) ∧
    (let ready := v.state = .param ∧ v.helloAcked = true ∧ v.helloRcvd = true ∧ v.nodeOk = true ∧ s.encMet sl = true
     (ready → Completes (.paramComplete sl) s fun own =>
      (own.slv sl).state = .up ∧ own.tp.nodeFixed = true ∧
      own.tp.node = (if s.tp.nodeFixed then s.tp.node else v.assigned) ∧
      (v.encApplies = true → (own.slv sl).encOn = true ∧ (own.slv sl).keysIn = true ∧
        own.Said sl (keyMsg 0 ((v.nextSeq.toNat + 127) / 64 * 64 - v.nextSeq.toNat))) ∧
      own.Said sl (epochBody own.tp.node s.tp.epoch.toNat) ∧ own.tp.epoch = s.tp.epoch ∧ own.tp.rx = s.tp.rx ∧
      own.qps = s.qps ∧ own.win = s.win ∧ own.lasting = s.lasting) ∧
     (¬ready → exec (.paramComplete sl) s = .next (s.after s))) ∧
    ((v.state = .align ∨ (v.state = .param ∧ s.nodeMismatch sl = false)) →
      Completes (.stageBoundExpiry sl) s (WentDown sl s)) ∧
    (v.state ≠ .align → (v.state ≠ .param ∨ s.nodeMismatch sl = true) →
      exec (.stageBoundExpiry sl) s = .next (s.after s)) ∧
    (v.state = .down → v.enable = true → Completes (.downRetry sl) s fun own =>
      LinkOnly sl s own ∧ own.slv sl = { v with state := .detect, tryRate := 1 } ∧ Trains sl false own) ∧
    ((v.state ≠ .down ∨ v.enable = false) → exec (.downRetry sl) s = .next (s.after s))

/-- R270 to R276, R282 to R288, R291, R294 to R296: a flit that fails its check sets NAK-pending, is counted, and is answered;
corrected symbols count; a good header moves the acknowledgement, and a new NAK edge replays; a good sequenced flit moves the
expected sequence, and its message and packet are taken, or it waits for its group's tag; FRAY and LINK_DOWN in an IDLE flit
end the link; a reserved field or an impossible acknowledgement is a protocol error; the replay timer replays, and after three
a retrain follows; loss of lock or of flits, LINK_DOWN and FRAY end in a retrain or DOWN. -/
def Obligations.SleeveFlits : Prop :=
  ∀ (sl : Sleeve) (s : State),
    let v := s.slv sl
    let live := v.state = .param ∨ v.state = .up
    (∀ bad corr raw, live →
      let b := fit 256 raw
      let h := beAt 0 4 b
      let kind := bits h 18 15
      let a := BitVec.ofNat 12 (bits h 31 20)
      let nak := bitAt h 19
      let body := slice 4 16 b
      let payload := slice 20 224 b
      let fails := bad = true ∨ beAt 248 8 b ≠ crc64 (b.take 248) v.expect.toNat
      let headed := fun (t : State) => (t.slv sl).oldest = a + 1 ∧ (t.slv sl).lastNak = nak ∧ (t.slv sl).lastAck = a ∧
        (t.slv sl).state = v.state ∧ t.qps = s.qps ∧ t.prov = s.prov ∧ t.boot = s.boot ∧
        (nak = true → (v.lastNak = false ∨ v.lastAck ≠ a) → .replay sl (a + 1) ∈ t.out ∧ (t.slv sl).nakRcvd = v.nakRcvd + 1)
      (fails → Completes (.flitReceive sl ⟨bad, corr⟩ raw) s fun own =>
        LinkOnly sl s own ∧ (own.slv sl).nakPending = true ∧ (own.slv sl).expect = v.expect ∧
        (own.slv sl).oldest = v.oldest ∧ (own.slv sl).state = v.state ∧
        (own.slv sl).nakSent = (if v.nakPending then v.nakSent else v.nakSent + 1) ∧
        (own.slv sl).fecUncorr = (if bad then v.fecUncorr + 1 else v.fecUncorr) ∧
        (own.slv sl).seqMismatch = (if bad then v.seqMismatch else satInc v.seqMismatch) ∧
        (own.slv sl).fecCorr = v.fecCorr + BitVec.ofNat 64 (corr.take 8).sum ∧
        (v.nakPending = false → .flit sl ((own.slv sl).idleFlit (zeros 16)) ∈ own.out)) ∧
      (¬fails → flitReserved h kind b = true ∨ v.ackValid a = false → Completes (.flitReceive sl ⟨bad, corr⟩ raw) s fun own =>
        WentDown sl s own ∧ (slvSource sl + 12, faultPlain) ∈ own.fc.asserted) ∧
      (¬fails → flitReserved h kind b = false → v.ackValid a = true →
        (kind = 0 → beAt 0 1 body ≠ 5 → beAt 0 1 body ≠ 6 → Completes (.flitReceive sl ⟨bad, corr⟩ raw) s fun own =>
          headed own ∧ (own.slv sl).expect = v.expect ∧ (own.slv sl).nakPending = false) ∧
        (kind = 0 → beAt 0 1 body = 5 ∨ beAt 0 1 body = 6 → Completes (.flitReceive sl ⟨bad, corr⟩ raw) s fun own =>
          (own.slv sl).state = (if v.enable then .down else .disabled) ∧ own.qps = s.qps ∧ own.prov = s.prov) ∧
        (kind ≠ 0 → v.tagDue = false → v.rxKeyed.rxOn = false → Completes (.flitReceive sl ⟨bad, corr⟩ raw) s fun own =>
          ∃ t : State, headed t ∧ (t.slv sl).expect = v.expect + 1 ∧ (t.slv sl).nakPending = false ∧
            (t.slv sl).accepted = true ∧
            own = { (t.bypassIn sl body).payloadIn sl kind payload with out := own.out }) ∧
        (kind ≠ 0 → v.tagDue = false → v.rxKeyed.rxOn = true → Completes (.flitReceive sl ⟨bad, corr⟩ raw) s fun own =>
          headed own ∧ (own.slv sl).expect = v.expect + 1 ∧ (own.slv sl).rxGroup = v.rxGroup ++ [b] ∧
          (own.slv sl).rxPkt = v.rxPkt))) ∧
    (∀ bad corr raw, ¬live → exec (.flitReceive sl ⟨bad, corr⟩ raw) s = .next (s.after s)) ∧
    (∀ part d, v.rxPkt = part → s.payloadIn sl 1 d = s ∧ (s.payloadIn sl 2 d).slv sl = { v with rxPkt := some d } ∧
      (s.payloadIn sl 3 d).slv sl = { v with rxPkt := part.map (· ++ d) } ∧
      s.payloadIn sl 5 d = (s.modSlv sl fun v => { v with rxPkt := none }).receive sl (parsePacket d) ∧
      (∀ b, part = some b → s.payloadIn sl 4 d = (s.modSlv sl fun v => { v with rxPkt := none }).receive sl (parsePacket (b ++ d))) ∧
      (part = none → s.payloadIn sl 4 d = s)) ∧
    (live → v.outstanding ≠ 0 → v.timerReplays < 3 → Completes (.replayTimer sl) s fun own =>
      LinkOnly sl s own ∧ .replay sl v.oldest ∈ own.out ∧ (∀ f ∈ v.buffer, .flit sl (v.wire f) ∈ own.out) ∧
      (own.slv sl).tmrReplay = v.tmrReplay + 1 ∧ (own.slv sl).timerReplays = v.timerReplays + 1 ∧
      (own.slv sl).oldest = v.oldest) ∧
    (live → v.outstanding ≠ 0 → 3 ≤ v.timerReplays → Completes (.replayTimer sl) s (Retrains sl s)) ∧
    ((¬live ∨ v.outstanding = 0) → exec (.replayTimer sl) s = .next (s.after s)) ∧
    (live → Completes (.noValidFlit sl) s fun own => WentDown sl s own ∧
      (v.rate ≠ 0 → .idleMsg sl (linkDownMsg 0x02) ∈ own.out)) ∧
    (¬live → exec (.noValidFlit sl) s = .next (s.after s)) ∧
    (∀ a, live ∨ v.state = .quiet ∨ v.state = .retrain → Completes (.trainingWordRetrain sl a) s fun own =>
      (own.slv sl).state = .retrain ∧ (v.ackValid a = true → (own.slv sl).oldest = a + 1) ∧
      (own.slv sl).retrainCnt = (if v.state = .retrain then v.retrainCnt else satInc v.retrainCnt) ∧
      own.qps = s.qps ∧ own.win = s.win ∧ own.prov = s.prov) ∧
    (∀ lane, live → v.rxActive lane = true → Completes (.rxLockLoss sl lane) s (Retrains sl s)) ∧
    (∀ lane, (¬live ∨ v.rxActive lane = false) → exec (.rxLockLoss sl lane) s = .next (s.after s)) ∧
    (∀ lane, lane < 8 → bitAt v.retiredRx.toNat lane = false → v.state = .retrain →
      Completes (.retrainLaneTimeout sl lane) s fun own =>
        LinkOnly sl s own ∧ (own.slv sl).retiredRx = v.retiredRx ||| BitVec.ofNat 8 (2 ^ lane) ∧
        (own.slv sl).state = .retrain ∧ own.lin.today.retired = s.lin.today.retired + 1 ∧ Trains sl true own) ∧
    (∀ t, v.state = .retrain → t.rate ≠ 0 → t.rate.toNat ≤ t.best.toNat →
      t.best.toNat = commonRate (s.slvMax sl).toNat v.peerRates →
      let w := v.trained t
      (w.rxLanes ≠ 0 → w.txLanes ≠ 0 → Completes (.retrainComplete sl t) s fun own =>
        (own.slv sl).state = (if v.inParam then .param else .up) ∧ (own.slv sl).rxLanes = w.rxLanes ∧
        ((∀ m ∈ v.bypassQ, m.headD 0 ≠ 0x03) → (own.slv sl).txLanes = w.txLanes) ∧ (own.slv sl).rate = t.rate ∧ (own.slv sl).nakPending = false ∧
        (own.slv sl).expect = v.expect - BitVec.ofNat 12 v.rxGroup.length ∧ (own.slv sl).rxGroup = [] ∧
        (v.outstanding ≠ 0 → .replay sl v.oldest ∈ own.out) ∧ own.qps = s.qps ∧ own.win = s.win) ∧
      ((w.rxLanes = 0 ∨ w.txLanes = 0) → Completes (.retrainComplete sl t) s (WentDown sl s))) ∧
    (v.state = .retrain → Completes (.retrainTimeout sl) s (WentDown sl s)) ∧
    (v.state ≠ .retrain → exec (.retrainTimeout sl) s = .next (s.after s) ∧
      ∀ t, exec (.retrainComplete sl t) s = .next (s.after s)) ∧
    (∀ reason node, v.linked = true → Completes (.fray sl reason node) s fun own =>
      WentDown sl s own ∧ (slvSource sl + 11, faultPlain) ∈ own.fc.asserted) ∧
    (∀ reason, v.linked = true → Completes (.linkDown sl reason) s (WentDown sl s)) ∧
    (∀ reason, v.linked = false → exec (.linkDown sl reason) s = .next (s.after s) ∧
      ∀ node, exec (.fray sl reason node) s = .next (s.after s))

/-- R289 to R293, R390, R399: lanes are retired one by one, which asks the peer for a narrower width or retrains; a SHED
REQUEST is refused, narrows or begins to widen; the transmitter takes a new width behind the flit of its SHED SWITCH, and the
receiver follows the peer's, which it refuses where the mask is not legal; QUIET is entered by both where nothing waits and
left by a retrain. -/
def Obligations.SleeveWidthsAndQuiet : Prop :=
  ∀ (sl : Sleeve) (s : State),
    let v := s.slv sl
    let bit := fun lane => BitVec.ofNat 8 (2 ^ lane)
    let live := v.state = .param ∨ v.state = .up
    let switches := fun (mask : Byte) (own : State) => own.Said sl (shedMsg 0x03 mask) ∧
      (((own.slv sl).txMask = mask ∧ (own.slv sl).txLanes = laneCount mask ∧ (own.slv sl).shedMask = 0) ∨
        shedMsg 0x03 mask ∈ (own.slv sl).bypassQ)
    (∀ lane, lane < 8 → live → v.retiredRx &&& bit lane = 0 →
      let left := v.rxMask &&& ~~~bit lane
      let w := widthFor (laneCount left)
      (v.rxMask &&& bit lane ≠ 0 → v.state = .up → w ≠ 0 → Completes (.laneRetire sl lane) s fun own =>
        LinkOnly sl s own ∧ (own.slv sl).retiredRx = v.retiredRx ||| bit lane ∧ (own.slv sl).state = .up ∧
        own.Said sl (shedMsg 0x01 (lowestLanes (v.toPeer left) w))) ∧
      (v.rxMask &&& bit lane ≠ 0 → v.state = .param ∨ w = 0 → Completes (.laneRetire sl lane) s fun own =>
        Retrains sl s own ∧ (own.slv sl).retiredRx = v.retiredRx ||| bit lane) ∧
      (v.rxMask &&& bit lane = 0 → Completes (.laneRetire sl lane) s fun own =>
        LinkOnly sl s own ∧ (own.slv sl).retiredRx = v.retiredRx ||| bit lane ∧ (own.slv sl).state = v.state)) ∧
    (∀ lane, (¬live ∨ 8 ≤ lane ∨ (lane < 8 ∧ v.retiredRx &&& bit lane ≠ 0)) →
      exec (.laneRetire sl lane) s = .next (s.after s)) ∧
    (∀ mask, v.state = .up → v.shedMask ≠ 0 → exec (.shedRequest sl mask) s =
      .next (s.after (s.modSlv sl fun v => { v with shedAsk := some mask }))) ∧
    (∀ mask, v.state = .up → v.shedMask = 0 →
      let legal := maskOk mask v.retiredTx = true ∧ mask &&& ~~~v.txSet = 0
      (¬legal → Completes (.shedRequest sl mask) s fun own =>
        LinkOnly sl s own ∧ own.Said sl (shedMsg 0x04 0) ∧ (own.slv sl).retiredTx = v.retiredTx) ∧
      (legal → mask &&& ~~~v.txMask = 0 → Completes (.shedRequest sl mask) s fun own =>
        LinkOnly sl s own ∧ switches mask own ∧ (own.slv sl).retiredTx = v.retiredTx ||| (v.txMask &&& ~~~mask)) ∧
      (legal → mask &&& ~~~v.txMask ≠ 0 → Completes (.shedRequest sl mask) s fun own =>
        LinkOnly sl s own ∧ own.slv sl = { v with shedMask := mask, shedWide := true } ∧
        .signal sl (.addedLanes (mask &&& ~~~v.txMask)) ∈ own.out)) ∧
    (∀ mask, v.state = .up → v.shedWide = true →
      let have_ := (v.txMask ||| mask) &&& v.shedMask
      let new := lowestLanes have_ (widthFor (laneCount have_))
      (v.txLanes < laneCount new → Completes (.shedReady sl mask) s fun own => LinkOnly sl s own ∧ switches new own) ∧
      (¬v.txLanes < laneCount new → exec (.shedReady sl mask) s =
        .next (s.after (s.modSlv sl fun v => { v with shedMask := 0, shedWide := false })))) ∧
    (∀ mask, (v.state ≠ .up ∨ v.shedWide = false) → exec (.shedReady sl mask) s = .next (s.after s)) ∧
    (∀ mask, v.state = .up →
      (maskOk mask (v.toPeer v.retiredRx) = true → exec (.shedSwitch sl mask) s = .next (s.after
        (s.modSlv sl fun v => { v with rxMask := v.fromPeer mask, rxLanes := laneCount mask }))) ∧
      (maskOk mask (v.toPeer v.retiredRx) = false → Completes (.shedSwitch sl mask) s fun own =>
        LinkOnly sl s own ∧ own.Said sl (shedMsg 0x04 0) ∧ (own.slv sl).rxMask = v.rxMask ∧ (own.slv sl).rxLanes = v.rxLanes)) ∧
    (v.state = .up → v.rxMask &&& v.retiredRx ≠ 0 → Completes (.shedRefuse sl) s (Retrains sl s)) ∧
    (v.state ≠ .up ∨ v.rxMask &&& v.retiredRx = 0 → exec (.shedRefuse sl) s = .next (s.after s)) ∧
    (∀ mask, v.state = .up → Completes (.addedLanesLocked sl mask) s fun own =>
      LinkOnly sl s own ∧ own.Said sl (shedMsg 0x02 (v.toPeer (mask &&& ~~~v.retiredRx)))) ∧
    (v.state = .up → s.slvIdle sl = true → Completes (.quietRequest sl) s fun own =>
      LinkOnly sl s own ∧ (own.slv sl).state = .quiet ∧ own.Said sl (quietMsg 0x02) ∧ .signal sl .idle ∈ own.out) ∧
    (v.state = .up → s.slvIdle sl = false → Completes (.quietRequest sl) s fun own =>
      LinkOnly sl s own ∧ (own.slv sl).state = .up ∧ own.Said sl (quietMsg 0x03)) ∧
    (s.mayQuiet sl = true → v.quietAsked = false → Completes (.quietRequestSent sl) s fun own =>
      LinkOnly sl s own ∧ (own.slv sl).quietAsked = true ∧ own.Said sl (quietMsg 0x01)) ∧
    (v.state = .up → v.quietAsked = true →
      (v.onlyRequest = true → Completes (.quietAccept sl) s fun own =>
        LinkOnly sl s own ∧ (own.slv sl).state = .quiet ∧ (own.slv sl).outstanding = 0 ∧ .signal sl .idle ∈ own.out) ∧
      (v.onlyRequest = false → exec (.quietAccept sl) s = .next (s.after s)) ∧
      Completes (.quietRefuse sl) s fun own =>
        (own.slv sl).state = .up ∧ (own.slv sl).quietAsked = false ∧ own.qps = s.qps ∧ own.win = s.win) ∧
    (v.quietAsked = false → exec (.quietRefuse sl) s = .next (s.after s) ∧ exec (.quietAccept sl) s = .next (s.after s)) ∧
    (v.state = .quiet → Completes (.sleeveWakePattern sl) s fun own =>
      (own.slv sl).state = .retrain ∧ own.pwr.wakeSrc = 0x05 ∧ own.qps = s.qps ∧ own.win = s.win ∧
      (s.pwr.doms.length = 11 → ∀ d ∈ [sl.domain, Domain.dp, .ctx, .xlt], (s.dom d).entering = none → (s.dom d).state ≠ .run →
        (s.dom d).state ≠ .off → (own.dom d).waking = true)) ∧
    (v.state ≠ .quiet → exec (.sleeveWakePattern sl) s = .next (s.after s))

/-- R277, R280, R287, R288, R291, R294, R295, R434: the peer's key comes into force at its COUNTER; a group whose tag
verifies is delivered, one whose tag fails is left and counted, and the third within 1 ms takes the link DOWN; MGMT fragments
gather from SOM to EOM in sequence and are answered; a KEY_UPDATE announces the next key for a group at least 64 flits ahead;
SLA_CTRL enables, disables, retrains and lets retired lanes back. -/
def Obligations.SleeveKeysAndControl : Prop :=
  ∀ (sl : Sleeve) (s : State),
    let v := s.slv sl
    let live := v.state = .param ∨ v.state = .up
    (∀ key n, live → v.keysIn = true → exec (.keySwitch sl key n) s = .next (s.after (s.modSlv sl fun v =>
      { v with rxNext := some (key, n), rxCounter := if v.rxOn || v.rxNext.isSome then v.rxCounter else 1 }))) ∧
    (∀ key n, (¬live ∨ v.keysIn = false) → exec (.keySwitch sl key n) s = .next (s.after s)) ∧
    (live → v.tagDue = true → Completes (.mac sl true) s fun own => (own.slv sl).rxGroup = []) ∧
    (live → v.tagDue = true → ∀ f, v.rxGroup = [f] → flitKind f = 1 → Completes (.mac sl true) s fun own =>
      own = (s.modSlv sl fun v => { v with rxGroup := [] }).bypassIn sl (slice 4 16 f)) ∧
    (live → v.tagDue = true →
      let recent := v.macTimes.filter fun t => decide (s.clk.localCount < t + 1000000)
      (recent.length < 2 → Completes (.mac sl false) s fun own =>
        LinkOnly sl s own ∧ (own.slv sl).macFail = satInc v.macFail ∧ (own.slv sl).nakPending = true ∧
        (own.slv sl).expect = v.expect - BitVec.ofNat 12 v.rxGroup.length ∧ (own.slv sl).rxGroup = [] ∧
        (own.slv sl).state = v.state ∧ (slvSource sl + 14, faultPlain) ∈ own.fc.asserted) ∧
      (2 ≤ recent.length → Completes (.mac sl false) s fun own =>
        WentDown sl s own ∧ (own.slv sl).macFail = satInc v.macFail)) ∧
    (∀ ok, (¬live ∨ v.tagDue = false) → exec (.mac sl ok) s = .next (s.after s)) ∧
    (∀ ctl len frag, live → 1 ≤ len.toNat → len.toNat ≤ 13 →
      let som := bitAt ctl.toNat 7
      let eom := bitAt ctl.toNat 6
      let no := bits ctl.toNat 5 4
      let inTurn := som = true ∨ (v.mgmt ≠ [] ∧ no = v.mgmtNext)
      let b := (if som then [] else v.mgmt) ++ fit len.toNat frag
      (¬inTurn → exec (.mgmt sl ctl len frag) s = .next (s.after (s.modSlv sl fun v => { v with mgmt := [] }))) ∧
      (inTurn → eom = false → exec (.mgmt sl ctl len frag) s = .next (s.after
        (s.modSlv sl fun v => { v with mgmt := b, mgmtNext := (no + 1) % 4 }))) ∧
      (inTurn → eom = true → Completes (.mgmt sl ctl len frag) s fun own =>
        LinkOnly sl s own ∧ (own.slv sl).mgmt = [] ∧
        (own.slv sl).session = (if v.state = .param then v.session ++ [b] else v.session) ∧
        (own.slv sl).sessionUp = (if v.state = .param then v.sessionUp else v.sessionUp ++ [b]) ∧
        ∀ m ∈ mgmtMsgs (Config.spdmRequest sl.num ((own.slv sl).session ++ (own.slv sl).sessionUp)), own.Said sl m)) ∧
    (∀ ctl len frag, (¬live ∨ len = 0 ∨ 13 < len.toNat) → exec (.mgmt sl ctl len frag) s = .next (s.after s)) ∧
    (v.state = .up → v.encOn = true → v.txNext = none → Completes (.linkKeyUpdate sl) s fun own =>
      LinkOnly sl s own ∧ ∃ c, own.Said sl (keyMsg (v.txKey + 1) c) ∧ v.keyCounter.toNat + 64 ≤ c ∧
        (v.nextSeq.toNat + (c - v.keyCounter.toNat)) % 64 = 0) ∧
    ((v.state ≠ .up ∨ v.encOn = false ∨ v.txNext ≠ none) → exec (.linkKeyUpdate sl) s = .next (s.after s)) ∧
    (s.regServed 0 = true →
      (v.enable = true → Completes (.sleeveEnableClear sl) s fun own =>
        (own.slv sl).enable = false ∧ (own.slv sl).state = (if v.state = .fray then .fray else .disabled) ∧ own.qps = s.qps ∧
        own.win = s.win ∧ own.prov = s.prov) ∧
      (v.enable = false → Completes (.sleeveEnableSet sl) s fun own =>
        own.slv sl = { v with enable := true, state := if v.state = .disabled then .down else v.state } ∧
        own.qps = s.qps ∧ own.units = s.units ∧ own.tp = s.tp) ∧
      (∀ r, r ≠ 0 → r ≠ v.maxRate → v.state ≠ .up → Completes (.maxRateWrite sl r) s fun own =>
        own.slv sl = { v with maxRate := r } ∧ own.qps = s.qps ∧ own.units = s.units ∧ own.tp = s.tp) ∧
      (∀ r, r ≠ 0 → r ≠ v.maxRate → v.state = .up → Completes (.maxRateWrite sl r) s fun own =>
        Retrains sl s own ∧ (own.slv sl).maxRate = r) ∧
      Completes (.unretire sl) s fun own => own.slv sl = { v with unretire := true } ∧ own.qps = s.qps ∧
        own.units = s.units ∧ own.tp = s.tp)

/-! ## Transport -/

/-- R306, R316: GRANT, ACK, NAK, WANT and RETIRE do nothing on a Sleeve that is not UP; for another node, another epoch of
this node (WANT carries none) or with an older epoch of the sender they are discarded and counted. R307 to R310: a GRANT
opens or raises a flow's window and never lowers it; a WANT gets receive state from sequence 0 with a window of GRANT_MAX
where there is room, or the last GRANT again; a full table gives up the state idle longest, else counts; WANT is repeated
while no GRANT has come. -/
def Obligations.TransportMessages : Prop :=
  (∀ (sl : Sleeve) (m : TMsg) (limit : W32) (seq : BitVec 24) (st : Byte) (s : State),
     ∀ c ∈ [Instr.grant sl m limit, .ack sl m seq, .nak sl m seq st, .retire sl m seq, .want sl m],
       (s.slvUp sl = false → exec c s = .next (s.after s)) ∧
       (s.slvUp sl = true → (m.dst ≠ s.tp.node ∨ (m.dstEpoch ≠ s.tp.epoch ∧ c ≠ .want sl m) ∨
           s.epochOlder m.src m.srcEpoch = true) → Completes c s fun own =>
         own.tp = { s.tp with stale := satInc s.tp.stale } ∧ own.qps = s.qps ∧ own.units = s.units ∧
           own.lasting = s.lasting)) ∧
  (∀ (sl : Sleeve) (m : TMsg) (s : State), Heard sl m s →
     let k := flowKey m.src m.vc
     let begun := fun (own : State) => own.lasting = s.lasting ∧ own.qps = s.qps ∧ own.tp.tx = s.tp.tx ∧
       ∃ r, tget own.tp.rx k = some r ∧ r.expect = 0 ∧ r.drained = 0 ∧ r.sleeve = sl ∧ r.acked = none ∧ r.waiting = [] ∧
         r.refused = []
     (∀ limit f, tget s.tp.tx k = some f → f.silent = false → (f.granted = false ∨ 0 < (limit - f.limit).toInt) →
       Completes (.grant sl m limit) s fun own => own.lasting = s.lasting ∧ own.qps = s.qps ∧
         ∃ g, tget own.tp.tx k = some g ∧ g.granted = true ∧ g.limit = limit ∧ g.sleeve = f.sleeve) ∧
     (∀ limit, (∀ f, tget s.tp.tx k = some f → f.silent = true ∨ (f.granted = true ∧ (limit - f.limit).toInt ≤ 0)) →
       Completes (.grant sl m limit) s fun own => own.tp.tx = s.tp.tx ∧ own.tp.rx = s.tp.rx ∧ own.qps = s.qps ∧
         own.units = s.units ∧ own.lasting = s.lasting) ∧
     (tget s.tp.rx k = none → s.tp.rx.length < 16384 → Completes (.want sl m) s fun own => begun own ∧
       (s.tp.stalled = [] → 0 < s.grantMax → s.grantMax ≤ s.grantRoom →
         (∃ r, tget own.tp.rx k = some r ∧ r.limit = BitVec.ofNat 32 s.grantMax ∧ r.lastLimit = some r.limit) ∧
         own.Said sl (grantMsg s.tp.node m.src (m.vc % 8) s.grantMax s.tp.epoch.toNat m.srcEpoch.toNat))) ∧
     (∀ r, tget s.tp.rx k = some r → s.clk.localCount < r.lastAt + 2000000 → Completes (.want sl m) s fun own =>
       own.lasting = s.lasting ∧ own.tp.tx = s.tp.tx ∧ own.qps = s.qps ∧ own.units = s.units ∧
       (r.lastLimit = none → tget own.tp.rx k = some { r with sleeve := sl }) ∧
       (r.lastLimit ≠ none → tget own.tp.rx k = some { r with sleeve := sl, lastLimit := some r.limit } ∧
         own.Said sl (grantMsg s.tp.node m.src (m.vc % 8) r.limit.toNat s.tp.epoch.toNat m.srcEpoch.toNat))) ∧
     (∀ r, tget s.tp.rx k = some r → r.lastAt + 2000000 ≤ s.clk.localCount → Completes (.want sl m) s begun) ∧
     (∀ j r, tget s.tp.rx k = none → 16384 ≤ s.tp.rx.length → s.idlestRx = some (j, r) → tget s.tp.rx j = some r →
       Completes (.want sl m) s fun own => begun own ∧ tget own.tp.rx j = none ∧ (j, r.expect) ∈ own.tp.retired) ∧
     (tget s.tp.rx k = none → 16384 ≤ s.tp.rx.length → s.idlestRx = none → Completes (.want sl m) s fun own =>
       own.tp.rx = s.tp.rx ∧ own.tp.tx = s.tp.tx ∧ own.tp.noState = satInc s.tp.noState ∧ own.qps = s.qps ∧
         own.units = s.units ∧ own.lasting = s.lasting) ∧
     (∀ node vc f, tget s.tp.tx (flowKey node vc) = some f → f.granted = false → f.silent = false → s.slvUp f.sleeve = true →
       Completes (.wantRepeat node vc) s fun own => own.tp = s.tp ∧ own.qps = s.qps ∧
         own.Said f.sleeve (wantMsg s.tp.node node (vc % 8) s.tp.epoch.toNat)) ∧
     (∀ node vc, (∀ f, tget s.tp.tx (flowKey node vc) = some f → f.granted = true ∨ f.silent = true) →
       exec (.wantRepeat node vc) s = .next (s.after s)))

/-- R315, R316: a valid ACK ends every packet it covers and frees its staging; a valid NAK ends what comes before the packet it
names as an ACK would and that packet with its status, a GET, a SEND or an ACKED PUT with its QP in ERROR; an answer that
names a packet which a write timeout has ended is late; any other, and one without send state, is ignored. -/
def Obligations.TransportAnswers : Prop :=
  ∀ (sl : Sleeve) (m : TMsg) (seq : BitVec 24) (st : Byte) (s : State), Heard sl m s →
    let k := flowKey m.src m.vc
    let ignored := fun (own : State) => own.tp.tx = s.tp.tx ∧ own.tp.rx = s.tp.rx ∧ own.tp.late = s.tp.late ∧
      own.qps = s.qps ∧ own.units = s.units ∧ own.lasting = s.lasting
    let left := fun (own : State) (ended rest : List TxPkt) => own.lasting = s.lasting ∧
      (∃ g, tget own.tp.tx k = some g ∧ rest.map (·.seq) <+: g.unacked.map (·.seq)) ∧
      ∀ t ∈ ended, ∀ n, t.xunit = some n → n < s.nextUnit → tget own.units n = none
    (tget s.tp.tx k = none → ∀ c ∈ [Instr.ack sl m seq, .nak sl m seq st], Completes c s ignored) ∧
    ∀ f, tget s.tp.tx k = some f →
      (f.endedAt seq = true → ∀ c ∈ [Instr.ack sl m seq, .nak sl m seq st], Completes c s fun own =>
        own.tp.late = satInc s.tp.late ∧ own.tp.tx = s.tp.tx ∧ own.tp.rx = s.tp.rx ∧ own.qps = s.qps ∧
          own.units = s.units ∧ own.lasting = s.lasting) ∧
      (f.endedAt seq = false → (f.silent = true ∨ f.answers seq = false) →
        ∀ c ∈ [Instr.ack sl m seq, .nak sl m seq st], Completes c s ignored) ∧
      (f.endedAt seq = false → f.silent = false → f.answers seq = true →
        Completes (.ack sl m seq) s fun own => left own (f.coveredBy seq) (f.unacked.drop (f.coveredBy seq).length)) ∧
      (∀ before t rest, f.endedAt seq = false → f.silent = false → f.answers seq = true → t.seq = seq →
        f.unacked = before ++ t :: rest → f.coveredBy (seq - 1) = before →
        Completes (.nak sl m seq st) s fun own => left own (before ++ [t]) rest ∧
          ∀ q i no p, (t.owner = .get q i no ∨ (t.owner = .unit q i no ∧ (t.pkt.kind ≠ 0x01 ∨ s.unitAcked t.xunit = true))) →
            s.qp q = some p → (p.state = .active ∨ p.state = .stopped) →
            ∃ x, own.qp q = some x ∧ x.state = .error ∧ x.cause = csOfInbound st.toNat)

/-- R300, R309, R316 to R318: a RETIRE ends what the receiver had accepted, keeps the rest to be emitted anew, and
silences the flow; a write timeout ends everything on it as timed out; at its silence's end, or when idle state is
retired, the flow goes, opens a new incarnation for what waits, or waits for a send state; the resend timer has everything
of UNACKED sent again with the least window. R176, R300, R309, R315, R318, R321 to R323, R341: where a GET's answer has
been awaited longest, a write timeout fails that GET; retired receive state leaves a record of its expected sequence, and
its packets count there no more; records expire; an EPOCH is older, the same, or newer, which ends all traffic with its
node; the periodic EPOCH goes out on every UP Sleeve, on the Belt where none is UP. -/
def Obligations.FlowsAndEpochs : Prop :=
  (∀ (node vc : Nat) (f : TxFlow) (s : State), tget s.tp.tx (flowKey node vc) = some f →
     let k := flowKey node vc
     let silenced := fun (own : State) (kept : List TxPkt) => own.lasting = s.lasting ∧ ∃ g, tget own.tp.tx k = some g ∧
       g.silent = true ∧ g.granted = false ∧ g.unacked = [] ∧ g.next = 0 ∧ g.sent = 0 ∧
       g.kept.map (fun t => (t.seq, t.owner)) = kept.map fun t => (t.seq, t.owner)
     let freed := fun (own : State) (l : List TxPkt) =>
       ∀ t ∈ l, ∀ n, t.xunit = some n → n < s.nextUnit → tget own.units n = none
     (∀ sl m e, Heard sl m s → flowKey m.src m.vc = k → f.silent = false → f.wait = false →
       let past := fun (t : TxPkt) =>
         e = 0xFFFFFF ∨ (1 ≤ (e - t.seq).toNat ∧ (e - t.seq).toNat < 2 ^ 23)
       Completes (.retire sl m e) s fun own => ∃ ended kept, (∀ t, t ∈ ended ↔ t ∈ f.unacked ∧ past t) ∧
         kept.Sublist f.unacked ∧ (∀ t, t ∈ kept ↔ t ∈ f.unacked ∧ ¬ past t) ∧ silenced own (kept ++ f.kept) ∧
         freed own ended ∧ (∀ t ∈ kept, ∀ n u, t.xunit = some n → tget own.units n = some u → u.emitted = false ∧ u.granted = none)) ∧
     (∀ sl m e, Heard sl m s → flowKey m.src m.vc = k → f.silent = true → Completes (.retire sl m e) s fun own =>
       own.tp.tx = s.tp.tx ∧ own.qps = s.qps ∧ own.units = s.units ∧ own.lasting = s.lasting) ∧
     (s.flowHolds k f = true → s.getFirst k f = false → f.wait = false → Completes (.writeTimeout node vc) s fun own =>
       silenced own [] ∧ freed own f.unacked ∧
       (∀ t, f.unacked.head? = some t → ∃ g, tget own.tp.tx k = some g ∧ g.ended = some (t.seq, f.unacked.length)) ∧
       ∀ t ∈ f.unacked, ∀ q i no p, (t.owner = .get q i no ∨ (t.owner = .unit q i no ∧ t.pkt.kind ≠ 0x01)) →
         s.qp q = some p → (p.state = .active ∨ p.state = .stopped) → ∃ x, own.qp q = some x ∧ x.state = .error) ∧
     (f.silent = false → f.unacked ≠ [] → Completes (.resendTimer node vc) s fun own =>
       own.lasting = s.lasting ∧ own.qps = s.qps ∧ (∃ g, tget own.tp.tx k = some g ∧ g.cwnd = 17 * 256 ∧
         f.unacked.map (·.seq) <+: g.unacked.map (·.seq)) ∧
       ∀ t ∈ f.unacked, ∀ n u, t.xunit = some n → tget s.units n = some u → ∃ x, tget own.units n = some x ∧
         x.resend = true ∧ x.granted = none ∧ x.data = u.data) ∧
     ((f.silent = true ∨ f.unacked = []) → exec (.resendTimer node vc) s = .next (s.after s)) ∧
     (∀ c, ((c = .sendStateRetire node vc ∧ f.silent = false ∧ f.unacked = []) ∨
         (c = .flowSilenceEnd node vc ∧ f.silent = true ∧ f.wait = false)) →
       let waits := f.queue ≠ [] ∨ f.kept ≠ [] ∨ s.flowPending k = true
       (¬ waits → Completes c s fun own => tget own.tp.tx k = none ∧ own.lasting = s.lasting ∧ own.qps = s.qps ∧
         own.units = s.units) ∧
       (waits → Completes c s fun own => own.lasting = s.lasting ∧ own.qps = s.qps ∧ own.units = s.units ∧
         ∃ g, tget own.tp.tx k = some g ∧ g.queue = f.queue ∧ g.kept = f.kept ∧
           (if s.txRoomFor k then g.silent = false ∧ g.granted = false ∧ g.next = 0 ∧ g.unacked = []
           else g.silent = true ∧ g.wait = true ∧ own.tp.noState = satInc s.tp.noState))) ∧
     ((f.silent = true ∨ f.unacked ≠ []) → exec (.sendStateRetire node vc) s = .next (s.after s)) ∧
     ((f.silent = false ∨ f.wait = true) → exec (.flowSilenceEnd node vc) s = .next (s.after s))) ∧
  (∀ (s : State),
     (∀ node vc a q i no p, (∀ f, tget s.tp.tx (flowKey node vc) = some f →
         s.flowHolds (flowKey node vc) f = false ∨ s.getFirst (flowKey node vc) f = true) →
       s.getDue (flowKey node vc) = some a → a.owner = .get q i no → s.qp q = some p →
       (p.state = .active ∨ p.state = .stopped) →
       Completes (.writeTimeout node vc) s fun own => own.lasting = s.lasting ∧ a ∉ own.tp.awaits ∧ own.tp.tx = s.tp.tx ∧
         ∃ x, own.qp q = some x ∧ x.state = .error ∧ x.cause = 0x15) ∧
     (∀ node vc, tget s.tp.tx (flowKey node vc) = none → s.getDue (flowKey node vc) = none →
       exec (.writeTimeout node vc) s = .next (s.after s)) ∧
     (∀ node vc r, tget s.tp.rx (flowKey node vc) = some r → Completes (.receiveStateRetire node vc) s fun own =>
       tget own.tp.rx (flowKey node vc) = none ∧ (flowKey node vc, r.expect) ∈ own.tp.retired ∧ own.tp.tx = s.tp.tx ∧
       own.qps = s.qps ∧ own.lasting = s.lasting ∧ ∀ n u, tget s.units n = some u → ∃ x, tget own.units n = some x ∧
         x = { u with cutOff := u.cutOff || (u.hostBound &&
           (u.pkt.map fun p => flowKey p.src p.vc.toNat) == some (flowKey node vc)) }) ∧
     (∀ node vc, tget s.tp.rx (flowKey node vc) = none → Completes (.receiveStateRetire node vc) s fun own =>
       own.tp.retired = s.tp.retired ∧ own.tp.tx = s.tp.tx ∧ own.qps = s.qps ∧ own.units = s.units ∧
         own.lasting = s.lasting) ∧
     (∀ node vc, exec (.retirementRecordExpiry node vc) s = .next (s.after { s with
       tp := { s.tp with retired := s.tp.retired.filter fun p => p.1 != flowKey node vc } })) ∧
     (∀ node vc seq, Completes (.refusalRecordExpiry node vc seq) s fun own =>
       (∀ r, tget s.tp.rx (flowKey node vc) = some r →
         tget own.tp.rx (flowKey node vc) = some { r with refused := r.refused.filter fun x => x.seq != seq }) ∧
       (∀ j, j ≠ flowKey node vc → tget own.tp.rx j = tget s.tp.rx j) ∧ own.tp.tx = s.tp.tx ∧ own.qps = s.qps ∧
         own.units = s.units ∧ own.lasting = s.lasting) ∧
     (∀ src e, s.epochOlder src e = true → Completes (.epochMsg src e) s fun own =>
       own.tp = { s.tp with stale := satInc s.tp.stale } ∧ own.qps = s.qps ∧ own.units = s.units) ∧
     (∀ src e k, tget s.tp.known src = some k → s.holdsState src = true → epochNewer e k = true →
       Completes (.epochMsg src e) s fun own =>
         own.lasting = s.lasting ∧ (∀ j, j / 8 = src → tget own.tp.rx j = none) ∧
         ((∀ j, j / 8 = src → tget own.tp.tx j = none) → tget own.tp.known src = some e) ∧
         (∀ j g, j / 8 = src → tget own.tp.tx j = some g → g.granted = false ∧ g.unacked = [] ∧ g.next = 0) ∧
         ∀ j f, j / 8 = src → tget s.tp.tx j = some f → ∀ t ∈ f.unacked, ∀ q i no p, t.owner = .get q i no →
           s.qp q = some p → (p.state = .active ∨ p.state = .stopped) → ∃ x, own.qp q = some x ∧ x.state = .error) ∧
     (∀ src e k, tget s.tp.known src = some k → s.holdsState src = true → epochNewer e k = false → epochNewer k e = false →
       exec (.epochMsg src e) s = .next (s.after s)) ∧
     (∀ src e, (s.holdsState src = false ∨ tget s.tp.known src = none) → Completes (.epochMsg src e) s fun own =>
       own.tp = { s.tp with known := tput s.tp.known src e } ∧ own.qps = s.qps ∧ own.units = s.units) ∧
     Completes .epochPeriodic s fun own => own.tp = s.tp ∧ own.qps = s.qps ∧ own.lasting = s.lasting ∧
       (∀ sl, s.slvUp sl = true → own.Said sl (epochBody s.tp.node s.tp.epoch.toNat)) ∧
       (s.slvUp .a = false → s.slvUp .b = false → s.belt.txQueue.length < 32 →
         (s.routeMsg 0x03 0 (epochBody s.tp.node s.tp.epoch.toNat), epochBody s.tp.node s.tp.epoch.toNat) ∈ own.belt.txQueue))

/-! ## The Belt -/

/-- R327, R328, R330, R333, R334: the receiver locks on BELT_LOCK or after four good flits; eight failures of the CRC in a
row, or BELT_LOCK_LOSS, lose lock, which closes the bypass without notice and is source 928; a flit that fails is counted and
IDLE goes in its place; an IDLE flit gives its place to the node's oldest waiting flit; any other message is discarded at its
own source or after 16 hops, consumed at its destination, and else goes on with HOPS one higher and a new CRC. -/
def Obligations.BeltLockAndFlits : Prop :=
  ∀ (s : State),
    let b := s.belt
    (b.rxLock = false → s.boot.mode ≠ .noPower → Completes .beltLock s fun own =>
      BeltOnly s own ∧ OpensIf (s.BeltReady ∧ b.enable = true ∧ b.overHops = false) s own ∧
      own.belt = { b with rxLock := true, crcRun := 0, goodRun := 0, bypassOpen := own.belt.bypassOpen,
                          txQueue := own.belt.txQueue }) ∧
    ((b.rxLock = true ∨ s.boot.mode = .noPower) → exec .beltLock s = .next (s.after s)) ∧
    (b.rxLock = true → Completes .beltLockLoss s fun own =>
      BeltOnly s own ∧ Closes none s own ∧ own.belt.rxLock = false ∧ own.belt.lockLoss = satInc b.lockLoss ∧
      own.fc.asserted = s.fc.asserted ++ [(928, faultPlain)] ∧ own.out = s.out) ∧
    (b.rxLock = false → exec .beltLockLoss s = .next (s.after s)) ∧
    (∀ flit : Bytes, flit.length = 256 →
      let good := beAt 248 8 flit = crc64 (flit.take 248) 0
      let kind := bits (beAt 0 4 flit) 18 15
      let type := beAt 4 1 flit
      let dst := beAt 5 1 flit
      let src := beAt 6 1 flit
      let hops := beAt 7 1 flit
      let ours := fun pos => b.position ≠ 0xFE ∧ pos = b.position.toNat
      (b.rxLock = false → Completes (.beltFlitReceive flit) s fun own =>
        (¬ good → own = { s with belt := { b with goodRun := 0 } }) ∧
        (good → b.goodRun < 3 → own = { s with belt := { b with goodRun := b.goodRun + 1 } }) ∧
        (good → 3 ≤ b.goodRun → s.boot.mode ≠ .noPower → BeltOnly s own ∧ own.belt.rxLock = true ∧
          OpensIf (s.BeltReady ∧ b.enable = true ∧ b.overHops = false) s own)) ∧
      (b.rxLock = true → ¬ good → b.crcRun < 7 → Completes (.beltFlitReceive flit) s fun own =>
        BeltOnly s own ∧ own.belt = { b with crcErr := satInc b.crcErr, crcRun := b.crcRun + 1 } ∧
        own.fc.asserted = s.fc.asserted ∧ own.out = if b.bypassOpen then s.out ++ [.beltSignal .idle] else s.out) ∧
      (b.rxLock = true → ¬ good → 7 ≤ b.crcRun → Completes (.beltFlitReceive flit) s fun own =>
        BeltOnly s own ∧ Closes none s own ∧ own.belt.rxLock = false ∧ own.belt.crcErr = satInc b.crcErr ∧
        own.belt.lockLoss = satInc b.lockLoss ∧ (928, faultPlain) ∈ own.fc.asserted) ∧
      (b.rxLock = true → good → kind ≠ 0 → kind ≠ 1 → kind ≠ 5 → Completes (.beltFlitReceive flit) s fun own =>
        BeltOnly s own ∧ own.belt = { b with crcErr := satInc b.crcErr, crcRun := 0 } ∧
        own.out = if b.bypassOpen then s.out ++ [.beltSignal .idle] else s.out) ∧
      (b.rxLock = true → good → kind = 0 → Completes (.beltFlitReceive flit) s fun own =>
        BeltOnly s own ∧ own.fc.asserted = s.fc.asserted ∧
        (b.bypassOpen = false → own.belt = { b with crcRun := 0 } ∧ own.out = s.out) ∧
        (b.bypassOpen = true → b.txQueue = [] → own.belt = { b with crcRun := 0 } ∧ own.out = s.out ++ [.beltSignal .idle]) ∧
        ∀ x l, b.bypassOpen = true → b.txQueue = x :: l →
          own.belt = { b with crcRun := 0, txQueue := l } ∧
            own.out = s.out ++ [.belt x.1 x.2, .beltForward (beltWire x.1 x.2)]) ∧
      (b.rxLock = true → good → (kind = 1 ∨ kind = 5) → b.bypassOpen = false → Completes (.beltFlitReceive flit) s fun own =>
        own = { s with belt := { b with crcRun := 0 } }) ∧
      (b.rxLock = true → good → (kind = 1 ∨ kind = 5) → b.bypassOpen = true → type ≠ 0x41 → type ≠ 0x42 →
        (type = 0x40 → kind = 1) →
        Completes (.beltFlitReceive flit) s fun own => BeltOnly s own ∧ own.fc.asserted = s.fc.asserted ∧
        (0x45 ≤ type → type ≤ 0x5F →
          own.belt = { b with crcRun := 0, bypUnknown := satInc b.bypUnknown } ∧ own.out = s.out ++ [.beltForward flit]) ∧
        ((type < 0x45 ∨ 0x5F < type) → (ours src ∨ hops = 16) →
          own.belt = { b with crcRun := 0, dropHops := satInc b.dropHops } ∧ own.out = s.out ++ [.beltSignal .idle]) ∧
        ((type < 0x45 ∨ 0x5F < type) → ¬ ours src → hops ≠ 16 → ours dst →
          own.belt = { b with crcRun := 0 } ∧ own.out = s.out ++ [.beltSignal .idle]) ∧
        ((type < 0x45 ∨ 0x5F < type) → ¬ ours src → hops ≠ 16 → ¬ ours dst →
          let d := flit.take 7 ++ [BitVec.ofNat 8 (hops + 1)] ++ (flit.take 248).drop 8
          own.belt = { b with crcRun := 0 } ∧ own.out = s.out ++ [.beltForward (d ++ beBytes 8 (crc64 d 0))])))

/-- R329, R332, R333, R337 to R341: a ROUTE from itself or with 16 HOPS is dropped, one to this node alone is consumed, and
any other goes on with HOPS one higher; one that is for this node delivers a telemetry frame or a fall-back EPOCH; a TIME
sets the timebase the first time, steps it forward beyond 10 us ahead, counts at half rate beyond 10 us behind, else adjusts
the rate by at most 100 ppm; it goes on with CORR raised by the residence and the segment's delay; ENUM gives the position,
or beyond 16 nodes OVER with source 930 and LEAVE 0x04. -/
def Obligations.BeltMessages : Prop :=
  ∀ (s : State),
    let b := s.belt
    (∀ (m : RouteMsg) (d : Bytes), d.length = m.len → 1 ≤ m.len → m.len ≤ 224 →
      let mine := b.bypassOpen = true ∧ ¬ (b.position ≠ 0xFE ∧ m.srcPos = b.position) ∧ m.hops.toNat < 16 ∧
        (m.dstPos = 0xFF ∨ (b.position ≠ 0xFE ∧ m.dstPos = b.position))
      let ours := fun pos => b.position ≠ 0xFE ∧ pos = b.position
      let flit := beltWire (beltMsg 0x40 m.dstPos.toNat m.srcPos.toNat m.hops.toNat
        ([m.cls] ++ beBytes 2 m.len ++ node3 m.srcNode ++ node3 m.dstNode)) (fit 224 d)
      let next := flit.take 7 ++ [BitVec.ofNat 8 (m.hops.toNat + 1)] ++ (flit.take 248).drop 8
      let on : Emission → State := fun e => { s with out := s.out ++ [e] }
      let passed := fun (u : State) => (ours m.dstPos → u = on (.beltSignal .idle)) ∧
        (¬ ours m.dstPos → u = on (.beltForward (next ++ beBytes 8 (crc64 next 0))))
      (b.bypassOpen = false → exec (.route m d) s = .next (s.after s)) ∧
      (b.bypassOpen = true → (ours m.srcPos ∨ m.hops = 16) → Completes (.route m d) s fun own =>
        BeltOnly s own ∧ own.belt = { b with dropHops := satInc b.dropHops } ∧ own.out = s.out ++ [.beltSignal .idle]) ∧
      (mine → m.cls = 0x02 → s.boot.mode = .oper → m.srcNode < 2 ^ 20 → ∃ u, passed u ∧
        exec (.route m d) s = .next (s.after (u.frameIn m.srcNode d))) ∧
      (∀ src e, mine → m.cls = 0x03 → s.boot.mode = .oper → d = epochBody src (e : W16).toNat → src < 2 ^ 20 →
        (s.epochOlder src e = true → Completes (.route m d) s fun own =>
          own.tp = { s.tp with stale := satInc s.tp.stale } ∧ own.qps = s.qps ∧ own.belt = b) ∧
        (s.holdsState src = false → Completes (.route m d) s fun own =>
          own.tp = { s.tp with known := tput s.tp.known src e } ∧ own.qps = s.qps ∧ own.units = s.units ∧ own.belt = b)) ∧
      (b.bypassOpen = true → ¬ ours m.srcPos → m.hops ≠ 16 →
        (¬ mine ∨ s.boot.mode ≠ .oper ∨ (m.cls ≠ 0x02 ∧ m.cls ≠ 0x03)) → Completes (.route m d) s passed)) ∧
    (∀ m : TimeMsg, b.bypassOpen = true → m.hops ≠ 16 →
      let off : Int := (m.t.toNat + m.corr.toNat + b.wireNs.toNat : Nat) - (m.arrival : Int)
      let fwd := beltMsg 0x41 0xFF 0x00 (m.hops.toNat + 1)
        (beBytes 8 m.t.toNat ++ beBytes 4 (m.corr + BitVec.ofNat 32 (m.residence + b.wireNs.toNat)).toNat)
      Completes (.timeMsg m) s fun own =>
        own = { s with belt := own.belt, out := own.out, fc := { s.fc with asserted := own.fc.asserted }, clk := own.clk,
                       tp := own.tp, lin := own.lin, freeIdx := own.freeIdx } ∧
        own.clk.timeLocked = true ∧ own.clk.timeSet = true ∧ own.clk.localCount = s.clk.localCount ∧
        own.clk.offset = max (-8388607) (min 8388607 off) ∧
        own.out = s.out ++ [.belt fwd [], .beltForward (beltWire fwd [])] ∧
        (s.clk.timeSet = false → own.clk.timebase = s.clk.timebase + BitVec.ofInt 64 off ∧ own.clk.slew = 0 ∧
          own.belt = b ∧ (s.lin.logQueue.length < 1024 → ∃ r, own.lin.logQueue = s.lin.logQueue ++ [r] ∧ r.type = 0x06 ∧
            r.data = leBytes 8 s.clk.timebase.toNat ++ leBytes 8 own.clk.timebase.toNat)) ∧
        (s.clk.timeSet = true → 10000 < off → own.clk.timebase = s.clk.timebase + BitVec.ofInt 64 off ∧
          own.clk.slew = 0 ∧ own.belt = { b with timeStep := b.timeStep + 1 } ∧
          own.fc.asserted = s.fc.asserted ++ [(931, faultPlain)] ∧ own.lin = s.lin) ∧
        (s.clk.timeSet = true → off < -10000 → own.clk.timebase = s.clk.timebase ∧ own.clk.slew = off.natAbs ∧
          own.belt = b ∧ own.fc.asserted = s.fc.asserted ∧ own.lin = s.lin ∧ own.tp = s.tp) ∧
        (s.clk.timeSet = true → -10000 ≤ off → off ≤ 10000 → own.clk.timebase = s.clk.timebase ∧ own.clk.slew = 0 ∧
          -100 ≤ own.clk.ratePpm ∧ own.clk.ratePpm ≤ 100 ∧ (0 < off → 0 ≤ own.clk.ratePpm) ∧
          (off < 0 → own.clk.ratePpm ≤ 0) ∧ (off = 0 → own.clk.ratePpm = 0) ∧ own.belt = b ∧
          own.fc.asserted = s.fc.asserted ∧ own.lin = s.lin ∧ own.tp = s.tp)) ∧
    (∀ m : TimeMsg, b.bypassOpen = true → m.hops = 16 → Completes (.timeMsg m) s fun own =>
      BeltOnly s own ∧ own.belt = { b with dropHops := satInc b.dropHops } ∧ own.out = s.out ++ [.beltSignal .idle]) ∧
    exec .timeLockTimeout s = .next (s.after { s with clk := { s.clk with timeLocked := false } }) ∧
    (∀ hops nextPos enumId, b.bypassOpen = true →
      (nextPos.toNat ≤ 0x10 → Completes (.enumMsg hops nextPos enumId) s fun own =>
        BeltOnly s own ∧ own.belt = { b with position := nextPos, enumId := enumId } ∧
        own.fc.asserted = s.fc.asserted ∧
        let fwd := beltMsg 0x42 0xFF 0x00 (hops.toNat + 1) (beBytes 1 (nextPos.toNat + 1) ++ beBytes 2 enumId.toNat)
        own.out = s.out ++ [.belt fwd [], .beltForward (beltWire fwd [])]) ∧
      (0x10 < nextPos.toNat → Completes (.enumMsg hops nextPos enumId) s fun own =>
        BeltOnly s own ∧ own.belt.overHops = true ∧ own.belt.position = 0xFE ∧ own.belt.bypassOpen = false ∧
        own.belt.bypassClose = b.bypassClose + 1 ∧ own.belt.enumId = b.enumId ∧
        own.fc.asserted = s.fc.asserted ++ [(930, faultPlain)] ∧
        own.belt.txQueue = [] ∧ .belt (beltMsg 0x44 0x00 0xFE 0 (beBytes 1 0x04 ++ serialBytes)) [] ∈ own.out)) ∧
    (b.bypassOpen = false → ∀ hops nextPos enumId m,
      exec (.enumMsg hops nextPos enumId) s = .next (s.after s) ∧ exec (.timeMsg m) s = .next (s.after s))

/-- R332, R334 to R336, R340, R390: BLT_CTRL.ENABLE cleared closes the bypass with LEAVE 0x01; set from 0 it clears OVER and
the bypass may open; a wake pattern is repeated by an open bypass and wakes a BLT below Run; the summary frame is queued
for the belt master. -/
def Obligations.BeltControl : Prop :=
  ∀ (s : State),
    let b := s.belt
    (s.regServed 0 = true → Completes .beltEnableClear s fun own =>
      Closes (some 0x01) s own ∧ own.lasting = { s.lasting with belt := { s.lasting.belt with enable := false } } ∧
      own.qps = s.qps ∧ own.units = s.units ∧ own.tp = s.tp) ∧
    (s.regServed 0 = true → b.enable = true → Completes .beltEnableSet s fun own =>
      own.belt = b ∧ own.lasting = s.lasting ∧ own.qps = s.qps ∧ own.units = s.units ∧ own.tp = s.tp) ∧
    (s.regServed 0 = true → b.enable = false → Completes .beltEnableSet s fun own =>
      OpensIf (s.BeltReady ∧ b.rxLock = true) s own ∧ own.belt.enable = true ∧ own.belt.overHops = false ∧
      (b.sleepOk = false → (s.dom .blt).state = .sleep → (s.dom .blt).entering = none → (own.dom .blt).waking = true) ∧
      (∀ d, d ≠ .blt → own.dom d = s.dom d) ∧ own.qps = s.qps ∧ own.units = s.units ∧ own.tp = s.tp) ∧
    (s.regServed 0 = false → exec .beltEnableClear s = .next (s.after s) ∧ exec .beltEnableSet s = .next (s.after s)) ∧
    (Completes .beltWakePattern s fun own =>
      own.belt = b ∧ (b.bypassOpen = true → .beltSignal .wakePattern ∈ own.out) ∧
      ((s.dom .blt).state = .run → (s.dom .blt).entering = none → own = { s with out := own.out }) ∧
      (((s.dom .blt).state = .sleep ∨ (s.dom .blt).state = .deepSleep) → (s.dom .blt).entering = none →
        own.dom .blt = { s.dom .blt with waking := true } ∧ own.pwr.wakeSrc = 0x06) ∧
      ((s.dom .blt).entering.isSome = true → own.dom .blt = { s.dom .blt with wakeNoted := true }) ∧
      (∀ d, d ≠ .blt → own.dom d = s.dom d) ∧ own.qps = s.qps ∧ own.units = s.units ∧ own.tp = s.tp) ∧
    (b.summary ≠ 0 → (s.boot.mode = .boot ∨ s.boot.mode = .oper) → Completes .summaryFrame s fun own =>
      BeltOnly s own ∧ own.out = s.out ∧ own.fc.asserted = s.fc.asserted ∧
      (32 ≤ b.txQueue.length → own.belt = { b with txDrop := satInc b.txDrop }) ∧
      (b.txQueue.length < 32 →
        let d := beBytes 2 0xFFF0 ++ beBytes 2 10 ++ beBytes 1 s.modeCode ++
          beBytes 1 (maskOf [s.fc.errLow, s.clk.timeLocked]) ++ beBytes 2 (BitVec.ofInt 16 s.lin.hottest).toNat ++
          beBytes 2 (min 65535 s.lin.power) ++ beBytes 1 (slvStateCode s.slvA.state) ++
          beBytes 1 (slvStateCode s.slvB.state) ++ beBytes 2 s.tp.epoch.toNat
        own.belt = { b with txQueue := b.txQueue ++ [(beltMsg 0x40 0x00 b.position.toNat 0
          (beBytes 1 0x02 ++ beBytes 2 14 ++ node3 s.tp.node ++ node3 0), d)] })) ∧
    ((b.summary = 0 ∨ (s.boot.mode ≠ .boot ∧ s.boot.mode ≠ .oper)) → exec .summaryFrame s = .next (s.after s))

/-! ## The fault collector -/

/-- R439, R440, R443 to R447, R450: an existing source's line is taken: its bit is set and its log counts; a reaction with ERR
drives ERR_N, one with INT reports FAULT to PF0, one with TRAP raises a trap; ACTION is the safe state, a chip reset, or a
block reset, whose fourth within 1 s is a chip reset and source 3; in the safe state an assertion is recorded and nothing
more. -/
def Obligations.FaultReactions : Prop :=
  ∀ (src : Nat) (r : FaultRec) (s : State), s.Calm → srcExists src = true → src ≠ 961 → s.bh.traceEn = false →
    s.boot.mode ≠ .noPower → s.boot.mode ≠ .off →
    let c := (s.reactOf src).toNat
    let rise := tgetD s.fc.sticky src false = false
    let live := s.boot.mode = .boot ∨ s.boot.mode = .oper
    (live → actionOf (s.reactOf src) = 0 → (¬ rise ∨ bitAt c 0 = false) → Answers (.faultAssert src r) s fun t =>
      tgetD t.fc.sticky src false = true ∧ s.LoggedFault t src r ∧ t.lasting = s.lasting ∧ t.qps = s.qps ∧ t.units = s.units ∧
      t.out = s.out ∧ (∀ n, n ≠ src → tget t.fc.sticky n = tget s.fc.sticky n ∧ tget t.fc.logs n = tget s.fc.logs n) ∧
      t.fc.errLow = (s.fc.errLow || bitAt c 2) ∧ t.fc.pulse = (s.fc.pulse || bitAt c 2) ∧
      t.fc.traps = (if rise ∧ bitAt c 1 = true then (if s.trapReady then [] else s.fc.traps ++ [src]) else s.fc.traps) ∧
      t.fc.rises = (if rise then s.fc.rises + 1 else s.fc.rises) ∧ t.fc.chipResetDue = s.fc.chipResetDue) ∧
    (live → actionOf (s.reactOf src) = 0 → rise → bitAt c 0 = true → s.eventsHeld 0 = true → (s.fn 0).flr = false →
      ((s.fn 0).pocket.held.filter fun h => !h.final).length < 256 → Answers (.faultAssert src r) s fun t =>
        tgetD t.fc.sticky src false = true ∧ s.LoggedFault t src r ∧ t.lasting = s.lasting ∧
        ∃ h l, (t.fn 0).pocket.held = (s.fn 0).pocket.held ++ [h] ∧ h.ev.type = 0x07 ∧ tget t.fc.logs src = some l ∧
          h.ev.detail = BitVec.ofNat 64 (src + c * 65536 + l.count.toNat * 4294967296)) ∧
    (live → actionOf (s.reactOf src) = 3 → Answers (.faultAssert src r) s fun t =>
      tgetD t.fc.sticky src false = true ∧ t.boot = { s.boot with mode := .safe } ∧ t.fc.lastSafeValid = true ∧
      t.fc.lastSafe = BitVec.ofNat 11 src ∧ t.fc.errLow = true ∧ t.slvA.state = .fray ∧ t.slvB.state = .fray ∧
      t.belt.bypassOpen = false ∧ t.lin.session.isOpen = false ∧ t.win.slots = [] ∧
      (∀ k u, tget t.units k = some u → u.emitted = true) ∧ (∀ k f, tget t.tp.tx k = some f → f.queue = []) ∧
      bitAt (t.fn 0).cfg.aerUnc.toNat aerUncorrectableInternal = true) ∧
    (live → actionOf (s.reactOf src) = 2 → Answers (.faultAssert src r) s fun t =>
      tgetD t.fc.sticky src false = true ∧ t.fc.chipResetDue = true ∧ t.boot.mode = s.boot.mode ∧ t.qps = s.qps) ∧
    (∀ b, live → actionOf (s.reactOf src) = 1 → blockOf src = some b → s.fc.chipResetDue = false →
      let recent := s.fc.recentResets.filter fun x => decide (x.1 = b.num) && decide (s.clk.localCount < x.2 + 1000000000)
      (3 ≤ recent.length → Answers (.faultAssert src r) s fun t =>
        t.fc.chipResetDue = true ∧ tgetD t.fc.sticky 3 false = true ∧ t.boot.mode = s.boot.mode ∧ t.qps = s.qps) ∧
      (recent.length < 3 → Answers (.faultAssert src r) s fun t =>
        tgetD t.fc.sticky src false = true ∧ (b.num, s.clk.localCount) ∈ t.fc.recentResets ∧
        (b = .ctl → t.boot.reloading = true) ∧ (∀ sl, b = .sleeve sl → (s.slv sl).enable = true → s.slvUp sl = true →
          (∀ n, (n = 519 ∨ n = 642 ∨ n = 704 ∨ (744 ≤ n ∧ n ≤ 750) ∨ (840 ≤ n ∧ n ≤ 846) ∨ n = 961) →
            actionOf (s.reactOf n) ≠ 3) → (t.slv sl).state = .down))) ∧
    (s.boot.mode = .safe → Answers (.faultAssert src r) s fun t =>
      tgetD t.fc.sticky src false = true ∧ s.LoggedFault t src r ∧ t.boot = s.boot ∧ t.fc.errLow = s.fc.errLow ∧
      t.fc.traps = s.fc.traps ∧ t.fc.chipResetDue = s.fc.chipResetDue ∧ t.qps = s.qps ∧ t.lasting = s.lasting)

/-- R10, R441, R445, R446, R449, R455: an unacknowledged trap is source 2; ERR_N's pulse ends high unless HOLD or the safe
state keeps it low, and RELEASE ends it at once or at the pulse's end; LOCK is set for good; the scrub's parity is source 0
or 1; Lining's and Jalid's watchdogs are sources 71 and 433; a reserved source does nothing. -/
def Obligations.FaultControls : Prop :=
  ∀ (s : State),
    let live := s.boot.mode ≠ .noPower ∧ s.boot.mode ≠ .off
    (∀ src r, live → srcExists src = true → exec (.faultAssert src r) s = .next (s.after (s.raise src r))) ∧
    (∀ src r, (¬ live ∨ srcExists src = false) → exec (.faultAssert src r) s = .next (s.after s)) ∧
    (∀ n l, s.fc.traps = n :: l → (s.dom .ctl).state = .run → (s.dom .lin).state = .run →
      exec .trapAckTimeout s = .next (s.after (({ s with fc := { s.fc with traps := l } }).raise 2 faultPlain))) ∧
    ((s.fc.traps = [] ∨ (s.dom .ctl).state ≠ .run ∨ (s.dom .lin).state ≠ .run) →
      exec .trapAckTimeout s = .next (s.after s)) ∧
    (s.fc.pulse = true → s.fc.hold = false → s.boot.mode ≠ .safe → exec .errNPulseEnd s = .next (s.after { s with
      fc := { s.fc with pulse := false, releaseDue := false, errLow := false } })) ∧
    (s.fc.pulse = true → s.fc.releaseDue = true → s.boot.mode ≠ .safe → exec .errNPulseEnd s = .next (s.after { s with
      fc := { s.fc with pulse := false, releaseDue := false, errLow := false } })) ∧
    (s.fc.pulse = true → ((s.fc.hold = true ∧ s.fc.releaseDue = false) ∨ s.boot.mode = .safe) →
      exec .errNPulseEnd s = .next (s.after { s with fc := { s.fc with pulse := false, releaseDue := false } })) ∧
    (s.fc.pulse = false → exec .errNPulseEnd s = .next (s.after s)) ∧
    (s.regServed 0 = true → Completes .release s fun own =>
      own.lasting = { s.lasting with fcBits := (s.fc.lock, s.fc.hold, s.fc.pulse) } ∧ own.fc.pulse = s.fc.pulse ∧
      own.fc.errLow = (if s.fc.pulse then s.fc.errLow else false) ∧ own.qps = s.qps ∧ own.units = s.units) ∧
    (s.regServed 0 = true → Completes .fcLock s fun own =>
      own.lasting = { s.lasting with fcBits := (true, s.fc.hold, s.fc.releaseDue) } ∧ own.qps = s.qps ∧ own.units = s.units) ∧
    (s.regServed 0 = false → exec .release s = .next (s.after s) ∧ exec .fcLock s = .next (s.after s)) ∧
    (∀ x y, live → s.boot.mode ≠ .factory → Completes (.faultScrub x y) s fun own => own = { s with fc := { s.fc with asserted :=
      s.fc.asserted ++ (if x then [(0, faultPlain)] else []) ++ (if y then [(1, faultPlain)] else []) } }) ∧
    (∀ x y, (¬ live ∨ s.boot.mode = .factory) → exec (.faultScrub x y) s = .next (s.after s)) ∧
    (s.lin.firmware = true → exec .liningWatchdog s = .next (s.after (s.raise 71 faultPlain))) ∧
    (s.lin.firmware = false → exec .liningWatchdog s = .next (s.after s)) ∧
    (s.boot.mode = .oper → s.boot.reloading = false →
      exec .jalidWatchdog s = .next (s.after (s.raise 433 faultPlain))) ∧
    ((s.boot.mode ≠ .oper ∨ s.boot.reloading = true) → exec .jalidWatchdog s = .next (s.after s))

/-! ## Lining: sensors, log, management bindings, PLDM -/

/-- R397, R458, R459, R462, R464: a sample stores the readings; a temperature or a current that has come above its limit and a
droop detector beyond 16 set their sources; MALERT_N is low at an upper warning or while ERR_N is asserted; the oldest
queued record is written under the next sequence number and lost records are said in one; the Alert Response Address is
answered while MALERT_N is low; the I3C target takes its dynamic address. -/
def Obligations.SensorsAndLog : Prop :=
  ∀ (s : State),
    (∀ r : Readings, s.liningRuns = true → r.temps.length = 32 → r.volts.length = 16 → r.amps.length = 8 →
      r.droops.length = 64 → Completes (.sensorSample r) s fun own =>
        own = { s with pwr := { s.pwr with aonLoad := satOfNat 8 r.aonLoad },
                       fc := { s.fc with asserted := own.fc.asserted },
                       lin := { s.lin with tempC := r.temps, volts := r.volts, amps := r.amps, power := r.power,
                                           droops := r.droops, warn := r.temps.any fun t => decide (tMax - 100 ≤ t) } } ∧
        own.malert = ((r.temps.any fun t => decide (tMax - 100 ≤ t)) || s.fc.errLow) ∧
        (∀ i, i < 32 → ((128 + i, faultAt (128 + i)) ∈ own.fc.asserted ↔
          (128 + i, faultAt (128 + i)) ∈ s.fc.asserted ∨ (lget s.lin.tempC i 0 ≤ tMax ∧ tMax < lget r.temps i 0))) ∧
        (∀ i, i < 8 → ((176 + i, faultAt (176 + i)) ∈ own.fc.asserted ↔ (176 + i, faultAt (176 + i)) ∈ s.fc.asserted ∨
          (lget s.lin.amps i 0 ≤ lget railMax i 0 ∧ lget railMax i 0 < lget r.amps i 0))) ∧
        ((184, faultAt 184) ∈ own.fc.asserted ↔ (184, faultAt 184) ∈ s.fc.asserted ∨
          ((∀ t ∈ s.lin.tempC, t ≤ tMax + 100) ∧ ∃ t ∈ r.temps, tMax + 100 < t)) ∧
        (∀ i, i < 64 → ((192 + i, faultAt (192 + i)) ∈ own.fc.asserted ↔
          (192 + i, faultAt (192 + i)) ∈ s.fc.asserted ∨ 16 < lget r.droops i 0))) ∧
    (∀ r : Readings, s.liningRuns = false → s.boot.mode ≠ .noPower → exec (.sensorSample r) s =
      .next (s.after { s with pwr := { s.pwr with aonLoad := satOfNat 8 r.aonLoad } })) ∧
    (∀ r q, s.liningRuns = true → s.lin.logQueue = r :: q → s.lin.log.length < 262144 → q.length < 1024 →
      Completes .eventLogWrite s fun own =>
        own.lin = { s.lin with logQueue := own.lin.logQueue, log := s.lin.log ++ [{ r with seq := s.lin.nextSeq }],
                               nextSeq := s.lin.nextSeq + 1, logLost := 0 } ∧
        (s.lin.logLost = 0 → own.lin.logQueue = q) ∧
        (s.lin.logLost ≠ 0 → ∃ x, own.lin.logQueue = q ++ [x] ∧ x.type = 0x0D ∧
          x.data = fit 16 (leBytes 4 s.lin.logLost.toNat)) ∧
        own = { s with lin := own.lin }) ∧
    ((s.liningRuns = false ∨ (s.lin.logQueue = [] ∧ s.lin.logLost = 0)) → exec .eventLogWrite s = .next (s.after s)) ∧
    (s.liningRuns = true → (s.lin.bus = none ∨ s.lin.bus = some .smbus) → (s.lin.warn = true ∨ s.fc.errLow = true) →
      exec .alertResponseAddress s = .next (s.after { s with
        lin := { s.lin with bus := some .smbus },
        out := s.out ++ [.araAnswer (0x58 + s.boot.addrSel.setWidth 7)] })) ∧
    ((s.liningRuns = false ∨ s.lin.bus = some .i3c ∨ (s.lin.warn = false ∧ s.fc.errLow = false)) →
      exec .alertResponseAddress s = .next (s.after s)) ∧
    (∀ a, s.liningRuns = true → (s.lin.bus = none ∨ s.lin.bus = some .i3c) →
      exec (.dynamicAddressAssignment a) s = .next (s.after { s with
        lin := { s.lin with bus := some .i3c, i3cAddr := some a } })) ∧
    (∀ a, (s.liningRuns = false ∨ s.lin.bus = some .smbus) →
      exec (.dynamicAddressAssignment a) s = .next (s.after s))

/-- R464 to R467, R494: an open endpoint answers the MCTP control commands, and Lining's the PLDM discovery commands and the
log reads, each with one message on its binding and no other effect; a closed one takes nothing. The completion codes and the
layout of the answers are the model's choice (log entry 33). -/
def Obligations.ManagementAnswers : Prop :=
  ∀ (b : Binding) (s : State),
    (s.endpointOpen b = true →
      Completes (.getEndpointId b) s (Said b [0, 0x02, 0, lget s.lin.eids (bindNum b) 0, 0, 0] s) ∧
      Completes (.getMessageTypeSupport b) s (Said b (if b = .bh then [0, 0x05, 0, 1, 0x7E] else [0, 0x05, 0, 2, 1, 0x7E]) s) ∧
      (∀ eid, eid ≠ 0 → eid ≠ 0xFF → Completes (.setEndpointId b eid) s
        (Said b [0, 0x01, 0, 0, eid, 0] { s with lin := { s.lin with eids := lmod s.lin.eids (bindNum b) fun _ => eid } })) ∧
      (∀ eid, (eid = 0 ∨ eid = 0xFF) → Completes (.setEndpointId b eid) s (Said b [0, 0x01, 0x02] s)) ∧
      (∀ t, (t = 0 ∨ t = 0xFF ∨ t = 0x7E ∨ (t = 0x01 ∧ b ≠ .bh)) → Completes (.getMctpVersionSupport b t) s
        (Said b ([0, 0x04, 0] ++ Config.protocolVersion t.toNat) s)) ∧
      (∀ t, t ≠ 0 → t ≠ 0xFF → t ≠ 0x7E → (t ≠ 0x01 ∨ b = .bh) → Completes (.getMctpVersionSupport b t) s
        (Said b [0, 0x04, 0x80] s))) ∧
    (s.bindingOpen b = true →
      Completes (.getTid b) s (Said b [1, 0, 0x02, 0, Config.terminusId] s) ∧
      Completes (.getPldmTypes b) s (Said b [1, 0, 0x04, 0, 0x25, 0, 0, 0, 0, 0, 0, 0] s) ∧
      (∀ t, (t = 0 ∨ t = 2 ∨ t = 5) → Completes (.getPldmVersion b t) s
          (Said b ([1, 0, 0x03, 0, 0, 0, 0, 0, 0x05] ++ Config.protocolVersion (256 + t.toNat)) s) ∧
        Completes (.getPldmCommands b t) s fun own => ∃ d : Bytes, Said b ([1, 0, 0x05, 0] ++ d) s own ∧ d.length = 32 ∧
          ∀ n, n < 256 → bitAt (leNat d) n = (pldmCommands t).contains n) ∧
      (∀ t, t ≠ 0 → t ≠ 2 → t ≠ 5 → Completes (.getPldmVersion b t) s (Said b [1, 0, 0x03, 0x83] s) ∧
        Completes (.getPldmCommands b t) s (Said b [1, 0, 0x05, 0x83] s)) ∧
      (∀ d : Bytes, 1 ≤ leAt 4 2 d → leAt 4 2 d ≤ 47 → Completes (.mctpLogRead b d) s
        (Said b ([0x7E, 0x1F, 0x3C, 0] ++ s.logAnswer (BitVec.ofNat 32 (leAt 0 4 d)) (leAt 4 2 d)) s)) ∧
      (∀ d : Bytes, (leAt 4 2 d = 0 ∨ 47 < leAt 4 2 d) → Completes (.mctpLogRead b d) s (Said b [0x7E, 0x1F, 0x3C, 0x02] s)) ∧
      Completes (.getPdrRepositoryInfo b) s fun own => ∃ x y : Bytes, x.length = 26 ∧ y.length = 9 ∧
        Said b ([1, 2, 0x50, 0, 0] ++ x ++ leBytes 4 s.pdrHandles.length ++ y) s own) ∧
    (s.endpointOpen b = false → ∀ eid t, ∀ c ∈ [Instr.setEndpointId b eid, .getEndpointId b, .getMctpVersionSupport b t,
      .getMessageTypeSupport b], exec c s = .next (s.after s)) ∧
    (s.bindingOpen b = false → ∀ t d n v x, ∀ c ∈ [Instr.mctpLogRead b d, .getTid b, .getPldmVersion b t, .getPldmTypes b,
      .getPldmCommands b t, .getPdrRepositoryInfo b, .getPdr b n, .getSensorReading b n, .getSensorThresholds b n,
      .getNumericEffecterValue b n, .powerCap b v, .accountWindow b v, .errRelease b v, .chipResetEffecter b v x,
      .ageMeasure b v], exec c s = .next (s.after s))

/-- R228, R458, R459, R466, R467, R471: GetSensorReading says a sensor's reading with the state of its thresholds, a Stitch
sensor's being unavailable while no fresh value has come; GetPDR walks the repository from the Terminus Locator; an
effecter takes the values of its set alone. Codes, layouts and handles are the model's choice (log entry 33). -/
def Obligations.SensorsAndEffecters : Prop :=
  ∀ (b : Binding) (s : State), s.bindingOpen b = true →
    (∀ i, i < 32 → let t := lget s.lin.tempC i 0
      Completes (.getSensorReading b (i + 1)) s (Said b ([1, 2, 0x11, 0, 3, 0, 0, BitVec.ofNat 8 (tempState t), 0,
        BitVec.ofNat 8 (tempState t)] ++ leBytes 2 (t % 65536).toNat) s)) ∧
    (s.lin.tempC ≠ [] → ∃ t ∈ s.lin.tempC, (∀ x ∈ s.lin.tempC, x ≤ t) ∧
      Completes (.getSensorReading b 0x21) s (Said b ([1, 2, 0x11, 0, 3, 0, 0, BitVec.ofNat 8 (tempState t), 0,
        BitVec.ofNat 8 (tempState t)] ++ leBytes 2 (t % 65536).toNat) s)) ∧
    (∀ i, i < 16 → Completes (.getSensorReading b (0x41 + i)) s (Said b ([1, 2, 0x11, 0, 2, 0, 0, 0, 0, 0] ++
      leBytes 2 (lget s.lin.volts i 0)) s)) ∧
    (∀ i, i < 8 → Completes (.getSensorReading b (0x61 + i)) s (Said b ([1, 2, 0x11, 0, 4, 0, 0, 0, 0, 0] ++
      leBytes 4 (lget s.lin.amps i 0)) s)) ∧
    (∀ i, i < 64 → Completes (.getSensorReading b (0x81 + i)) s (Said b ([1, 2, 0x11, 0, 2, 0, 0, 0, 0, 0] ++
      leBytes 2 (lget s.lin.droops i 0)) s)) ∧
    Completes (.getSensorReading b 0x70) s (Said b ([1, 2, 0x11, 0, 4, 0, 0, 0, 0, 0] ++ leBytes 4 s.lin.power) s) ∧
    Completes (.getSensorReading b 0xD0) s (Said b ([1, 2, 0x11, 0, 2, 0, 0, 0, 0, 0] ++ leBytes 2 s.lin.lifeDays.toNat) s) ∧
    (∀ id, s.fixedSensor id = none → s.stitchSensor id = none →
      Completes (.getSensorReading b id) s (Said b [1, 2, 0x11, 0x80] s) ∧
      Completes (.getSensorThresholds b id) s (Said b [1, 2, 0x13, 0x80] s)) ∧
    (∀ id e, s.fixedSensor id = none → s.stitchSensor id = some e →
      Completes (.getSensorReading b id) s (Said b ([1, 2, 0x11, 0, BitVec.ofNat 8 e.dstWidth,
        (if e.fresh then 0 else 2), 0, 0, 0, 0] ++ readingBytes (e.dstWidth, (e.lastOut.toNat : Int))) s)) ∧
    (∀ i, i < 33 → Completes (.getSensorThresholds b (i + 1)) s fun own => ∃ x : Bytes, x.length = 6 ∧
      Said b ([1, 2, 0x13, 0, 3] ++ leBytes 2 ((tMax - 100) % 65536).toNat ++ leBytes 2 (tMax % 65536).toNat ++
        leBytes 2 ((tMax + 100) % 65536).toNat ++ x) s own) ∧
    (∀ h, (h = 0 ∨ h = 0x3000) → s.stitchSensor 0x3000 = none → let d := Config.pdrTemplate 0x3000
      Completes (.getPdr b h) s (Said b ([1, 2, 0x51, 0] ++ leBytes 4 1 ++ zeros 4 ++ [0x05] ++ leBytes 2 d.length ++ d) s)) ∧
    (∀ id e, id ≠ 0 → s.stitchSensor id = some e → Completes (.getPdr b id) s fun own => ∃ n : Nat,
      Said b ([1, 2, 0x51, 0] ++ leBytes 4 n ++ zeros 4 ++ [0x05] ++ leBytes 2 13 ++ leBytes 2 id ++
        [e.uom, e.modifier, BitVec.ofNat 8 e.dstWidth] ++ leBytes 4 0x3F800000 ++ leBytes 4 0) s own) ∧
    (∀ h, h ≠ 0 → h ∉ s.pdrHandles → Completes (.getPdr b h) s (Said b [1, 2, 0x51, 0x82] s)) ∧
    (∀ id, (id = 0 ∨ 5 < id) → Completes (.getNumericEffecterValue b id) s (Said b [1, 2, 0x32, 0x80] s)) ∧
    Completes (.getNumericEffecterValue b 1) s
      (Said b ([1, 2, 0x32, 0, 4, 1] ++ leBytes 4 s.el.opCap ++ leBytes 4 s.el.opCap) s) ∧
    Completes (.getNumericEffecterValue b 2) s
      (Said b ([1, 2, 0x32, 0, 4, 1] ++ leBytes 4 s.el.opWindow ++ leBytes 4 s.el.opWindow) s) ∧
    (∀ id, 3 ≤ id → id ≤ 5 → Completes (.getNumericEffecterValue b id) s fun own => ∃ x : Bytes, x.length = 4 ∧
      Said b ([1, 2, 0x32, 0, 4, 1] ++ x ++ x) s own) ∧
    (∀ v, (v = 0 ∨ (12000 ≤ v ∧ v ≤ 44000)) →
      Completes (.powerCap b v) s (Said b [1, 2, 0x31, 0] { s with el := { s.el with opCap := v } })) ∧
    (∀ v, v ≠ 0 → (v < 12000 ∨ 44000 < v) → Completes (.powerCap b v) s (Said b [1, 2, 0x31, 0x02] s)) ∧
    (∀ v, (v = 0 ∨ (10 ≤ v ∧ v ≤ 10000)) →
      Completes (.accountWindow b v) s (Said b [1, 2, 0x31, 0] { s with el := { s.el with opWindow := v } })) ∧
    (∀ v, v ≠ 0 → (v < 10 ∨ 10000 < v) → Completes (.accountWindow b v) s (Said b [1, 2, 0x31, 0x02] s)) ∧
    (s.boot.mode ≠ .safe → Completes (.errRelease b 1) s (Said b [1, 2, 0x31, 0] { s with
      fc := if s.fc.pulse then { s.fc with releaseDue := true } else { s.fc with errLow := false, releaseDue := false } })) ∧
    (s.boot.mode = .safe → Completes (.errRelease b 1) s (Said b [1, 2, 0x31, 0] s)) ∧
    Completes (.ageMeasure b 1) s (Said b [1, 2, 0x31, 0] { s with lin := { s.lin with toMeasure := List.range 48 } }) ∧
    (∀ v, v ≠ 1 → Completes (.errRelease b v) s (Said b [1, 2, 0x31, 0x02] s) ∧
      Completes (.ageMeasure b v) s (Said b [1, 2, 0x31, 0x02] s)) ∧
    (∀ v x, v ≠ 0x5A → Completes (.chipResetEffecter b v x) s (Said b [1, 2, 0x31, 0x02] s)) ∧
    (∀ x, s.resettable = false → Completes (.chipResetEffecter b 0x5A x) s (Said b [1, 2, 0x31, 0] s)) ∧
    (∀ x, s.resettable = true → Completes (.chipResetEffecter b 0x5A x) s fun own =>
      own.boot.resetCause = 0x06 ∧ own.qps = [] ∧ own.units = [] ∧ own.prov.tenants = [] ∧ own.boot.mode ≠ .oper)

/-- R155 to R158, R407, R408, R436, R472 to R476: an update over MCTP: the session opens on the twin slot, whose header is
erased when its component is named; pieces are taken in order, and WRITTEN counts whole 4 KiB units; verification installs
the image in the target slot alone or leaves it invalid, and never changes NEXT; ActivateFirmware makes the installed slot
NEXT; a cancel or 60 s of silence closes the session. Codes and layouts are the model's choice (log entry 34). -/
def Obligations.ManagementUpdate : Prop :=
  ∀ (b : Binding) (s : State),
    let u := s.lin.session
    let ours := u.isOpen = true ∧ u.pldm = true
    (s.bindingOpen b = true →
      (u.isOpen = true → ∀ n, Completes (.requestUpdate b n) s (Said b [1, 5, 0x10, 0x81] s)) ∧
      (u.isOpen = false → s.imageTarget = none → ∀ n, Completes (.requestUpdate b n) s (Said b [1, 5, 0x10, 0x8A] s)) ∧
      (∀ slot n, u.isOpen = false → s.imageTarget = some slot → n < 32 →
        Completes (.requestUpdate b n) s (Said b [1, 5, 0x10, 0x83] s)) ∧
      (∀ slot n, u.isOpen = false → s.imageTarget = some slot → 32 ≤ n → Completes (.requestUpdate b n) s fun own =>
        (∃ k, own = { ({ s with freeIdx := k } : State).mctpSay b [1, 5, 0x10, 0, 0, 0, 0] with
          freeIdx := own.freeIdx, lin := own.lin }) ∧
        own.lin.session = { id := u.id + 1, isOpen := true, pldm := true, slot := slot, imageLen := 0, written := 0,
                            via := b, named := false, maxXfer := min n 4096, got := 0, transferred := false }) ∧
      (∀ comp, ¬ ours → Completes (.passComponentTable b comp) s (Said b [1, 5, 0x13, 0x80] s) ∧
        ∀ n, Completes (.updateComponent b comp n) s (Said b [1, 5, 0x14, 0x80] s)) ∧
      (∀ comp, ours → Completes (.passComponentTable b comp) s
        (Said b ([1, 5, 0x13, 0] ++ if comp = 1 ∨ comp = 2 then [0, 0] else [1, 6]) s)) ∧
      (∀ comp n, ours → u.named = false → (comp = 1 ∨ comp = 2) → n % 4096 = 0 → n ≤ 2 ^ 25 →
        let slot := if comp = 2 then Slot.recovery else u.slot
        Completes (.updateComponent b comp n) s fun own =>
          own.boot = s.boot.setSlot slot { s.boot.slot slot with valid := false, erased := true } ∧
          own.lin.session = { u with slot := slot, imageLen := n, named := true } ∧ own.lin.logQueue = s.lin.logQueue ∧
          SaidAll [(b, [1, 5, 0x14, 0] ++ zeros 8), (u.via, if u.got < n
            then [1, 5, 0x15] ++ leBytes 4 u.got ++ leBytes 4 (min u.maxXfer (n - u.got)) else [1, 5, 0x16, 0])] s own) ∧
      (∀ comp n, ours → u.named = true → Completes (.updateComponent b comp n) s (Said b [1, 5, 0x14, 0x84] s)) ∧
      (∀ comp n, ours → u.named = false → comp ≠ 1 → comp ≠ 2 →
        Completes (.updateComponent b comp n) s (Said b ([1, 5, 0x14, 0, 1, 6] ++ zeros 6) s)) ∧
      (∀ comp n, ours → u.named = false → (comp = 1 ∨ comp = 2) → (n % 4096 ≠ 0 ∨ 2 ^ 25 < n) →
        Completes (.updateComponent b comp n) s (Said b [1, 5, 0x14, 0x02] s)) ∧
      (u.isOpen = true → Completes (.activateFirmware b) s (Said b [1, 5, 0x1A, 0x84] s)) ∧
      (u.isOpen = false → (u.pldm = false ∨ (s.boot.slot u.slot).valid = false) →
        Completes (.activateFirmware b) s (Said b [1, 5, 0x1A, 0x80] s)) ∧
      (u.isOpen = false → u.pldm = true → (s.boot.slot u.slot).valid = true → u.slot = .recovery →
        Completes (.activateFirmware b) s (Said b [1, 5, 0x1A, 0x85] s)) ∧
      (u.isOpen = false → u.pldm = true → (s.boot.slot u.slot).valid = true → u.slot ≠ .recovery →
        Completes (.activateFirmware b) s fun own =>
          own.boot = { s.boot with next := u.slot, prev := s.boot.running, pendingBoot := true, attempts := 0 } ∧
          SaidAll [(b, [1, 5, 0x1A, 0, 0, 0])] s own ∧ own.lin.session = u) ∧
      (ours → Completes (.cancelUpdate b) s fun own => own.lin.session = { u with isOpen := false } ∧ own.boot = s.boot ∧
        SaidAll [(b, [1, 5, 0x1D, 0] ++ zeros 9)] s own) ∧
      (ours → Completes (.cancelUpdateComponent b) s fun own => own.lin.session = { u with isOpen := false } ∧
        own.boot = s.boot ∧ SaidAll [(b, [1, 5, 0x1C, 0])] s own) ∧
      (¬ ours → Completes (.cancelUpdate b) s (Said b [1, 5, 0x1D, 0x80] s) ∧
        Completes (.cancelUpdateComponent b) s (Said b [1, 5, 0x1C, 0x80] s))) ∧
    (s.bindingOpen b = false → ∀ n m, ∀ c ∈ [Instr.requestUpdate b n, .passComponentTable b n, .updateComponent b n m,
      .activateFirmware b, .cancelUpdate b, .cancelUpdateComponent b], exec c s = .next (s.after s)) ∧
    (s.liningRuns = true → ours →
      (∀ (d : Bytes), u.named = true → u.transferred = false → d.length = min u.maxXfer (u.imageLen - u.got) → d ≠ [] →
        let ask := fun n => SaidAll [(u.via, if n < u.imageLen
          then [1, 5, 0x15] ++ leBytes 4 n ++ leBytes 4 (min u.maxXfer (u.imageLen - n)) else [1, 5, 0x16, 0])] s
        (Completes (.requestFirmwareData u.got d true) s fun own => own.boot = s.boot ∧ own.fc = s.fc ∧
          ask (u.got + d.length) own ∧
          own.lin = { s.lin with session := { u with got := u.got + d.length,
                                                     written := (u.got + d.length) / 4096 * 4096 } }) ∧
        Completes (.requestFirmwareData u.got d false) s fun own => own.boot = s.boot ∧
          own.fc.asserted = s.fc.asserted ++ [(69, faultPlain)] ∧ ask u.written own ∧
          own.lin = { s.lin with session := { u with got := u.written } }) ∧
      (∀ off d ok, (off ≠ u.got ∨ u.named = false ∨ u.transferred = true) →
        exec (.requestFirmwareData off d ok) s = .next (s.after s)) ∧
      (u.named = true → u.got = u.imageLen → exec .transferComplete s = .next (s.after { s with
        lin := { s.lin with session := { u with transferred := true } } })) ∧
      ((u.named = false ∨ u.got ≠ u.imageLen) → exec .transferComplete s = .next (s.after s)) ∧
      (∀ f ok x, u.transferred = true →
        let kept := fun (own : State) (r : List Byte) => own.boot = s.boot ∧ own.lin.session = { u with isOpen := false } ∧
          SaidAll [(u.via, [1, 5, 0x17] ++ r)] s own
        let old := s.boot.fuses ≤ f.manifest.secVer ∧
          (u.slot = .recovery → (s.boot.slot s.boot.running).secVer ≤ f.manifest.secVer)
        let now : SlotInfo := { valid := true, erased := false, secVer := f.manifest.secVer, build := f.manifest.build }
        (manifestGood f = false → Completes (.verifyComplete f ok x) s fun own => kept own [1] ∧
          own.fc.asserted = s.fc.asserted) ∧
        (manifestGood f = true → ¬ old → Completes (.verifyComplete f ok x) s fun own => kept own [3] ∧
          own.fc.asserted = s.fc.asserted) ∧
        (manifestGood f = true → old → sectionsGood f = false → Completes (.verifyComplete f ok x) s fun own =>
          kept own [0] ∧ own.fc.asserted = s.fc.asserted) ∧
        (manifestGood f = true → old → sectionsGood f = true → ok = false → Completes (.verifyComplete f ok x) s fun own =>
          kept own [0] ∧ own.fc.asserted = s.fc.asserted ++ [(69, faultPlain)]) ∧
        (manifestGood f = true → old → sectionsGood f = true → ok = true → (s.boot.stage ≠ .noImage ∨ u.slot ≠ .a) →
          Completes (.verifyComplete f ok x) s fun own => own.boot = s.boot.setSlot u.slot now ∧
            own.lin.session = { u with isOpen := false } ∧
            SaidAll [(u.via, [1, 5, 0x17, 0]), (u.via, [1, 5, 0x18, 0, 0, 0])] s own) ∧
        (manifestGood f = true → old → sectionsGood f = true → ok = true → s.boot.stage = .noImage → u.slot = .a →
          Completes (.verifyComplete f ok x) s fun own => own.boot.next = .a ∧ own.boot.slot .a = now ∧
            own.boot.stage = .rom ∧ own.boot.resetCause = 0x06)) ∧
      Completes .updateAgentTimeout s fun own => own.lin.session = { u with isOpen := false } ∧ own.boot = s.boot ∧
        own.out = s.out ∧ own.fc = s.fc) ∧
    ((s.liningRuns = false ∨ ¬ ours) → ∀ off d ok f x, ∀ c ∈ [Instr.requestFirmwareData off d ok, .transferComplete,
      .verifyComplete f ok x, .updateAgentTimeout], exec c s = .next (s.after s))

/-! ## Ageing -/

/-- R477 to R481, R483, R484: a minute of powered time adds its equivalent stress; a ledger day writes its record and the
forecast, which below a year is source 305, has every pair measured again, and re-fits where one is due; a measured pair
takes its drift and age, and each whole percent crossed is its source, with VDD raised by 8 mV up to 0.85 V for a core or
SRAM pair; EYE is measured on the active lanes of an UP Sleeve; AGE_CTRL starts a measurement or ends the derating. -/
def Obligations.AgeingCommands : Prop :=
  ∀ (s : State),
    (∀ t : Int, s.liningRuns = true → Completes (.equivalentStressMinute t) s fun own =>
      own.lin.stressUs = s.lin.stressUs + 60 * stressAf t ∧ own.lin.poweredSec = s.lin.poweredSec + 60 ∧
      own.lin.today.minutes = s.lin.today.minutes + 1 ∧ own.lin.today.stress = s.lin.today.stress + 60 * stressAf t ∧
      own.lin.today.vddSum = s.lin.today.vddSum + s.lin.vddMv.toNat ∧
      own = { s with lin := own.lin } ∧ own.lin.ledger = s.lin.ledger ∧ own.lin.drift = s.lin.drift) ∧
    (∀ t d, s.liningRuns = false → exec (.equivalentStressMinute t) s = .next (s.after s) ∧
      exec (.ledgerDay d) s = .next (s.after s) ∧ ∀ x, exec (.ageMeasurement x) s = .next (s.after s)) ∧
    (∀ d : DayFigures, s.liningRuns = true → s.lin.ledger.length ≤ 12288 → Completes (.ledgerDay d) s fun own =>
      let l := s.lin.ledger ++ [{ day := s.lin.days + 1, drift := s.lin.drift, wear := s.lin.today }]
      let last := own.lin.ledger.drop (own.lin.ledger.length - 90)
      let sum := (last.map (·.wear.stress)).foldl (· + ·) 0
      let figure := if sum = 0 then 65535 else (219150 * 3600 * 10 ^ 6 - s.lin.stressUs) * last.length / sum
      let drift := fun i => Config.driftFit (own.lin.ledger.map fun r => (r.day, (lget r.drift i 0).toNat)) - own.lin.days
      let good := d.residualBelow = true ∧ coefsNear (s.el.coefSet + 1) = true
      let due := (s.lin.days + 1) % 30 = 0 ∨ s.lin.days + 1 ∈ s.lin.refitDays
      own.lin.days = s.lin.days + 1 ∧ own.lin.ledger = l.drop (l.length - 12288) ∧ own.lin.ledger.length ≤ 12288 ∧
      (∃ days, own.lin.lifeDays = satOfNat 16 days ∧ (s.lin.worn = true → days = 0) ∧
        (s.lin.worn = false → days ≤ figure ∧ (∀ i, i < 48 → days ≤ drift i) ∧
          (days = figure ∨ ∃ i, i < 48 ∧ days = drift i)) ∧
        ((305, faultPlain) ∈ own.fc.asserted ↔ (305, faultPlain) ∈ s.fc.asserted ∨ days < 365)) ∧
      own.lin.toMeasure = List.range 48 ∧
      (due → (good → own.el.coefPending = true) ∧
        (¬ good → own.el.coefPending = s.el.coefPending ∧ (708, faultPlain) ∈ own.fc.asserted)) ∧
      (¬ due → own.el.coefPending = s.el.coefPending) ∧ own.el.coefSet = s.el.coefSet ∧ own.qps = s.qps ∧
      own.boot = s.boot ∧ own.prov = s.prov) ∧
    (∀ (drifts : List Nat) (i : Nat), s.liningRuns = true → i < 48 → s.lin.drift.length = 48 → s.lin.ageAt.length = 48 →
      s.lin.planned.length = 48 → i ∈ s.lin.toMeasure → (s.dom (pairDomain i)).state = .run →
      let d := lget drifts i 0
      Completes (.ageMeasurement drifts) s fun own =>
        lget own.lin.drift i 0 = satOfNat 16 d ∧ lget own.lin.ageAt i 0 = s.lin.poweredSec ∧ i ∉ own.lin.toMeasure ∧
        lget own.lin.planned i 0 = max (d / 100) (lget s.lin.planned i 0) ∧
        (lget s.lin.planned i 0 < d / 100 → (256 + i, faultPlain) ∈ own.fc.asserted) ∧
        (∀ j ∈ s.lin.toMeasure, (s.dom (pairDomain j)).state ≠ .run → j ∈ own.lin.toMeasure) ∧
        (s.lin.toMeasure = [i] → i ≤ 19 → d / 100 = lget s.lin.planned i 0 + 1 → s.lin.vddMv.toNat < 850 →
          own.lin.vddMv.toNat = min 850 (s.lin.vddMv.toNat + 8) ∧ own.lin.actions = satInc s.lin.actions ∧
          .avs (min 850 (s.lin.vddMv.toNat + 8)) ∈ own.out) ∧
        (s.lin.toMeasure = [i] → i ≤ 19 → d / 100 = lget s.lin.planned i 0 + 1 → 850 ≤ s.lin.vddMv.toNat →
          own.lin.vddMv = s.lin.vddMv ∧ own.lin.worn = true ∧ own.lin.lifeDays = 0) ∧
        own.qps = s.qps ∧ own.boot = s.boot ∧ own.prov = s.prov) ∧
    (∀ sl, Completes (.marginDeferExpiry sl) s fun own =>
      own.lin.deferred sl = [] ∧ own.qps = s.qps ∧ own.boot = s.boot ∧
      (s.lin.deferred sl = [] → own = { s with lin := s.lin.setDeferred sl [] }) ∧
      (∀ lane, lane < 8 → (3, lane) ∈ s.lin.deferred sl → bitAt (own.slv sl).retiredRx.toNat lane = true) ∧
      (∀ lane, (4, lane) ∈ s.lin.deferred sl → 1 < (s.lin.planRate sl).toNat →
        (own.lin.planRate sl).toNat < (s.lin.planRate sl).toNat ∧ (304, faultPlain) ∈ own.fc.asserted)) ∧
    (s.regServed 0 = true →
      (Completes .measureNow s fun own => own.lin = { s.lin with toMeasure := List.range 48 } ∧
        own.qps = s.qps ∧ own.units = s.units ∧ own.tp = s.tp) ∧
      Completes .clearDerate s fun own => own.lin = { s.lin with clearA := true, clearB := true, clearHost := true } ∧
        own.qps = s.qps ∧ own.units = s.units ∧ own.tp = s.tp) ∧
    (s.regServed 0 = false →
      exec .measureNow s = .next (s.after s) ∧ exec .clearDerate s = .next (s.after s)) ∧
    (∀ sl eyes, (s.slv sl).state ≠ .up → exec (.eyeMeasurement sl eyes) s = .next (s.after s)) ∧
    (∀ sl eyes, (s.slv sl).state = .up → Completes (.eyeMeasurement sl eyes) s fun own =>
      own.slv sl = { s.slv sl with eye := (own.slv sl).eye } ∧ own.slv sl.other = s.slv sl.other ∧ own.lin = s.lin ∧
      ∀ i, i < 8 → lget (own.slv sl).eye i 0 =
        if (s.slv sl).rxActive i then satOfNat 16 (lget eyes i 0) else 0)

/-! ## Buttonhole -/

/-- R490, R494 to R497: COUNTER_READ answers up to five counters of the live or the snapshot view with its time, and an invalid
request with none; TRACE_EN starts the stream with MARK 0x02 behind a SYNC and its clearing keeps what is buffered; a
software mark is pushed while the trace runs; the periodic COUNTER messages say the counters from FIRST to LAST. -/
def Obligations.Buttonhole : Prop :=
  ∀ (s : State),
    (∀ (flags : Byte) (first n : Nat), s.vdmOpen = true → flags.toNat ≤ 1 → 1 ≤ n → n ≤ 5 → first + n ≤ 4096 →
      let view := if flags = 1 then s.bh.snap else s.bh.count
      let time := if flags = 1 then s.bh.snapTime else s.clk.timebase
      Completes (.counterRead flags first n) s fun own => own = s.emits (mctpOut .bh
        ([0x7E, 0x1F, 0x3C, 0x10, 0] ++ leBytes 2 first ++ leBytes 1 n ++ [0] ++ leBytes 8 time.toNat ++
          ((List.range n).map fun i => leBytes 8 (tgetD view (first + i) 0).toNat).flatten))) ∧
    (∀ (flags : Byte) (first n : Nat), s.vdmOpen = true → (1 < flags.toNat ∨ n = 0 ∨ 5 < n ∨ 4096 < first + n) →
      Completes (.counterRead flags first n) s fun own => own = s.emits (mctpOut .bh
        ([0x7E, 0x1F, 0x3C, 0x10, 1] ++ leBytes 2 first ++ [0, 0] ++ leBytes 8 s.clk.timebase.toNat))) ∧
    (∀ flags first n, s.vdmOpen = false → exec (.counterRead flags first n) s = .next (s.after s)) ∧
    (s.regServed 1 = true →
      (s.bh.traceEn = false → s.bh.buffer.length < 4096 → Completes .traceEnSet s fun own =>
        own.bh.traceEn = true ∧ own.bh.running = true ∧ own.bh.sinceSync = 1023 ∧ own.bh.sampleRun = 0 ∧
        own.bh.buffer = s.bh.buffer ++ [traceMsg 0x05 0x02 s.clk.timebase 0] ∧ own.bh.sel = s.bh.sel ∧
        own.qps = s.qps ∧ own.units = s.units ∧ own.tp = s.tp) ∧
      (s.bh.traceEn = true → Completes .traceEnSet s fun own => own.bh.traceEn = true ∧
        own.bh.sinceSync = s.bh.sinceSync ∧ s.bh.buffer <+: own.bh.buffer ∧ own.lasting = s.lasting ∧ own.qps = s.qps) ∧
      (Completes .traceEnClear s fun own => own.bh.traceEn = false ∧ s.bh.buffer <+: own.bh.buffer ∧
        own.lasting = s.lasting ∧ own.qps = s.qps) ∧
      (s.bh.traceEn = true → s.bh.buffer.length < 4090 → Completes .mark s fun own =>
        own.bh.buffer.getLast? = some (traceMsg 0x05 0x01 s.clk.timebase 0) ∧ s.bh.buffer <+: own.bh.buffer ∧
        own.bh.lost = s.bh.lost ∧ own.lasting = s.lasting ∧ own.qps = s.qps) ∧
      (s.bh.traceEn = false → Completes .mark s fun own =>
        own.bh.buffer = s.bh.buffer ∧ own.lasting = s.lasting ∧ own.qps = s.qps)) ∧
    (s.regServed 1 = false → ∀ c ∈ [Instr.traceEnSet, .traceEnClear, .mark], exec c s = .next (s.after s)) ∧
    (let first := bits s.bh.cntTrace.toNat 11 0
      let n := bits s.bh.cntTrace.toNat 23 12 + 1 - first
      let said := (List.range n).map fun i => traceMsg 0x02 0x00 s.clk.timebase
        ((first + i) <<< 52 ||| (tgetD s.bh.count (first + i) 0).toNat)
      (s.bh.traceEn = true → bits s.bh.cntTrace.toNat 31 24 ≠ 0 → s.bh.buffer.length + n ≤ 4096 →
        exec .counterTracePeriod s = .next (s.after { s with bh := { s.bh with buffer := s.bh.buffer ++ said } })) ∧
      ((s.bh.traceEn = false ∨ bits s.bh.cntTrace.toNat 31 24 = 0) →
        exec .counterTracePeriod s = .next (s.after s)))

/-! ## Register writes -/

/-- R10, R11, R58 to R60, R82, R167, R260, R439, R442: a host write reaches a register of a function that is served; a write
of another size or misaligned one does nothing; a reserved word keeps everything; a field outside its range keeps its value;
a 1 clears a sticky bit whose line no longer asserts; a FIXED, reserved or locked reaction byte is not written. A write
outside BAR0 and BAR2 does nothing. -/
def Obligations.RegisterWrites : Prop :=
  ∀ (s : State),
    let side := fun own => own.qps = s.qps ∧ own.units = s.units ∧ own.tp.tx = s.tp.tx ∧ own.tp.rx = s.tp.rx
    (∀ fn bar off size v, bar ≠ 0 → bar ≠ 2 → exec (.registerWrite fn bar off size v) s = .next (s.after s)) ∧
    (∀ fn off size v, inBells fn off = false → s.regServed fn = false →
      exec (.registerWrite fn 0 off size v) s = .next (s.after s)) ∧
    (∀ fn off size v, inBells fn off = false → s.regServed fn = true → ((size ≠ 4 ∧ size ≠ 8) ∨ off % size ≠ 0) →
      exec (.registerWrite fn 0 off size v) s = .next (s.after (s.written fn size))) ∧
    (∀ fn off size v, inBells fn off = true → (size ≠ 8 ∨ off % 64 ≠ 0) →
      exec (.registerWrite fn 0 off size v) s = .next (s.after (s.written fn size))) ∧
    (∀ (fn off : Nat) (v : W64), s.regServed fn = true → off % 4 = 0 → inBells fn off = false →
      pocketBase fn + 0x100 ≤ off → off < pocketBase fn + 0x900 →
      ((s.fn fn).pocket.state ≠ .working → Completes (.registerWrite fn 0 off 4 v) s fun own =>
        (∀ i, i < 4 → tgetD (own.fn fn).pocket.req (off - pocketBase fn - 0x100 + i) 0 =
          lget (leBytes 4 (v.toNat % 2 ^ 32)) i 0) ∧ (own.fn fn).pocket.drop = (s.fn fn).pocket.drop ∧ side own) ∧
      ((s.fn fn).pocket.state = .working → Completes (.registerWrite fn 0 off 4 v) s fun own =>
        (own.fn fn).pocket.req = (s.fn fn).pocket.req ∧ (own.fn fn).pocket.drop = true ∧ side own)) ∧
    (s.regServed 0 = true → ∀ v : W64,
      let w : W32 := v.setWidth 32
      let n := w.toNat
      (∀ k, k < 36 → Completes (.registerWrite 0 0 (0x040000 + 4 * k) 4 v) s fun own =>
        (∀ i, (i / 32 ≠ k ∨ bitAt n (i % 32) = false) → tgetD own.fc.sticky i false = tgetD s.fc.sticky i false) ∧
        (∀ i, i / 32 = k → bitAt n (i % 32) = true → tgetD own.fc.sticky i false = false ∧
          (s.lineHeld i = true → tget s.fc.sticky i = some true → ∃ x, (i, x) ∈ own.fc.asserted)) ∧
        own.lasting = s.lasting ∧ side own) ∧
      (∀ k, k < 288 → Completes (.registerWrite 0 0 (0x041000 + 4 * k) 4 v) s fun own =>
        (∀ i, (i / 4 ≠ k ∨ s.fc.lock = true ∨ srcExists i = false ∨ srcFixed i = true) → own.reactOf i = s.reactOf i) ∧
        (∀ j, j < 4 → let i := 4 * k + j
          let c : Byte := BitVec.ofNat 8 (n >>> (8 * j)) &&& 0x1F
          s.fc.lock = false → srcExists i = true → srcFixed i = false → (actionOf c ≠ 1 ∨ (blockOf i).isSome = true) →
            own.reactOf i = c) ∧ own.fc.sticky = s.fc.sticky ∧ side own) ∧
      (∀ k, k < 4096 → Completes (.registerWrite 0 0 (0x020000 + 4 * k) 4 v) s fun own =>
        tgetD own.plt.host.entries k 0 = BitVec.ofNat 10 (n % 512) ∧ own.plt.sla = s.plt.sla ∧ own.plt.slb = s.plt.slb ∧
        (∀ j, j ≠ k → tget own.plt.host.entries j = tget s.plt.host.entries j) ∧ side own) ∧
      (Completes (.registerWrite 0 0 0x02C004 4 v) s fun own =>
        own.plt.starveLimit = (if 10 ≤ n % 16384 ∧ n % 16384 ≤ 10000 then BitVec.ofNat 14 n else s.plt.starveLimit) ∧
        side own) ∧
      (Completes (.registerWrite 0 0 0x06000C 4 v) s fun own =>
        own.pwr.dlyIdle = (if n % 256 = 0 then s.pwr.dlyIdle else BitVec.ofNat 8 n) ∧
        own.pwr.dlySleep = (if n / 256 % 256 = 0 then s.pwr.dlySleep else BitVec.ofNat 8 (n / 256)) ∧
        own.pwr.dlyDs = (if n / 65536 % 256 = 0 then s.pwr.dlyDs else BitVec.ofNat 8 (n / 65536)) ∧ side own) ∧
      (Completes (.registerWrite 0 0 0x084000 4 v) s fun own =>
        own.win.drDiscard = (if 20 ≤ n % 16384 ∧ n % 16384 ≤ 10000 then BitVec.ofNat 14 n else s.win.drDiscard) ∧
        own.win.slots = s.win.slots ∧ side own) ∧
      (Completes (.registerWrite 0 0 0x0C8004 4 v) s fun own =>
        own.tp.rto.toNat = (if 2 ≤ n / 2 ^ 24 ∧ n / 2 ^ 24 ≤ 50 then n / 2 ^ 24 else s.tp.rto.toNat) ∧
        own.tp.wto.toNat = (if 100 ≤ n % 65536 ∧ n % 65536 ≤ 10000 then n % 65536 else s.tp.wto.toNat) ∧ side own) ∧
      (∀ off, (off = 0x0F0000 ∨ off = 0x000FFC ∨ off = 0x1F0000) →
        exec (.registerWrite 0 0 off 4 v) s = .next (s.after (s.written 0 4)))) ∧
    (s.regServed 1 = true → ∀ v : W64, Completes (.registerWrite 1 0 0x08 4 v) s fun own =>
      own.bh.filter = (v.setWidth 32 : W32) &&& 0xC7FFF7FF ∧ own.lasting = s.lasting ∧ side own)

/-! ## Register reads -/

/-- R10, R11, R13, R51, R58 to R60, R62, R73, R79, R82: a read of BAR0 returns the current value of each register, in one
piece or in two halves; a write-only register, a reserved field and an offset without a register read 0; of an ABSENT VF's
status page TEN_STATUS alone reads; the expansion ROM holds its header and the Yasil table, which reads 0 during a reload. As
a request such a read completes with that value, with Completer Abort in the safe state, as unsupported where the function's
BAR0 does not answer. -/
def Obligations.RegisterReads : Prop :=
  ∀ (s : State),
    let rd := s.bar0Read
    (∀ fn off, rd fn off 8 = rd fn off 4 ++ rd fn (off + 4) 4) ∧
    (rd 0 0x000000 4 = leBytes 4 (0xA1007160 + if Config.gradeFE then 0x10000 else 0) ∧
      rd 0 0x00000C 4 = leBytes 4 s.boot.resetCause.toNat ∧ rd 0 0x050058 8 = leBytes 8 (s.el.devTotal / 1000) ∧
      rd 0 0x070008 8 = leBytes 8 s.prov.spillBase.toNat ∧ rd 0 0x110010 8 = leBytes 8 s.lin.poweredSec ∧
      rd 0 0x0C8000 4 = leBytes 4 s.tp.epoch.toNat ∧ rd 0 0x084004 4 = leBytes 4 s.win.slots.length ∧
      rd 1 0x18 8 = leBytes 8 s.bh.snapTime.toNat) ∧
    (∀ a, rd 0 (0x02C100 + 0x40 * (a : Arb).num) 8 = leBytes 8 (s.arb a).owned.toNat) ∧
    (∀ k, k < 4096 → rd 0 (0x020000 + 4 * k) 4 = leBytes 4 ((tgetD s.plt.host.entries k 0x100).toNat % 512) ∧
      rd 1 (0x10000 + 8 * k) 8 = leBytes 8 (tgetD s.bh.count k 0).toNat) ∧
    (∀ n, n < 1152 → rd 0 (0x041000 + n) 1 = [s.reactOf n] ∧
      bitAt (leNat (rd 0 (0x040000 + n / 8) 1)) (n % 8) = tgetD s.fc.sticky n false) ∧
    (∀ fn i, (i < 0x600 → rd fn (pocketBase fn + 0x900 + i) 1 = [lget (s.fn fn).pocket.rsp i 0]) ∧
      (i < 0x800 → rd fn (pocketBase fn + 0x100 + i) 1 = [tgetD (s.fn fn).pocket.req i 0]) ∧
      (i < 4 → rd fn (pocketBase fn + i) 1 = [0])) ∧
    (∀ fn, rd fn (pocketBase fn + 0x10) 8 = leBytes 8 (s.fn fn).pocket.base.toNat) ∧
    (∀ off, ((0x120000 ≤ off ∧ off < 0x1C0000) ∨ (0x1C8100 ≤ off ∧ off < 0x200000) ∨ (0x210000 ≤ off ∧ off < 0x1000000) ∨
      0x1003000 ≤ off ∨ (0x14 ≤ off ∧ off < 0x10000)) → rd 0 off 1 = [0]) ∧
    (∀ off, ((0x5000 ≤ off ∧ off < 0x8000) ∨ (0x18000 ≤ off ∧ off < 0xF00000)) → rd 1 off 1 = [0]) ∧
    (∀ fn off, isVf fn = true → (off < 0x1000 ∨ 0x8080 ≤ off ∨
      (s.tenant (vfOf fn) = none ∧ 0x2004 ≤ off ∧ off < 0x3000)) → rd fn off 1 = [0]) ∧
    (s.romByte 0 = 0x55 ∧ s.romByte 1 = 0xAA ∧ s.romByte 0x18 = 0x40 ∧ s.romByte 0x19 = 0 ∧
      ((List.range 8).map fun i => s.romByte (0x40 + i)) = [0x50, 0x43, 0x49, 0x52, 0x3C, 0x1F, 0x60, 0x71] ∧
      (∀ i, s.boot.mode = .oper → s.boot.reloading = false → s.romByte (0x1000 + i) = lget (s.yasil 0) i 0) ∧
      (∀ i, (s.boot.mode ≠ .oper ∨ s.boot.reloading = true) → s.romByte (0x1000 + i) = 0)) ∧
    (∀ fn off len,
      (s.link.state = .down → s.registerRead fn off len = s ∧ s.romRead off len = s) ∧
      (s.link.state ≠ .down → s.nonPostedFull = false →
        (s.barGate fn = .served → ∃ u : State, s.registerRead fn off len = u.complete fn .sc (u.bar0Read fn off len) ∧
          u.qps = s.qps ∧ u.units = s.units ∧ u.tp = s.tp ∧ u.prov = s.prov ∧ u.boot = s.boot) ∧
        (s.boot.mode = .safe → s.registerRead fn off len = (s.tlpRcvd fn 0).complete fn .ca [] ∧
          s.romRead off len = (s.tlpRcvd 0 0).complete 0 .ca []) ∧
        (s.boot.mode ≠ .safe → (s.operating = false ∨ s.fnExists fn = false ∨ s.memSpace fn = false) →
          s.registerRead fn off len = (s.tlpRcvd fn 0).unsupported fn true true) ∧
        (s.romOn = true → s.barGate 0 = .served → ∃ u : State,
          s.romRead off len = u.complete 0 .sc ((List.range len).map fun i => u.romByte (off + i)) ∧ u.qps = s.qps) ∧
        (s.romOn = false → s.boot.mode ≠ .safe → s.romRead off len = (s.tlpRcvd 0 0).unsupported 0 true true)))

/-! ## The block as a whole -/

/-- A step runs the command at the front of the queue on the state with the queue's rest (the queue is the model's form). -/
def Obligations.StepRunsTheFrontCommand : Prop :=
  ∀ (c : Instr) (rest : List Instr) (s : State), step { s with pending := c :: rest } = exec c { s with pending := rest }

/-- R255, R283, R338, R404, R495, R496: on an empty queue one tick passes, of 2 ns while LIN is in Run and else of 125 ns (the
model's choice, log entry 1): the local count gains it; the timebase gains it at the nominal rate and half of it, rounded up,
at half rate; a stalled Sleeve counts the flit times in it; every 10 ns the trace port sends one message, SYNC as each
1,024th, else the oldest that waits. Without VAON nothing counts. -/
def Obligations.EmptyQueueTicks : Prop :=
  ∀ (s : State), s.pending = [] →
    (s.boot.mode = .noPower → step s = .next s) ∧
    let n := if (s.dom .lin).state = .run then 2 else 125
    (s.boot.mode ≠ .noPower → ∃ t, step s = .next t ∧
      t = { s with clk := t.clk, bh := t.bh, out := t.out, slvA := t.slvA, slvB := t.slvB } ∧
      t.clk.localCount = s.clk.localCount + n ∧ (t.clk.timeSet, t.clk.timeLocked, t.clk.offset, t.clk.ratePpm) =
        (s.clk.timeSet, s.clk.timeLocked, s.clk.offset, s.clk.ratePpm) ∧
      (s.clk.slew = 0 → s.clk.ratePpm = 0 → s.clk.frac = 0 →
        t.clk.timebase = s.clk.timebase + BitVec.ofNat 64 n ∧ t.clk.slew = 0 ∧ t.clk.frac = 0) ∧
      (n / 2 ≤ s.clk.slew → 0 < s.clk.slew →
        t.clk.timebase = s.clk.timebase + BitVec.ofNat 64 (n - n / 2) ∧ t.clk.slew = s.clk.slew - n / 2) ∧
      (∀ sl, (s.slv sl).stalling = false → t.slv sl = s.slv sl) ∧
      (∀ sl, let v := s.slv sl
        let time := v.stallFrac + 3000 * n
        let flit := 30720 / max v.txLanes 1 * 2 ^ (3 - v.rate.toNat)
        v.stalling = true → t.slv sl = { v with stall := v.stall + BitVec.ofNat 64 (time / flit), stallFrac := time % flit }) ∧
      let quiet := s.slvA.stalling = false ∧ s.slvB.stalling = false
      (quiet → (s.clk.localCount + n) / 10 = s.clk.localCount / 10 ∨ s.bh.running = false → t.bh = s.bh ∧ t.out = s.out) ∧
      (quiet → n = 2 → (s.clk.localCount + n) / 10 ≠ s.clk.localCount / 10 → s.bh.running = true →
        (1023 ≤ s.bh.sinceSync → t.out = s.out ++ [.trace (traceSync t.clk.timebase)] ∧
          t.bh = { s.bh with sinceSync := 0 }) ∧
        (∀ m l, s.bh.sinceSync < 1023 → s.bh.buffer = m :: l → s.bh.lostSince = 0 →
          t.out = s.out ++ [.trace m] ∧ t.bh = { s.bh with buffer := l, sinceSync := s.bh.sinceSync + 1 }) ∧
        (s.bh.sinceSync < 1023 → s.bh.buffer = [] → s.bh.traceEn = true →
          t.out = s.out ++ [.trace (zeros 16)] ∧ t.bh = { s.bh with sinceSync := s.bh.sinceSync + 1 }) ∧
        (s.bh.sinceSync < 1023 → s.bh.buffer = [] → s.bh.traceEn = false →
          t.out = s.out ∧ t.bh = { s.bh with running := false })))

/-- No command is refused and none faults, in any mode; a command takes none of the commands that wait behind it. In FACTORY,
whose data path R31 calls test-controlled, a command acts by its own rules (the model's choice, log entry 9). -/
def Obligations.EveryCommandCompletes : Prop :=
  ∀ (c : Instr) (s : State), ∃ t, exec c s = .next t ∧ t.pending = s.pending

/-- R82 to R86, R90, R104, R107, R113: every command of Jalid through a Pocket that is not served does nothing; while the
Pocket works on another, or with a bit of the doorbell's upper half set, it sets DROP alone, beside the wake of CTL that it
asks for; a bad header, a minor version, an issuer or a limit that R113 does not allow is answered with its status in the
order of R113, with no other effect. -/
def Obligations.RequestsRefused : Prop :=
  ∀ (fn : Nat) (r : Request) (s : State), ∀ x ∈ yasilRowsA fn r ++ yasilRowsB fn r,
    let p := (s.fn fn).pocket
    let o := x.2
    (s.pocketServed fn = false → exec x.1 s = .next (s.after s)) ∧
    (s.pocketServed fn = true → (p.state = .working ∨ 65536 ≤ r.doorbell.toNat) →
      exec x.1 s = .next (s.after ((s.accessWake .ctl).modPocket fn fun p => { p with drop := true }))) ∧
    (s.pocketServed fn = true → p.state ≠ .working → r.doorbell.toNat < 65536 →
      (s.headerOk fn r = false → TurnedAway x.1 o fn r s stBadArgument) ∧
      (s.headerOk fn r = true → (2 < r.minor.toNat ∨ r.minor.toNat < o.minor) →
        TurnedAway x.1 o fn r s stUnsupportedVersion) ∧
      (s.headerOk fn r = true → r.minor.toNat ≤ 2 → o.minor ≤ r.minor.toNat →
        (bitAt o.issuers (issuerBit fn) = false ∨ (isVf fn = true ∧ s.tenant (vfOf fn) = none ∧ o.cls ≠ 1)) →
        TurnedAway x.1 o fn r s stNotPermitted) ∧
      (s.headerOk fn r = true → r.minor.toNat ≤ 2 → o.minor ≤ r.minor.toNat → bitAt o.issuers (issuerBit fn) = true →
        (isVf fn = false ∨ s.tenant (vfOf fn) ≠ none ∨ o.cls = 1) → o.long = true →
        (p.enable = false → TurnedAway x.1 o fn r s stBadArgument) ∧
        (p.enable = true → ((if fn = 0 then 64 else 16) ≤ p.longs.length ∨ 4096 ≤ s.allLongs.length) →
          TurnedAway x.1 o fn r s stBusy)))

/-- R441, R442: the reactions of FIXED and of reserved sources stay at their reset values through every step: no command, no
board override and no reset changes them. -/
def Obligations.FixedReactionsStay : Prop :=
  ∀ (s t : State), s.ReactionsKept → step s = .next t → t.ReactionsKept

/-- R436: the anti-rollback fuses are never unblown: no step lowers the security version that they hold. -/
def Obligations.FusesNeverFall : Prop :=
  ∀ (s t : State), step s = .next t → s.boot.fuses ≤ t.boot.fuses

/-- R255, R338, R404: nothing sets, steps or slows the local count: no command but a loss or return of VAON changes it, and
an empty queue adds a tick to it. -/
def Obligations.LocalCountOnlyAdvances : Prop :=
  ∀ (s t : State), step s = .next t →
    (∀ c rest, s.pending = c :: rest → c ≠ .vaonLost → (∀ x, c ≠ .vaonValid x) → t.clk.localCount = s.clk.localCount) ∧
    (s.pending = [] → s.boot.mode ≠ .noPower →
      t.clk.localCount = s.clk.localCount + if (s.dom .lin).state = .run then 2 else 125) ∧
    (s.pending = [] → s.boot.mode = .noPower → t.clk.localCount = s.clk.localCount)

/-- R58, R402, R416, R438, R441: after reset the block is OFF with VAON alone, no source is set, every reaction has its reset
value, no QP, tenant, unit or flow exists, and nothing is asserted or waits. -/
def Obligations.ResetHolds : Prop :=
  State.reset.boot.mode = .off ∧ State.reset.ReactionsKept ∧ (∀ n, State.reset.reactOf n = reactReset n) ∧
    (∀ n, tgetD State.reset.fc.sticky n false = false) ∧ State.reset.fc.errLow = false ∧ State.reset.Calm ∧
    State.reset.pending = [] ∧ State.reset.qps = [] ∧ State.reset.units = [] ∧ State.reset.prov.tenants = [] ∧
    State.reset.prov.groups = [] ∧ State.reset.tp.tx = [] ∧ State.reset.tp.rx = [] ∧ State.reset.belt.bypassOpen = false ∧
    State.reset.belt.position = 0xFE ∧ State.reset.link.state = .down

/-! ## Single rules, stated whole -/

/-- R330: the Y7 forwards a Belt message of TYPE 0x45 to 0x5F unchanged and counts it in BLT_BYP_UNKNOWN; a Belt TYPE
received on a Sleeve is discarded and counted in SLA_BYP_UNKNOWN. -/
def Obligations.UnknownBypassMessages : Prop :=
  ∀ (s : State) (flit : Bytes), flit.length = 256 →
    let type := beAt 4 1 flit
    let kind := bits (beAt 0 4 flit) 18 15
    (s.belt.rxLock = true → s.belt.bypassOpen = true → beAt 248 8 flit = crc64 (flit.take 248) 0 → (kind = 1 ∨ kind = 5) →
      0x45 ≤ type → type ≤ 0x5F → Completes (.beltFlitReceive flit) s fun own =>
        own = { s with belt := { s.belt with crcRun := 0, bypUnknown := satInc s.belt.bypUnknown },
                       out := s.out ++ [.beltForward flit] }) ∧
    (∀ sl, let v := s.slv sl
      (v.state = .param ∨ v.state = .up) → v.rxOn = false → v.rxNext = none →
      beAt 248 8 flit = crc64 (flit.take 248) v.expect.toNat → kind ≠ 0 →
      flitReserved (beAt 0 4 flit) kind flit = false → v.ackValid (BitVec.ofNat 12 (bits (beAt 0 4 flit) 31 20)) = true →
      0x40 ≤ type → type ≤ 0x5F → Completes (.flitReceive sl ⟨false, []⟩ flit) s fun own =>
        (own.slv sl).bypUnknown = satInc v.bypUnknown ∧ (own.slv sl).expect = v.expect + 1 ∧
        (kind = 1 → own.belt = s.belt ∧ own.qps = s.qps ∧ own.win = s.win))

/-- R85: a doorbell that names the token of a long command outstanding in the same Pocket gets BAD_ARGUMENT and leaves that
command alone; any other token is admitted whatever the other Pockets hold. -/
def Obligations.TokensOfAPocket : Prop :=
  ∀ (fn : Nat) (r : Request) (s : State),
    (∀ x ∈ yasilRowsA fn r ++ yasilRowsB fn r, s.pocketServed fn = true → (s.fn fn).pocket.state ≠ .working →
      r.doorbell.toNat < 65536 → (∃ c ∈ (s.fn fn).pocket.longs, c.token.toNat = r.doorbell.toNat) →
      TurnedAway x.1 x.2 fn r s stBadArgument) ∧
    (r.len ≤ 2032 → r.flags.toNat < 2 → r.rsv = [0, 0, 0, 0, 0, 0] → r.doorbell.toNat = r.token.toNat →
      (∀ c ∈ (s.fn fn).pocket.longs, c.token ≠ r.token) → s.headerOk fn r = true) ∧
    (∀ n g, n ≠ fn → (s.setFn n g).headerOk fn r = s.headerOk fn r)

/-- R435: the boot ROM, UPDATE_COMMIT and the PLDM path each accept an image only when both of its signatures verify; a
single valid one gives VERIFY_FAILED. -/
def Obligations.BothSignatures : Prop :=
  ∀ (s : State),
    (∀ a b c bad t, s.boot.stage = .rom → exec (.manifestAccepted a b ⟨c, bad⟩) s = .next t → t.boot.stage = .lining →
      (foundOf a b c t.boot.running).ecdsa = true ∧ (foundOf a b c t.boot.running).mldsa = true) ∧
    (∀ (f : Found) ok, f.ecdsa = false ∨ f.mldsa = false →
      (∀ c, s.boot.mode ≠ .safe → (s.fn 0).flr = false →
        (s.fn 0).pocket.longs.find? (fun x => x.kind == .updateCommit) = some c →
        Completes (.updateCommitComplete f ok) s fun own =>
          own.boot = s.boot ∧ own.lin.session = { s.lin.session with isOpen := false } ∧
          ∃ e : Event, e.type = 0x01 ∧ e.token = c.token ∧ e.status = BitVec.ofNat 16 stVerifyFailed ∧
            ((∃ h ∈ (own.fn 0).pocket.held, h.ev = e) ∨ ∃ i ∈ own.hostq, i.fn = 0 ∧ i.kind = .event e true)) ∧
      (∀ x, s.liningRuns = true → s.pldmOpen = true → s.lin.session.transferred = true →
        Completes (.verifyComplete f ok x) s fun own =>
          own.boot = s.boot ∧ own.lin.session = { s.lin.session with isOpen := false } ∧
          SaidAll [(s.lin.session.via, [1, 5, 0x17, 1])] s own))
end

