-- ==== Sys2Proof/Laws/Tables.lean ====
section
/-! SUPPORT. Sparse tables: what is read after a write, a removal or a change, and that each operation keeps the keys
strictly rising. -/
namespace Sys2Proof.Machine
variable {α : Type}

/-! ## Reading -/

@[simp] theorem tget_nil (k : Nat) : tget ([] : Table α) k = none := rfl

theorem tget_tput (t : Table α) (k : Nat) (v : α) (j : Nat) :
    tget (tput t k v) j = if j = k then some v else tget t j := by
  induction t with
  | nil => by_cases h : k = j <;> simp [tput, tget, h, eq_comm]
  | cons p r ih =>
    obtain ⟨k', v'⟩ := p
    simp only [tput]
    split
    · by_cases h : k = j <;> simp [tget, h, eq_comm]
    · split
      · subst_vars; by_cases h : k' = j
        · simp [tget, h]
        · simp [tget, h, Ne.symm h]
      · by_cases h : k' = j
        · subst h; simp [tget]; omega
        · simp [tget, h, ih]

@[simp] theorem tget_tput_self (t : Table α) (k : Nat) (v : α) : tget (tput t k v) k = some v := by simp [tget_tput]

theorem tget_tput_ne (t : Table α) (v : α) {k j : Nat} (h : j ≠ k) : tget (tput t k v) j = tget t j := by
  simp [tget_tput, h]

theorem tget_tdel (t : Table α) (k j : Nat) : tget (tdel t k) j = if j = k then none else tget t j := by
  induction t with
  | nil => simp [tdel]
  | cons p r ih =>
    obtain ⟨k', v'⟩ := p
    by_cases h : k' = k
    · subst h; by_cases hj : j = k' <;> simp_all [tdel, tget, eq_comm]
    · by_cases hj : k' = j
      · subst hj; simp [tdel, tget, h]
      · simp [tdel, tget, h, hj, ih]

theorem tget_tmod (t : Table α) (k : Nat) (f : α → α) (j : Nat) :
    tget (tmod t k f) j = if j = k then (tget t j).map f else tget t j := by
  induction t with
  | nil => simp [tmod]
  | cons p r ih =>
    obtain ⟨k', v'⟩ := p
    by_cases h : k' = k
    · subst h; by_cases hj : k' = j
      · subst hj; simp [tmod, tget]
      · simp [tmod, tget, hj, ih]
    · by_cases hj : k' = j
      · subst hj; simp [tmod, tget, h]
      · simp [tmod, tget, h, hj, ih]

theorem tget_tmap {β : Type} (t : Table α) (f : Nat → α → β) (j : Nat) : tget (tmap t f) j = (tget t j).map (f j) := by
  induction t with
  | nil => rfl
  | cons p r ih =>
    obtain ⟨k, v⟩ := p
    by_cases h : k = j
    · subst h; simp [tmap, tget]
    · simp only [tmap, List.map_cons, tget, h, if_false] at ih ⊢; exact ih

/-! ## The canonical form -/

theorem tsorted_cons {k : Nat} {v : α} {r : Table α} :
    tsorted ((k, v) :: r) = true ↔ (∀ p ∈ r, k < p.1) ∧ tsorted r = true := by
  induction r generalizing k v with
  | nil => simp [tsorted]
  | cons p r ih =>
    obtain ⟨k', v'⟩ := p
    simp only [tsorted, Bool.and_eq_true, decide_eq_true_eq]
    constructor
    · rintro ⟨h, hs⟩
      refine ⟨?_, hs⟩
      intro q hq
      rcases List.mem_cons.mp hq with rfl | hq
      · exact h
      · exact Nat.lt_trans h ((ih.mp hs).1 q hq)
    · rintro ⟨h, hs⟩
      exact ⟨h (k', v') (by simp), hs⟩

theorem tput_mem {t : Table α} {k : Nat} {v : α} {p : Nat × α} (h : p ∈ tput t k v) : p = (k, v) ∨ p ∈ t := by
  induction t with
  | nil => simpa [tput] using h
  | cons q r ih =>
    obtain ⟨k', v'⟩ := q
    simp only [tput] at h
    split at h
    · simpa using h
    · split at h
      · rcases List.mem_cons.mp h with h | h <;> simp [h]
      · rcases List.mem_cons.mp h with h | h
        · simp [h]
        · rcases ih h with h | h <;> simp [h]

/-- Writing an entry keeps the canonical form. -/
theorem tsorted_tput {t : Table α} (k : Nat) (v : α) (h : tsorted t = true) : tsorted (tput t k v) = true := by
  induction t with
  | nil => rfl
  | cons p r ih =>
    obtain ⟨k', v'⟩ := p
    have hc := tsorted_cons.mp h
    simp only [tput]
    split
    · rename_i hk
      refine tsorted_cons.mpr ⟨?_, h⟩
      intro q hq
      rcases List.mem_cons.mp hq with rfl | hq
      · exact hk
      · exact Nat.lt_trans hk (hc.1 q hq)
    · split
      · subst_vars; exact tsorted_cons.mpr ⟨hc.1, hc.2⟩
      · refine tsorted_cons.mpr ⟨?_, ih hc.2⟩
        intro q hq
        rcases tput_mem hq with rfl | hq
        · show k' < k; omega
        · exact hc.1 q hq

theorem tkeep_sorted {t : Table α} (c : Nat → α → Bool) (h : tsorted t = true) : tsorted (tkeep t c) = true := by
  induction t with
  | nil => rfl
  | cons p r ih =>
    obtain ⟨k', v'⟩ := p
    have hc := tsorted_cons.mp h
    simp only [tkeep, List.filter_cons]
    split
    · exact tsorted_cons.mpr ⟨fun q hq => hc.1 q (List.mem_filter.mp hq).1, ih hc.2⟩
    · exact ih hc.2

/-- Removing an entry keeps the canonical form. -/
theorem tsorted_tdel {t : Table α} (k : Nat) (h : tsorted t = true) : tsorted (tdel t k) = true := by
  have e : ∀ t : Table α, tdel t k = tkeep t fun j _ => j != k := by
    intro t
    induction t with
    | nil => rfl
    | cons p r ih =>
      obtain ⟨k', v'⟩ := p
      by_cases hk : k' = k <;> simp_all [tdel, tkeep]
  rw [e]; exact tkeep_sorted _ h

theorem tsorted_keys {β : Type} {t : Table α} {u : Table β} (e : tkeys t = tkeys u) (h : tsorted t = true) :
    tsorted u = true := by
  induction t generalizing u with
  | nil => cases u with
    | nil => rfl
    | cons _ _ => simp [tkeys] at e
  | cons p r ih =>
    obtain ⟨k, v⟩ := p
    cases u with
    | nil => rfl
    | cons q w =>
      obtain ⟨k', v'⟩ := q
      simp only [tkeys, List.map_cons, List.cons.injEq] at e
      have hc := tsorted_cons.mp h
      refine tsorted_cons.mpr ⟨?_, ih e.2 hc.2⟩
      intro x hx
      have : x.1 ∈ List.map (·.1) r := by rw [e.2]; exact List.mem_map_of_mem hx
      obtain ⟨y, hy, hxy⟩ := List.mem_map.mp this
      rw [← e.1, ← hxy]; exact hc.1 y hy

/-- Changing an entry keeps the canonical form. -/
theorem tsorted_tmod {t : Table α} (k : Nat) (f : α → α) (h : tsorted t = true) : tsorted (tmod t k f) = true := by
  refine tsorted_keys (t := t) ?_ h
  clear h
  induction t with
  | nil => rfl
  | cons p r ih =>
    obtain ⟨k', v'⟩ := p
    by_cases hk : k' = k <;> simp_all [tmod, tkeys]

/-- Changing every entry keeps the canonical form. -/
theorem tsorted_tmap {β : Type} {t : Table α} (f : Nat → α → β) (h : tsorted t = true) : tsorted (tmap t f) = true := by
  refine tsorted_keys (t := t) ?_ h
  simp [tkeys, tmap]

end Sys2Proof.Machine
end

