-- ==== Sys2Proof/Laws/Kept.lean ====
section
/-! SUPPORT. The common end of every command leaves State.lasting alone: one lemma per operation it may come to, and
lasts_settle and lasts_after for the whole. -/
set_option linter.unusedSimpArgs false
namespace Sys2Proof.Machine

/-! ## Plain changes -/

theorem lasts_fns (s : State) (x : Table Fn) (h : ∀ n, ((tget x n).getD (Fn.init n)).rest = (s.fn n).rest) :
    ({ s with fns := x } : State).lasting = s.lasting := by
  have e : (fun n => ((tget x n).getD (Fn.init n)).rest) = fun n => (s.fn n).rest := funext h
  simp only [State.lasting, State.kept, State.fn] at *
  rw [e]

theorem lasts_setFn (s : State) (n : Nat) (f : Fn) (h : f.rest = (s.fn n).rest) : (s.setFn n f).lasting = s.lasting := by
  refine lasts_fns s _ fun k => ?_
  rw [tget_tput]
  by_cases e : k = n
  · subst e; simpa using h
  · simp [e, State.fn]

@[simp] theorem lasts_modFn (s : State) (n : Nat) (g : Fn → Fn) (h : ∀ f, (g f).rest = f.rest) :
    (s.modFn n g).lasting = s.lasting := lasts_setFn s n _ (h _)

@[simp] theorem lasts_modPocket (s : State) (n : Nat) (g : Pocket → Pocket)
    (h : ∀ f : Fn, ({ f with pocket := g f.pocket } : Fn).rest = f.rest) : (s.modPocket n g).lasting = s.lasting :=
  lasts_modFn s n _ h

@[simp] theorem lasts_modCfg (s : State) (n : Nat) (g : FnCfg → FnCfg)
    (h : ∀ f : Fn, ({ f with cfg := g f.cfg } : Fn).rest = f.rest) : (s.modCfg n g).lasting = s.lasting := lasts_modFn s n _ h

@[simp] theorem lasts_modQset (s : State) (n q : Nat) (g : QSet → QSet) : (s.modQset n q g).lasting = s.lasting :=
  lasts_modFn s n _ fun _ => rfl

@[simp] theorem lasts_modQp (s : State) (n : Nat) (g : Qp → Qp) : (s.modQp n g).lasting = s.lasting := rfl
@[simp] theorem lasts_modUnit (s : State) (u : Nat) (g : XUnit → XUnit) : (s.modUnit u g).lasting = s.lasting := rfl

@[simp] theorem lasts_setSlv (s : State) (sl : Sleeve) (v : Slv) : (s.setSlv sl v).lasting = s.lasting := by cases sl <;> rfl
@[simp] theorem lasts_modSlv (s : State) (sl : Sleeve) (g : Slv → Slv) : (s.modSlv sl g).lasting = s.lasting :=
  lasts_setSlv s sl _

theorem lasts_setArb (s : State) (a : Arb) (v : Arbiter) (h : v.entries = (s.arb a).entries) :
    (s.setArb a v).lasting = s.lasting := by
  cases a <;> simp_all [State.setArb, State.arb, State.lasting, State.kept, State.fn]
@[simp] theorem lasts_modArb (s : State) (a : Arb) (g : Arbiter → Arbiter) (h : ∀ x, (g x).entries = x.entries) :
    (s.modArb a g).lasting = s.lasting := lasts_setArb s a _ (h _)

theorem rest_tmap (t : Table Tenant) (k : Nat) (g : Tenant → Tenant)
    (h : ∀ x, ({ g x with tdisp := .unlocked, rejects := 0 } : Tenant) = { x with tdisp := .unlocked, rejects := 0 }) :
    tmap (tmod t k g) (fun _ x => ({ x with tdisp := .unlocked, rejects := 0 } : Tenant)) =
      tmap t fun _ x => { x with tdisp := .unlocked, rejects := 0 } := by
  induction t with
  | nil => rfl
  | cons p r ih =>
    obtain ⟨k', v⟩ := p
    by_cases e : k' = k <;> simp_all [tmod, tmap]

@[simp] theorem lasts_modTenant (s : State) (vf : Nat) (g : Tenant → Tenant)
    (h : ∀ x, ({ g x with tdisp := .unlocked, rejects := 0 } : Tenant) = { x with tdisp := .unlocked, rejects := 0 }) :
    (s.modTenant vf g).lasting = s.lasting := by
  simp only [State.lasting, State.kept, State.modTenant, rest_tmap _ _ _ h]
  rfl

@[simp] theorem lasts_emit (s : State) (e : Emission) : (s.emit e).lasting = s.lasting := rfl
@[simp] theorem lasts_emits (s : State) (e : List Emission) : (s.emits e).lasting = s.lasting := rfl
@[simp] theorem lasts_raise (s : State) (n : Nat) (r : FaultRec) : (s.raise n r).lasting = s.lasting := rfl
@[simp] theorem lasts_qps (s : State) (x) : ({ s with qps := x } : State).lasting = s.lasting := rfl
@[simp] theorem lasts_units (s : State) (x) : ({ s with units := x } : State).lasting = s.lasting := rfl
@[simp] theorem lasts_tags (s : State) (x) : ({ s with tags := x } : State).lasting = s.lasting := rfl
@[simp] theorem lasts_waits (s : State) (x) : ({ s with waits := x } : State).lasting = s.lasting := rfl
@[simp] theorem lasts_hostq (s : State) (x) : ({ s with hostq := x } : State).lasting = s.lasting := rfl
@[simp] theorem lasts_stamp (s : State) (x) : ({ s with stamp := x } : State).lasting = s.lasting := rfl
@[simp] theorem lasts_win (s : State) (x) : ({ s with win := x } : State).lasting = s.lasting := rfl
@[simp] theorem lasts_xlt (s : State) (x) : ({ s with xlt := x } : State).lasting = s.lasting := rfl
@[simp] theorem lasts_slvA (s : State) (x) : ({ s with slvA := x } : State).lasting = s.lasting := rfl
@[simp] theorem lasts_slvB (s : State) (x) : ({ s with slvB := x } : State).lasting = s.lasting := rfl
@[simp] theorem lasts_bh (s : State) (x) : ({ s with bh := x } : State).lasting = s.lasting := rfl
@[simp] theorem lasts_out (s : State) (x) : ({ s with out := x } : State).lasting = s.lasting := rfl
@[simp] theorem lasts_freeIdx (s : State) (x) : ({ s with freeIdx := x } : State).lasting = s.lasting := rfl
@[simp] theorem lasts_pending (s : State) (x) : ({ s with pending := x } : State).lasting = s.lasting := rfl
@[simp] theorem lasts_hostWaits (s : State) (x y) : ({ s with hostq := x, waits := y } : State).lasting = s.lasting := rfl

@[simp] theorem lasts_tp (s : State) (x : Tp)
    (h : (x.epoch, x.rto, x.grantMax, x.wto, x.target) = (s.tp.epoch, s.tp.rto, s.tp.grantMax, s.tp.wto, s.tp.target)) :
    ({ s with tp := x } : State).lasting = s.lasting := by simp only [State.lasting, State.kept, State.fn, h]
@[simp] theorem lasts_el (s : State) (x : El) (h : ({ x with epochCharge := [] } : El) = { s.el with epochCharge := [] }) :
    ({ s with el := x } : State).lasting = s.lasting := by simp only [State.lasting, State.kept, State.fn, h]
@[simp] theorem lasts_plc (s : State) (x : Plc)
    (h : (x.maxMig, x.engineMask, x.sleeveMask, x.numa) = (s.plc.maxMig, s.plc.engineMask, s.plc.sleeveMask, s.plc.numa)) :
    ({ s with plc := x } : State).lasting = s.lasting := by
  simp only [Prod.mk.injEq] at h; simp [State.lasting, State.kept, State.fn, h]
@[simp] theorem lasts_plt (s : State) (x : Plt)
    (h : (x.host.entries, x.sla.entries, x.slb.entries, x.starveLimit, x.current) =
      (s.plt.host.entries, s.plt.sla.entries, s.plt.slb.entries, s.plt.starveLimit, s.plt.current)) :
    ({ s with plt := x } : State).lasting = s.lasting := by
  simp only [Prod.mk.injEq] at h; simp [State.lasting, State.kept, State.fn, h]
@[simp] theorem lasts_fc (s : State) (x : Fc)
    (h : (x.react, x.lock, x.hold, x.releaseDue) = (s.fc.react, s.fc.lock, s.fc.hold, s.fc.releaseDue)) :
    ({ s with fc := x } : State).lasting = s.lasting := by
  simp only [Prod.mk.injEq] at h; simp [State.lasting, State.kept, State.fn, h]
@[simp] theorem lasts_belt (s : State) (x : Belt)
    (h : ({ x with bypassOpen := false, bypassClose := 0, txQueue := [], txDrop := 0 } : Belt) =
      { s.belt with bypassOpen := false, bypassClose := 0, txQueue := [], txDrop := 0 }) :
    ({ s with belt := x } : State).lasting = s.lasting := by
  simp only [State.lasting, State.kept, State.fn, h]
@[simp] theorem lasts_boot (s : State) (x : Boot)
    (h : ({ x with mode := .off, reloading := false } : Boot) = { s.boot with mode := .off, reloading := false }) :
    ({ s with boot := x } : State).lasting = s.lasting := by simp only [State.lasting, State.kept, State.fn, h]
@[simp] theorem lasts_lin (s : State) (x : Lin)
    (h : ({ x with logQueue := [], logLost := 0, session := { x.session with isOpen := false } } : Lin) =
      { s.lin with logQueue := [], logLost := 0, session := { s.lin.session with isOpen := false } }) :
    ({ s with lin := x } : State).lasting = s.lasting := by simp only [State.lasting, State.kept, State.fn, h]
@[simp] theorem lasts_nextUnit (s : State) (x) : ({ s with nextUnit := x } : State).lasting = s.lasting := rfl
@[simp] theorem lasts_winWaits (s : State) (x y) : ({ s with waits := x, win := y } : State).lasting = s.lasting := rfl

/-- A fold of operations that keep it keeps it. -/
theorem lasts_foldl {β : Type} {f : State → β → State} (h : ∀ s b, (f s b).lasting = s.lasting) (l : List β) (s : State) :
    (l.foldl f s).lasting = s.lasting := by
  induction l generalizing s with
  | nil => rfl
  | cons b r ih => rw [List.foldl_cons, ih, h]


@[simp] theorem lasts_sti (s : State) (x : Sti) (h : x.staleMs = s.sti.staleMs) : ({ s with sti := x } : State).lasting = s.lasting := by
  simp only [State.lasting, State.kept, State.fn, h]
@[simp] theorem lasts_shadow (s : State) (x) : ({ s with shadow := x } : State).lasting = s.lasting := rfl
@[simp] theorem lasts_pwr (s : State) (x : Pwr)
    (h : ({ x with doms := x.doms.map fun d => { d with waking := false, wakeNoted := false } } : Pwr) =
      { s.pwr with doms := s.pwr.doms.map fun d => { d with waking := false, wakeNoted := false } }) :
    ({ s with pwr := x } : State).lasting = s.lasting := by simp only [State.lasting, State.kept, State.fn, h]
theorem lasts_hostq' (s : State) (x p) : ({ s with plc := p, hostq := x } : State).lasting = ({ s with plc := p } : State).lasting :=
  rfl
theorem lasts_bootWaits (s : State) (x) :
    ({ s with boot := { s.boot with reloading := true }, waits := x } : State).lasting = s.lasting := rfl

/-! ## Ops -/

theorem lmod_map {α β : Type} (l : List α) (i : Nat) (f : α → α) (g : α → β) (h : ∀ x, g (f x) = g x) :
    (lmod l i f).map g = l.map g := by
  induction l generalizing i with
  | nil => rfl
  | cons x r ih => cases i <;> simp [lmod, h, ih]

@[simp] theorem lasts_modDom (s : State) (d : Domain) (g : Dom → Dom)
    (h : ∀ x, ({ g x with waking := false, wakeNoted := false } : Dom) = { x with waking := false, wakeNoted := false }) :
    (s.modDom d g).lasting = s.lasting :=
  lasts_pwr s _ (congrArg (fun l => ({ s.pwr with doms := l } : Pwr)) (lmod_map _ _ _ _ h))

@[simp] theorem lasts_emitTlp (s : State) (fn : Nat) (x : Tlp) : (State.emitTlp s fn x).lasting = s.lasting := by
  simp [State.emitTlp, apply_ite State.lasting, Fn.rest, Fn.core]

@[simp] theorem lasts_reply (s : State) (fn : Nat) (st : CplStatus) (data : Bytes) : (State.reply s fn st data).lasting = s.lasting := by
  simp [State.reply, apply_ite State.lasting, Fn.rest, Fn.core]

/-! ## Observe -/

@[simp] theorem lasts_charge (s : State) (fn idx n : Nat) : (State.charge s fn idx n).lasting = s.lasting := by
  simp [State.charge, apply_ite State.lasting, Fn.rest, Fn.core]

@[simp] theorem lasts_tracePush (s : State) (m : Bytes) : (State.tracePush s m).lasting = s.lasting := by
  simp only [State.tracePush]; (repeat' split) <;> first | rfl | (simp [apply_ite State.lasting, Fn.rest, Fn.core, lasts_foldl]; done) | (simp [apply_ite State.lasting, Fn.rest, Fn.core, lasts_foldl]; rfl)

@[simp] theorem lasts_traceOcc (s : State) (code amount : Nat) (fn grp : Option Nat) : (State.traceOcc s code amount fn grp).lasting = s.lasting := by
  simp [State.traceOcc, apply_ite State.lasting, Fn.rest, Fn.core]

@[simp] theorem lasts_occ (s : State) (code amount : Nat) (fn grp : Option Nat) : (State.occ s code amount fn grp).lasting = s.lasting := by
  simp [State.occ, apply_ite State.lasting, Fn.rest, Fn.core]

@[simp] theorem lasts_occFn (s : State) (code amount fn : Nat) : (State.occFn s code amount fn).lasting = s.lasting := by
  simp [State.occFn, apply_ite State.lasting, Fn.rest, Fn.core]

@[simp] theorem lasts_log (s : State) (type code : Nat) (data : Bytes) (cont : Bool) : (State.log s type code data cont).lasting = s.lasting := by
  simp [State.log, apply_ite State.lasting, Fn.rest, Fn.core]

/-! ## HostOut -/

@[simp] theorem lasts_xtouch (s : State) (fn addr len : Nat) (missed : Bool) : (State.xtouch s fn addr len missed).lasting = s.lasting := by
  simp only [State.xtouch]; (repeat' split) <;> first | rfl | (simp [apply_ite State.lasting, Fn.rest, Fn.core, lasts_foldl]; done) | (simp [apply_ite State.lasting, Fn.rest, Fn.core, lasts_foldl]; rfl)

@[simp] theorem lasts_xinvalidate (s : State) (fn base len : Nat) (global : Bool) : (State.xinvalidate s fn base len global).lasting = s.lasting := by
  simp [State.xinvalidate, apply_ite State.lasting, Fn.rest, Fn.core]

@[simp] theorem lasts_xask (s : State) (fn addr len : Nat) (write : Bool) : (State.xask s fn addr len write).2.lasting = s.lasting := by
  simp only [State.xask]; (repeat' split) <;> first | rfl | (simp [apply_ite State.lasting, Fn.rest, Fn.core, lasts_foldl]; done) | (simp [apply_ite State.lasting, Fn.rest, Fn.core, lasts_foldl]; rfl)

@[simp] theorem lasts_xmiss (s : State) (fn addr len : Nat) (write missed : Bool) :
    (s.xmiss fn addr len write missed).2.lasting = s.lasting := by
  simp only [State.xmiss]
  have h := lasts_xask s fn addr len write
  split <;> rename_i e <;> rw [e] at h <;> simp_all [apply_ite State.lasting]

@[simp] theorem lasts_pushItem (s : State) (fn : Nat) (k : HKind) : (State.pushItem s fn k).lasting = s.lasting := by
  simp only [State.pushItem]; (repeat' split) <;> first | rfl | (simp [apply_ite State.lasting, Fn.rest, Fn.core, lasts_foldl]; done) | (simp [apply_ite State.lasting, Fn.rest, Fn.core, lasts_foldl]; rfl)

@[simp] theorem lasts_tlpSent (s : State) (fn n : Nat) : (State.tlpSent s fn n).lasting = s.lasting := by
  simp [State.tlpSent, apply_ite State.lasting, Fn.rest, Fn.core]

@[simp] theorem lasts_tlpRcvd (s : State) (fn n : Nat) : (State.tlpRcvd s fn n).lasting = s.lasting := by
  simp [State.tlpRcvd, apply_ite State.lasting, Fn.rest, Fn.core]

@[simp] theorem lasts_written (s : State) (fn n : Nat) : (State.written s fn n).lasting = s.lasting := by
  simp [State.written, apply_ite State.lasting, Fn.rest, Fn.core]

@[simp] theorem lasts_complete (s : State) (fn : Nat) (st : CplStatus) (data : Bytes) : (State.complete s fn st data).lasting = s.lasting := by
  simp [State.complete, apply_ite State.lasting, Fn.rest, Fn.core]

@[simp] theorem lasts_sendMsg (s : State) (fn : Nat) (m : HostMsg) : (State.sendMsg s fn m).lasting = s.lasting := by
  simp [State.sendMsg, apply_ite State.lasting, Fn.rest, Fn.core]

@[simp] theorem lasts_msixSend (s : State) (fn vec : Nat) (dev : Option W16) : (State.msixSend s fn vec dev).lasting = s.lasting := by
  simp [State.msixSend, apply_ite State.lasting, Fn.rest, Fn.core]

@[simp] theorem lasts_msixTrigger (s : State) (fn vec : Nat) (dev : Option W16) : (State.msixTrigger s fn vec dev).lasting = s.lasting := by
  simp [State.msixTrigger, apply_ite State.lasting, Fn.rest, Fn.core]

@[simp] theorem lasts_msixRelease (s : State) (fn : Nat) : (State.msixRelease s fn).lasting = s.lasting := by
  simp only [State.msixRelease]; (repeat' split) <;> first | rfl | (simp [apply_ite State.lasting, Fn.rest, Fn.core, lasts_foldl]; done) | (simp [apply_ite State.lasting, Fn.rest, Fn.core, lasts_foldl]; rfl)

/-! ## Events -/

@[simp] theorem lasts_event (s : State) (fn : Nat) (e : Event) (final : Bool) : (State.event s fn e final).lasting = s.lasting := by
  simp [State.event, apply_ite State.lasting, Fn.rest, Fn.core]

@[simp] theorem lasts_releaseN (n : Nat) (s : State) (fn : Nat) : (State.releaseN n s fn).lasting = s.lasting := by
  induction n generalizing s with
  | zero => rfl
  | succ n ih => simp only [State.releaseN]; (repeat' split) <;> simp [ih]

@[simp] theorem lasts_releaseEvents (s : State) (fn : Nat) : (State.releaseEvents s fn).lasting = s.lasting := by
  simp [State.releaseEvents, apply_ite State.lasting, Fn.rest, Fn.core]

@[simp] theorem lasts_cmdFinal (s : State) (fn : Nat) (token : W16) (status detail : Nat) (long : Bool) : (State.cmdFinal s fn token status detail long).lasting = s.lasting := by
  simp [State.cmdFinal, apply_ite State.lasting, Fn.rest, Fn.core]

/-! ## Aer -/

@[simp] theorem lasts_aerFirst (s : State) (fn bit : Nat) : (s.aerFirst fn bit).lasting = s.lasting := by
  simp only [State.aerFirst]
  (repeat' split) <;> simp [State.takeFree]

@[simp] theorem lasts_aer (s : State) (fn bit : Nat) (advisory : Bool) : (State.aer s fn bit advisory).lasting = s.lasting := by
  simp [State.aer, apply_ite State.lasting, Fn.rest, Fn.core]

/-! ## Link -/

@[simp] theorem lasts_slvEvent (s : State) (sl : Sleeve) (bit : Nat) : (State.slvEvent s sl bit).lasting = s.lasting := by
  simp [State.slvEvent, apply_ite State.lasting, Fn.rest, Fn.core]

@[simp] theorem lasts_sendFlit (s : State) (sl : Sleeve) (kind vc : Nat) (payload : Bytes) : (State.sendFlit s sl kind vc payload).lasting = s.lasting := by
  simp [State.sendFlit, apply_ite State.lasting, Fn.rest, Fn.core]

@[simp] theorem lasts_bypassDrainN (n : Nat) (s : State) (sl : Sleeve) : (State.bypassDrainN n s sl).lasting = s.lasting := by
  induction n generalizing s with
  | zero => rfl
  | succ n ih => simp only [State.bypassDrainN]; (repeat' split) <;> simp [ih]

@[simp] theorem lasts_bypassDrain (s : State) (sl : Sleeve) : (State.bypassDrain s sl).lasting = s.lasting := by
  simp [State.bypassDrain, apply_ite State.lasting, Fn.rest, Fn.core]

@[simp] theorem lasts_bypass (s : State) (sl : Sleeve) (body : Bytes) : (State.bypass s sl body).lasting = s.lasting := by
  simp [State.bypass, apply_ite State.lasting, Fn.rest, Fn.core]

@[simp] theorem lasts_closeGroupN (n : Nat) (s : State) (sl : Sleeve) : (State.closeGroupN n s sl).lasting = s.lasting := by
  induction n generalizing s with
  | zero => rfl
  | succ n ih => simp only [State.closeGroupN]; split <;> simp [ih]

@[simp] theorem lasts_idleSend (s : State) (sl : Sleeve) (body : Bytes) : (State.idleSend s sl body).lasting = s.lasting := by
  simp [State.idleSend, apply_ite State.lasting, Fn.rest, Fn.core]

@[simp] theorem lasts_tpMsg (s : State) (sl : Sleeve) (fn : Option Nat) (body : Bytes) : (State.tpMsg s sl fn body).lasting = s.lasting := by
  simp only [State.tpMsg]; (repeat' split) <;> first | rfl | (simp [apply_ite State.lasting, Fn.rest, Fn.core, lasts_foldl]; done) | (simp [apply_ite State.lasting, Fn.rest, Fn.core, lasts_foldl]; rfl)

/-! ## Transport -/

@[simp] theorem lasts_addUnit (s : State) (u : XUnit) : (State.addUnit s u).lasting = s.lasting := by
  simp only [State.addUnit]; (repeat' split) <;> first | rfl | (simp [apply_ite State.lasting, Fn.rest, Fn.core, lasts_foldl]; done) | (simp [apply_ite State.lasting, Fn.rest, Fn.core, lasts_foldl]; rfl)

@[simp] theorem lasts_unqueue (s : State) (n : Nat) : (State.unqueue s n).lasting = s.lasting := by
  simp [State.unqueue, apply_ite State.lasting, Fn.rest, Fn.core]

@[simp] theorem lasts_dropUnit (s : State) (n : Nat) : (State.dropUnit s n).lasting = s.lasting := by
  simp [State.dropUnit, apply_ite State.lasting, Fn.rest, Fn.core]

@[simp] theorem lasts_ungrant (s : State) (n : Nat) : (State.ungrant s n).lasting = s.lasting := by
  simp [State.ungrant, apply_ite State.lasting, Fn.rest, Fn.core]

@[simp] theorem lasts_arriveUnit (s : State) (n : Nat) : (State.arriveUnit s n).lasting = s.lasting := by
  simp only [State.arriveUnit]; (repeat' split) <;> first | rfl | (simp [apply_ite State.lasting, Fn.rest, Fn.core, lasts_foldl]; done) | (simp [apply_ite State.lasting, Fn.rest, Fn.core, lasts_foldl]; rfl)

@[simp] theorem lasts_landBytes (s : State) (n off : Nat) (d : Bytes) : (State.landBytes s n off d).lasting = s.lasting := by
  simp only [State.landBytes]; (repeat' split) <;> first | rfl | (simp [apply_ite State.lasting, Fn.rest, Fn.core, lasts_foldl]; done) | (simp [apply_ite State.lasting, Fn.rest, Fn.core, lasts_foldl]; rfl)

@[simp] theorem lasts_sendWant (s : State) (k : Nat) (f : TxFlow) : (State.sendWant s k f).lasting = s.lasting := by
  simp [State.sendWant, apply_ite State.lasting, Fn.rest, Fn.core]

@[simp] theorem lasts_tpCount (s : State) (item : Nat) (f : Tp → Tp)
    (h : ∀ x, ((f x).epoch, (f x).rto, (f x).grantMax, (f x).wto, (f x).target) =
      (x.epoch, x.rto, x.grantMax, x.wto, x.target)) : (s.tpCount item f).lasting = s.lasting := by
  simp only [State.tpCount]
  rw [lasts_occ]; exact lasts_tp s _ (h _)

@[simp] theorem lasts_tpNoState (s : State) : (State.tpNoState s).lasting = s.lasting := by
  simp [State.tpNoState, apply_ite State.lasting, Fn.rest, Fn.core]

@[simp] theorem lasts_openFlow (s : State) (k : Nat) (f : TxFlow) : (State.openFlow s k f).lasting = s.lasting := by
  simp [State.openFlow, apply_ite State.lasting, Fn.rest, Fn.core]

@[simp] theorem lasts_ensureFlow (s : State) (node vc : Nat) (q : Option Nat) (fn : Nat) : (State.ensureFlow s node vc q fn).lasting = s.lasting := by
  simp only [State.ensureFlow]; (repeat' split) <;> first | rfl | (simp [apply_ite State.lasting, Fn.rest, Fn.core, lasts_foldl]; done) | (simp [apply_ite State.lasting, Fn.rest, Fn.core, lasts_foldl]; rfl)

@[simp] theorem lasts_modFlow (s : State) (k : Nat) (g : TxFlow → TxFlow) : (State.modFlow s k g).lasting = s.lasting := by
  simp [State.modFlow, apply_ite State.lasting, Fn.rest, Fn.core]

@[simp] theorem lasts_packetOut (s : State) (sl : Sleeve) (fn : Nat) (p : Packet) : (s.packetOut sl fn p).lasting = s.lasting := by
  have h : ((List.range (packetFlits p.len)).foldl (fun s i => s.sendFlit sl (pieceKind i (packetFlits p.len)) p.vc.toNat
      (slice (224 * i) 224 (packetBytes p))) (s.emit (.packet sl p))).lasting = s.lasting :=
    lasts_foldl (fun _ _ => lasts_sendFlit _ _ _ _ _) _ _
  simp only [State.packetOut]
  rw [lasts_occFn, lasts_charge]
  generalize (List.range (packetFlits p.len)).foldl _ (s.emit (.packet sl p)) = t at h ⊢
  simp [h]

@[simp] theorem lasts_emitNew (s : State) (k : Nat) (t : TxPkt) : (State.emitNew s k t).lasting = s.lasting := by
  simp only [State.emitNew]; (repeat' split) <;> first | rfl | (simp [apply_ite State.lasting, Fn.rest, Fn.core, lasts_foldl]; done) | (simp [apply_ite State.lasting, Fn.rest, Fn.core, lasts_foldl]; rfl)

@[simp] theorem lasts_modUnacked (s : State) (k : Nat) (seq : BitVec 24) (g : TxPkt → TxPkt) : (State.modUnacked s k seq g).lasting = s.lasting := by
  simp [State.modUnacked, apply_ite State.lasting, Fn.rest, Fn.core]

@[simp] theorem lasts_emitAgain (s : State) (k : Nat) (sl : Sleeve) (t : TxPkt) : (State.emitAgain s k sl t).lasting = s.lasting := by
  simp [State.emitAgain, apply_ite State.lasting, Fn.rest, Fn.core]

@[simp] theorem lasts_pumpAgainN (n : Nat) (s : State) (k : Nat) : (State.pumpAgainN n s k).lasting = s.lasting := by
  induction n generalizing s with
  | zero => rfl
  | succ n ih => simp only [State.pumpAgainN]; (repeat' split) <;> simp [ih]

@[simp] theorem lasts_pumpFlowN (n : Nat) (s : State) (k : Nat) : (State.pumpFlowN n s k).lasting = s.lasting := by
  induction n generalizing s with
  | zero => rfl
  | succ n ih => simp only [State.pumpFlowN]; (repeat' split) <;> simp [ih]

@[simp] theorem lasts_pumpFlow (s : State) (k : Nat) : (State.pumpFlow s k).lasting = s.lasting := by
  simp [State.pumpFlow, apply_ite State.lasting, Fn.rest, Fn.core]

@[simp] theorem lasts_sendPkt (s : State) (p : Packet) (owner : Owner) (fn : Nat) : (State.sendPkt s p owner fn).lasting = s.lasting := by
  simp [State.sendPkt, apply_ite State.lasting, Fn.rest, Fn.core]

@[simp] theorem lasts_modRx (s : State) (k : Nat) (g : RxFlow → RxFlow) : (State.modRx s k g).lasting = s.lasting := by
  simp [State.modRx, apply_ite State.lasting, Fn.rest, Fn.core]

@[simp] theorem lasts_sendGrant (s : State) (k : Nat) (r : RxFlow) : (State.sendGrant s k r).lasting = s.lasting := by
  simp [State.sendGrant, apply_ite State.lasting, Fn.rest, Fn.core]

@[simp] theorem lasts_raiseLimit (s : State) (k : Nat) : (State.raiseLimit s k).lasting = s.lasting := by
  simp only [State.raiseLimit]; (repeat' split) <;> first | rfl | (simp [apply_ite State.lasting, Fn.rest, Fn.core, lasts_foldl]; done) | (simp [apply_ite State.lasting, Fn.rest, Fn.core, lasts_foldl]; rfl)

@[simp] theorem lasts_serveStalled (l : List Nat) (s : State) : (State.serveStalled l s).lasting = s.lasting := by
  induction l generalizing s with
  | nil => rfl
  | cons k r ih => simp only [State.serveStalled]; split <;> simp [ih]

@[simp] theorem lasts_regrantAll (s : State) : (State.regrantAll s).lasting = s.lasting := by
  simp only [State.regrantAll]; (repeat' split) <;> first | rfl | (simp [apply_ite State.lasting, Fn.rest, Fn.core, lasts_foldl]; done) | (simp [apply_ite State.lasting, Fn.rest, Fn.core, lasts_foldl]; rfl)

@[simp] theorem lasts_regrant (s : State) (k : Nat) : (State.regrant s k).lasting = s.lasting := by
  simp only [State.regrant]; (repeat' split) <;> first | rfl | (simp [apply_ite State.lasting, Fn.rest, Fn.core, lasts_foldl]; done) | (simp [apply_ite State.lasting, Fn.rest, Fn.core, lasts_foldl]; rfl)

@[simp] theorem lasts_drain (s : State) (node vc units : Nat) : (State.drain s node vc units).lasting = s.lasting := by
  simp [State.drain, apply_ite State.lasting, Fn.rest, Fn.core]

@[simp] theorem lasts_drainUnit (s : State) (u : XUnit) : (State.drainUnit s u).lasting = s.lasting := by
  simp only [State.drainUnit]; (repeat' split) <;> first | rfl | (simp [apply_ite State.lasting, Fn.rest, Fn.core, lasts_foldl]; done) | (simp [apply_ite State.lasting, Fn.rest, Fn.core, lasts_foldl]; rfl)

@[simp] theorem lasts_sendAck (s : State) (node vc : Nat) (sl : Sleeve) : (State.sendAck s node vc sl).lasting = s.lasting := by
  simp only [State.sendAck]; (repeat' split) <;> first | rfl | (simp [apply_ite State.lasting, Fn.rest, Fn.core, lasts_foldl]; done) | (simp [apply_ite State.lasting, Fn.rest, Fn.core, lasts_foldl]; rfl)

@[simp] theorem lasts_allowAck (s : State) (node vc : Nat) (sl : Sleeve) : (State.allowAck s node vc sl).lasting = s.lasting := by
  simp only [State.allowAck]; (repeat' split) <;> first | rfl | (simp [apply_ite State.lasting, Fn.rest, Fn.core, lasts_foldl]; done) | (simp [apply_ite State.lasting, Fn.rest, Fn.core, lasts_foldl]; rfl)

@[simp] theorem lasts_sendNak (s : State) (node vc : Nat) (seq : BitVec 24) (status : Byte) (sl : Sleeve) : (State.sendNak s node vc seq status sl).lasting = s.lasting := by
  simp [State.sendNak, apply_ite State.lasting, Fn.rest, Fn.core]

@[simp] theorem lasts_answerN (n : Nat) (s : State) (node vc : Nat) (sl : Sleeve) : (State.answerN n s node vc sl).lasting = s.lasting := by
  induction n generalizing s with
  | zero => simp [State.answerN]
  | succ n ih => simp only [State.answerN]; (repeat' split) <;> simp [ih]

@[simp] theorem lasts_answer (s : State) (node vc : Nat) (sl : Sleeve) : (State.answer s node vc sl).lasting = s.lasting := by
  simp [State.answer, apply_ite State.lasting, Fn.rest, Fn.core]

@[simp] theorem lasts_refuse (s : State) (p : Packet) (status : Nat) : (State.refuse s p status).lasting = s.lasting := by
  simp [State.refuse, apply_ite State.lasting, Fn.rest, Fn.core]

/-! ## QueueOps -/

@[simp] theorem lasts_modDesc (s : State) (q : Nat) (sqi : W16) (g : Desc → Desc) : (State.modDesc s q sqi g).lasting = s.lasting := by
  simp [State.modDesc, apply_ite State.lasting, Fn.rest, Fn.core]

@[simp] theorem lasts_resteer (s : State) (q : Nat) : (State.resteer s q).lasting = s.lasting := by
  simp only [State.resteer]; (repeat' split) <;> first | rfl | (simp [apply_ite State.lasting, Fn.rest, Fn.core, lasts_foldl]; done) | (simp [apply_ite State.lasting, Fn.rest, Fn.core, lasts_foldl]; rfl)

@[simp] theorem lasts_announce (s : State) (fn q : Nat) (dev : Option W16) : (State.announce s fn q dev).lasting = s.lasting := by
  simp only [State.announce]; (repeat' split) <;> first | rfl | (simp [apply_ite State.lasting, Fn.rest, Fn.core, lasts_foldl]; done) | (simp [apply_ite State.lasting, Fn.rest, Fn.core, lasts_foldl]; rfl)

@[simp] theorem lasts_announceDue (s : State) (fn q : Nat) : (State.announceDue s fn q).lasting = s.lasting := by
  simp [State.announceDue, apply_ite State.lasting, Fn.rest, Fn.core]

@[simp] theorem lasts_moderate (s : State) (p : Qp) (solicit : Bool) : (State.moderate s p solicit).lasting = s.lasting := by
  simp only [State.moderate]; (repeat' split) <;> first | rfl | (simp [apply_ite State.lasting, Fn.rest, Fn.core, lasts_foldl]; done) | (simp [apply_ite State.lasting, Fn.rest, Fn.core, lasts_foldl]; rfl)

@[simp] theorem lasts_writeRecord (s : State) (q : Nat) (p : Qp) (d : Desc) (st : Byte) : (State.writeRecord s q p d st).lasting = s.lasting := by
  simp [State.writeRecord, apply_ite State.lasting, Fn.rest, Fn.core]

@[simp] theorem lasts_advanceN (n : Nat) (s : State) (q : Nat) : (State.advanceN n s q).lasting = s.lasting := by
  induction n generalizing s with
  | zero => rfl
  | succ n ih => simp only [State.advanceN]; (repeat' split) <;> simp [ih]

@[simp] theorem lasts_advance (s : State) (q : Nat) : (State.advance s q).lasting = s.lasting := by
  simp [State.advance, apply_ite State.lasting, Fn.rest, Fn.core]

@[simp] theorem lasts_qpStateEvent (s : State) (fn q : Nat) (state : Nat) (cause : Byte) : (State.qpStateEvent s fn q state cause).lasting = s.lasting := by
  simp [State.qpStateEvent, apply_ite State.lasting, Fn.rest, Fn.core]

@[simp] theorem lasts_refuseFrom (s : State) (p : Packet) (st : Nat) : (State.refuseFrom s p st).lasting = s.lasting := by
  simp [State.refuseFrom, apply_ite State.lasting, Fn.rest, Fn.core]

@[simp] theorem lasts_dropLost (st : Nat) (s : State) (n : Nat) : (State.dropLost st s n).lasting = s.lasting := by
  simp only [State.dropLost]; (repeat' split) <;> first | rfl | (simp [apply_ite State.lasting, Fn.rest, Fn.core, lasts_foldl]; done) | (simp [apply_ite State.lasting, Fn.rest, Fn.core, lasts_foldl]; rfl)

@[simp] theorem lasts_dropDescWork (s : State) (q : Nat) (gone : List W16) : (s.dropDescWork q gone).lasting = s.lasting := by
  simp only [State.dropDescWork]
  rw [lasts_tp _ _ rfl]
  exact (lasts_waits _ _).trans (lasts_foldl (fun s b => lasts_dropLost _ s b) _ _)

@[simp] theorem lasts_qpError (s : State) (q : Nat) (at_ : Option W16) (cause : Byte) : (State.qpError s q at_ cause).lasting = s.lasting := by
  simp only [State.qpError]; (repeat' split) <;> first | rfl | (simp [apply_ite State.lasting, Fn.rest, Fn.core, lasts_foldl]; done) | (simp [apply_ite State.lasting, Fn.rest, Fn.core, lasts_foldl]; rfl)

@[simp] theorem lasts_unitDone (s : State) (q : Nat) (sqi : W16) (no : Nat) : (State.unitDone s q sqi no).lasting = s.lasting := by
  simp [State.unitDone, apply_ite State.lasting, Fn.rest, Fn.core]

@[simp] theorem lasts_readUnit (s : State) (fn q u addr len : Nat) (ats : Bool) : (State.readUnit s fn q u addr len ats).lasting = s.lasting := by
  simp [State.readUnit, apply_ite State.lasting, Fn.rest, Fn.core]

@[simp] theorem lasts_startUnit (s : State) (q : Nat) (p : Qp) (d : Desc) : (State.startUnit s q p d).lasting = s.lasting := by
  simp [State.startUnit, apply_ite State.lasting, Fn.rest, Fn.core]

@[simp] theorem lasts_startUnitsN (n : Nat) (s : State) (q : Nat) : (State.startUnitsN n s q).lasting = s.lasting := by
  induction n generalizing s with
  | zero => rfl
  | succ n ih => simp only [State.startUnitsN]; (repeat' split) <;> simp [ih]

@[simp] theorem lasts_startUnits (s : State) (q : Nat) : (State.startUnits s q).lasting = s.lasting := by
  simp only [State.startUnits]; (repeat' split) <;> first | rfl | (simp [apply_ite State.lasting, Fn.rest, Fn.core, lasts_foldl]; done) | (simp [apply_ite State.lasting, Fn.rest, Fn.core, lasts_foldl]; rfl)

@[simp] theorem lasts_kickFn (s : State) (fn : Nat) : (State.kickFn s fn).lasting = s.lasting := by
  simp only [State.kickFn]; (repeat' split) <;> first | rfl | (simp [apply_ite State.lasting, Fn.rest, Fn.core, lasts_foldl]; done) | (simp [apply_ite State.lasting, Fn.rest, Fn.core, lasts_foldl]; rfl)

@[simp] theorem lasts_kickGroup (s : State) (g : Nat) : (State.kickGroup s g).lasting = s.lasting := by
  simp only [State.kickGroup]; (repeat' split) <;> first | rfl | (simp [apply_ite State.lasting, Fn.rest, Fn.core, lasts_foldl]; done) | (simp [apply_ite State.lasting, Fn.rest, Fn.core, lasts_foldl]; rfl)

@[simp] theorem lasts_takeUnread (s : State) (q : Nat) : (State.takeUnread s q).lasting = s.lasting := by
  simp [State.takeUnread, apply_ite State.lasting, Fn.rest, Fn.core]

@[simp] theorem lasts_fetchFailed (s : State) (q no : Nat) (cause : Byte) : (State.fetchFailed s q no cause).lasting = s.lasting := by
  simp only [State.fetchFailed]; (repeat' split) <;> first | rfl | (simp [apply_ite State.lasting, Fn.rest, Fn.core, lasts_foldl]; done) | (simp [apply_ite State.lasting, Fn.rest, Fn.core, lasts_foldl]; rfl)

@[simp] theorem lasts_holdQps (s : State) (fn : Nat) : (State.holdQps s fn).lasting = s.lasting := by
  simp [State.holdQps, apply_ite State.lasting, Fn.rest, Fn.core]

@[simp] theorem lasts_resumeQps (s : State) (fn : Nat) : (State.resumeQps s fn).lasting = s.lasting := by
  simp [State.resumeQps, apply_ite State.lasting, Fn.rest, Fn.core]

/-! ## TransportEnd -/

@[simp] theorem lasts_moveIn (s : State) (a : Arb) (g : Nat) : (s.moveIn a g).lasting = s.lasting := by
  simp only [State.moveIn]
  refine lasts_foldl (fun s n => ?_) _ _
  (repeat' split) <;> simp

@[simp] theorem lasts_unstage (s : State) (n : Nat) : (State.unstage s n).lasting = s.lasting := by
  simp only [State.unstage]; (repeat' split) <;> first | rfl | (simp [apply_ite State.lasting, Fn.rest, Fn.core, lasts_foldl]; done) | (simp [apply_ite State.lasting, Fn.rest, Fn.core, lasts_foldl]; rfl)

@[simp] theorem lasts_resendFlow (s : State) (k : Nat) : (s.resendFlow k).lasting = s.lasting := by
  simp only [State.resendFlow]
  split
  · rfl
  · rw [lasts_pumpFlow, lasts_foldl (fun s n => ?_), lasts_modFlow]
    let g (u : XUnit) : XUnit := { u with resend := true, stamp := s.stamp, arrived := s.clk.localCount }
    have h : ((s.ungrant n).modUnit n g).lasting = s.lasting := by simp
    refine Eq.trans ?_ h
    rfl

@[simp] theorem lasts_rerouteFlows (s : State) (sl : Sleeve) : (State.rerouteFlows s sl).lasting = s.lasting := by
  simp only [State.rerouteFlows]; (repeat' split) <;> first | rfl | (simp [apply_ite State.lasting, Fn.rest, Fn.core, lasts_foldl]; done) | (simp [apply_ite State.lasting, Fn.rest, Fn.core, lasts_foldl]; rfl)

/-! ## WindowOps -/

@[simp] theorem lasts_modApt (s : State) (n : Nat) (g : Apt → Apt) : (State.modApt s n g).lasting = s.lasting := by
  simp [State.modApt, apply_ite State.lasting, Fn.rest, Fn.core]

@[simp] theorem lasts_modIwin (s : State) (n : Nat) (g : Iwin → Iwin) : (State.modIwin s n g).lasting = s.lasting := by
  simp [State.modIwin, apply_ite State.lasting, Fn.rest, Fn.core]

@[simp] theorem lasts_readFail (s : State) (u st : Nat) : (State.readFail s u st).lasting = s.lasting := by
  simp only [State.readFail]; (repeat' split) <;> first | rfl | (simp [apply_ite State.lasting, Fn.rest, Fn.core, lasts_foldl]; done) | (simp [apply_ite State.lasting, Fn.rest, Fn.core, lasts_foldl]; rfl)

@[simp] theorem lasts_writeFail (s : State) (u st : Nat) : (State.writeFail s u st).lasting = s.lasting := by
  simp only [State.writeFail]; (repeat' split) <;> first | rfl | (simp [apply_ite State.lasting, Fn.rest, Fn.core, lasts_foldl]; done) | (simp [apply_ite State.lasting, Fn.rest, Fn.core, lasts_foldl]; rfl)

@[simp] theorem lasts_freeSlot (s : State) (h : Nat) : (State.freeSlot s h).lasting = s.lasting := by
  simp only [State.freeSlot]; (repeat' split) <;> first | rfl | (simp [apply_ite State.lasting, Fn.rest, Fn.core, lasts_foldl]; done) | (simp [apply_ite State.lasting, Fn.rest, Fn.core, lasts_foldl]; rfl)

@[simp] theorem lasts_slotFail (s : State) (h order st : Nat) : (State.slotFail s h order st).lasting = s.lasting := by
  simp only [State.slotFail]; (repeat' split) <;> first | rfl | (simp [apply_ite State.lasting, Fn.rest, Fn.core, lasts_foldl]; done) | (simp [apply_ite State.lasting, Fn.rest, Fn.core, lasts_foldl]; rfl)

@[simp] theorem lasts_dropPrefetch (s : State) (c : Prefetch → Bool) : (s.dropPrefetch c).lasting = s.lasting := by
  simp only [State.dropPrefetch]
  rw [lasts_winWaits, lasts_foldl (fun s x => lasts_modIwin _ _ _)]

/-! ## Apertures -/

@[simp] theorem lasts_unsupported (s : State) (fn : Nat) (nonPosted aer : Bool) : (State.unsupported s fn nonPosted aer).lasting = s.lasting := by
  simp [State.unsupported, apply_ite State.lasting, Fn.rest, Fn.core]

@[simp] theorem lasts_barRefuse (s : State) (fn : Nat) (nonPosted : Bool) (g : BarGate) :
    (s.barRefuse fn nonPosted g).lasting = s.lasting := by
  cases g <;> simp [State.barRefuse, apply_ite State.lasting]

@[simp] theorem lasts_noMap (s : State) (fn len : Nat) (isRead : Bool) : (State.noMap s fn len isRead).lasting = s.lasting := by
  simp [State.noMap, apply_ite State.lasting, Fn.rest, Fn.core]

@[simp] theorem lasts_flushStart (s : State) (fn a : Nat) : (State.flushStart s fn a).lasting = s.lasting := by
  simp only [State.flushStart]; (repeat' split) <;> first | rfl | (simp [apply_ite State.lasting, Fn.rest, Fn.core, lasts_foldl]; done) | (simp [apply_ite State.lasting, Fn.rest, Fn.core, lasts_foldl]; rfl)

@[simp] theorem lasts_stageWrite (s : State) (a : Nat) (x : Apt) (foff : Nat) (d : Bytes) : (State.stageWrite s a x foff d).lasting = s.lasting := by
  simp [State.stageWrite, apply_ite State.lasting, Fn.rest, Fn.core]

@[simp] theorem lasts_aptAccept (fn off : Nat) (data : Bytes) (s : State) : (State.aptAccept fn off data s).lasting = s.lasting := by
  simp only [State.aptAccept]
  (repeat' split) <;> first | simp | (rw [lasts_foldl fun _ _ => lasts_stageWrite _ _ _ _ _]; simp)

@[simp] theorem lasts_aptWrite (fn off : Nat) (data : Bytes) (s : State) : (State.aptWrite fn off data s).lasting = s.lasting := by
  simp [State.aptWrite, apply_ite State.lasting, Fn.rest, Fn.core]

@[simp] theorem lasts_heldWrite (s : State) : (State.heldWrite s).lasting = s.lasting := by
  simp only [State.heldWrite]; (repeat' split) <;> first | rfl | (simp [apply_ite State.lasting, Fn.rest, Fn.core, lasts_foldl]; done) | (simp [apply_ite State.lasting, Fn.rest, Fn.core, lasts_foldl]; rfl)

@[simp] theorem lasts_aptAsk (s : State) (id : Nat) (x : Apt) (ps : List (Nat × Nat)) : (State.aptAsk s id x ps).lasting = s.lasting := by
  simp only [State.aptAsk]; (repeat' split) <;> first | rfl | (simp [apply_ite State.lasting, Fn.rest, Fn.core, lasts_foldl]; done) | (simp [apply_ite State.lasting, Fn.rest, Fn.core, lasts_foldl]; rfl)

@[simp] theorem lasts_aptRead (fn off len htag : Nat) (s : State) : (State.aptRead fn off len htag s).lasting = s.lasting := by
  simp only [State.aptRead]; (repeat' split) <;> first | rfl | (simp [apply_ite State.lasting, Fn.rest, Fn.core, lasts_foldl]; done) | (simp [apply_ite State.lasting, Fn.rest, Fn.core, lasts_foldl]; rfl)

/-! ## Pump -/

@[simp] theorem lasts_xltFault (s : State) (fn kind obj addr : Nat) (write : Bool) (cause : Nat) : (State.xltFault s fn kind obj addr write cause).lasting = s.lasting := by
  simp [State.xltFault, apply_ite State.lasting, Fn.rest, Fn.core]

@[simp] theorem lasts_spillFault (s : State) (q addr : Nat) (write : Bool) (cause : Nat) : (State.spillFault s q addr write cause).lasting = s.lasting := by
  simp [State.spillFault, apply_ite State.lasting, Fn.rest, Fn.core]

@[simp] theorem lasts_readFault (s : State) (w : Wait) (cause : Nat) : (State.readFault s w cause).lasting = s.lasting := by
  simp only [State.readFault]; (repeat' split) <;> first | rfl | (simp [apply_ite State.lasting, Fn.rest, Fn.core, lasts_foldl]; done) | (simp [apply_ite State.lasting, Fn.rest, Fn.core, lasts_foldl]; rfl)

@[simp] theorem lasts_holdAgain (s : State) (i : HItem) (e : Event) (final : Bool) : (State.holdAgain s i e final).lasting = s.lasting := by
  simp [State.holdAgain, apply_ite State.lasting, Fn.rest, Fn.core]

@[simp] theorem lasts_eventFault (s : State) (i : HItem) (e : Event) (final : Bool) : (State.eventFault s i e final).lasting = s.lasting := by
  simp [State.eventFault, apply_ite State.lasting, Fn.rest, Fn.core]

@[simp] theorem lasts_writeFault (s : State) (i : HItem) (role : WrRole) (addr obj : Nat) (sqi : Option W16) (cause : Nat) : (State.writeFault s i role addr obj sqi cause).lasting = s.lasting := by
  simp only [State.writeFault]; (repeat' split) <;> first | rfl | (simp [apply_ite State.lasting, Fn.rest, Fn.core, lasts_foldl]; done) | (simp [apply_ite State.lasting, Fn.rest, Fn.core, lasts_foldl]; rfl)

@[simp] theorem lasts_unitFault (s : State) (n : Nat) (u : XUnit) (addr cause : Nat) : (State.unitFault s n u addr cause).lasting = s.lasting := by
  simp only [State.unitFault]; (repeat' split) <;> first | rfl | (simp [apply_ite State.lasting, Fn.rest, Fn.core, lasts_foldl]; done) | (simp [apply_ite State.lasting, Fn.rest, Fn.core, lasts_foldl]; rfl)

@[simp] theorem lasts_issueRead (s : State) (w : Wait) (addr : Nat) (translated : Bool) : (State.issueRead s w addr translated).lasting = s.lasting := by
  simp [State.issueRead, apply_ite State.lasting, Fn.rest, Fn.core]

@[simp] theorem lasts_unwait (s : State) (w : Wait) : (State.unwait s w).lasting = s.lasting := by
  simp [State.unwait, apply_ite State.lasting, Fn.rest, Fn.core]

@[simp] theorem lasts_waitMiss (s : State) (w : Wait) (len : Nat) (write : Bool) :
    (s.waitMiss w len write).lasting = s.lasting := by
  simp only [State.waitMiss]
  have h := lasts_xmiss s w.fn w.addr len write w.asked
  split <;> rename_i e <;> rw [e] at h <;> simpa using h

@[simp] theorem lasts_writePermit (s : State) (w : Wait) : (State.writePermit s w).lasting = s.lasting := by
  simp [State.writePermit, apply_ite State.lasting, Fn.rest, Fn.core]

@[simp] theorem lasts_tryWrite (s : State) (w : Wait) : (State.tryWrite s w).2.lasting = s.lasting := by
  simp only [State.tryWrite]; (repeat' split) <;> first | rfl | (simp [apply_ite State.lasting, Fn.rest, Fn.core, lasts_foldl]; done) | (simp [apply_ite State.lasting, Fn.rest, Fn.core, lasts_foldl]; rfl)

@[simp] theorem lasts_tryRead (s : State) (w : Wait) : (State.tryRead s w).2.lasting = s.lasting := by
  simp only [State.tryRead]; (repeat' split) <;> first | rfl | (simp [apply_ite State.lasting, Fn.rest, Fn.core, lasts_foldl]; done) | (simp [apply_ite State.lasting, Fn.rest, Fn.core, lasts_foldl]; rfl)

@[simp] theorem lasts_pumpReads (l : List Wait) (b : List (Nat × Nat × RdRole)) (s : State) : (State.pumpReads l b s).lasting = s.lasting := by
  induction l generalizing b s with
  | nil => rfl
  | cons w r ih =>
    simp only [State.pumpReads]
    split
    · simp [ih]
    · have h := lasts_tryRead s w
      split <;> rename_i e <;> rw [e] at h <;> simp_all

@[simp] theorem lasts_emitWrite (s : State) (fn addr : Nat) (data : Bytes) (a : WrAttr) (role : WrRole) : (State.emitWrite s fn addr data a role).lasting = s.lasting := by
  simp [State.emitWrite, apply_ite State.lasting, Fn.rest, Fn.core]

@[simp] theorem lasts_eventOut (s : State) (fn : Nat) (e : Event) (addr : Nat) (translated : Bool) : (State.eventOut s fn e addr translated).lasting = s.lasting := by
  simp [State.eventOut, apply_ite State.lasting, Fn.rest, Fn.core]

@[simp] theorem lasts_itemMiss (s : State) (i : HItem) (addr len : Nat) : (s.itemMiss i addr len).lasting = s.lasting := by
  simp only [State.itemMiss]
  have h := lasts_xmiss s i.fn addr len true i.asked
  split <;> rename_i e <;> rw [e] at h <;> simpa using h

@[simp] theorem lasts_tryItem (s : State) (i : HItem) : (State.tryItem s i).2.lasting = s.lasting := by
  simp only [State.tryItem]; (repeat' split) <;> first | rfl | (simp [apply_ite State.lasting, Fn.rest, Fn.core, lasts_foldl]; done) | (simp [apply_ite State.lasting, Fn.rest, Fn.core, lasts_foldl]; rfl)

@[simp] theorem lasts_pumpItems (l : List HItem) (b : List Nat) (s : State) : (State.pumpItems l b s).lasting = s.lasting := by
  induction l generalizing b s with
  | nil => rfl
  | cons i r ih =>
    simp only [State.pumpItems]
    split
    · simp [ih]
    · split
      · simp [ih]
      · have h := lasts_tryItem s i
        split <;> rename_i e <;> rw [e] at h <;> simp_all

@[simp] theorem lasts_unitMiss (s : State) (n : Nat) (u : XUnit) (lacking : List (Nat × Bytes)) :
    (s.unitMiss n u lacking).lasting = s.lasting := by
  simp only [State.unitMiss]
  refine lasts_foldl (fun s t => ?_) _ _
  have h := lasts_xmiss s u.fn t.1 t.2.length true (((tget s.units n).map (·.xasked)).getD true)
  split <;> rename_i e <;> rw [e] at h <;> simpa using h

@[simp] theorem lasts_unitWrite (u : XUnit) (s : State) (t : Nat × Bytes) : (State.unitWrite u s t).lasting = s.lasting := by
  simp only [State.unitWrite]; (repeat' split) <;> first | rfl | (simp [apply_ite State.lasting, Fn.rest, Fn.core, lasts_foldl]; done) | (simp [apply_ite State.lasting, Fn.rest, Fn.core, lasts_foldl]; rfl)

@[simp] theorem lasts_emitHost (s : State) (n : Nat) (u : XUnit) : (State.emitHost s n u).lasting = s.lasting := by
  simp only [State.emitHost]; (repeat' split) <;> first | rfl | (simp [apply_ite State.lasting, Fn.rest, Fn.core, lasts_foldl]; done) | (simp [apply_ite State.lasting, Fn.rest, Fn.core, lasts_foldl]; rfl)

@[simp] theorem lasts_pumpUnits (s : State) : s.pumpUnits.lasting = s.lasting := by
  simp only [State.pumpUnits]
  refine lasts_foldl (fun s n => ?_) _ _
  (repeat' split) <;> simp

@[simp] theorem lasts_pumpN (n : Nat) (s : State) : (State.pumpN n s).lasting = s.lasting := by
  induction n generalizing s with
  | zero => rfl
  | succ n ih => simp only [State.pumpN]; split <;> simp [ih]

@[simp] theorem lasts_pump (s : State) : (State.pump s).lasting = s.lasting := by
  simp [State.pump, apply_ite State.lasting, Fn.rest, Fn.core]

@[simp] theorem lasts_recoverFn (s : State) (fn : Nat) : (State.recoverFn s fn).lasting = s.lasting := by
  simp only [State.recoverFn]; (repeat' split) <;> first | rfl | (simp [apply_ite State.lasting, Fn.rest, Fn.core, lasts_foldl]; done) | (simp [apply_ite State.lasting, Fn.rest, Fn.core, lasts_foldl]; rfl)

@[simp] theorem lasts_recoverFns (s : State) : (State.recoverFns s).lasting = s.lasting := by
  simp only [State.recoverFns]; (repeat' split) <;> first | rfl | (simp [apply_ite State.lasting, Fn.rest, Fn.core, lasts_foldl]; done) | (simp [apply_ite State.lasting, Fn.rest, Fn.core, lasts_foldl]; rfl)

@[simp] theorem lasts_holdFn (s : State) (fn : Nat) : (State.holdFn s fn).lasting = s.lasting := by
  simp [State.holdFn, apply_ite State.lasting, Fn.rest, Fn.core]

/-! ## LinkOps -/

@[simp] theorem lasts_checkNode (s : State) : (State.checkNode s).lasting = s.lasting := by
  simp [State.checkNode, apply_ite State.lasting, Fn.rest, Fn.core]

@[simp] theorem lasts_slvCount (s : State) (sl : Sleeve) (item : Nat) (f : Slv → Slv) : (State.slvCount s sl item f).lasting = s.lasting := by
  simp [State.slvCount, apply_ite State.lasting, Fn.rest, Fn.core]

@[simp] theorem lasts_slvDown (s : State) (sl : Sleeve) (reason : Option Nat) : (State.slvDown s sl reason).lasting = s.lasting := by
  simp only [State.slvDown]; (repeat' split) <;> first | rfl | (simp [apply_ite State.lasting, Fn.rest, Fn.core, lasts_foldl]; done) | (simp [apply_ite State.lasting, Fn.rest, Fn.core, lasts_foldl]; rfl)

@[simp] theorem lasts_shedTo (s : State) (sl : Sleeve) (mask : Byte) : (State.shedTo s sl mask).lasting = s.lasting := by
  simp [State.shedTo, apply_ite State.lasting, Fn.rest, Fn.core]

@[simp] theorem lasts_shedWiden (s : State) (sl : Sleeve) (mask : Byte) : (State.shedWiden s sl mask).lasting = s.lasting := by
  simp [State.shedWiden, apply_ite State.lasting, Fn.rest, Fn.core]

@[simp] theorem lasts_shedAnswer (s : State) (sl : Sleeve) (mask : Byte) : (State.shedAnswer s sl mask).lasting = s.lasting := by
  simp [State.shedAnswer, apply_ite State.lasting, Fn.rest, Fn.core]

@[simp] theorem lasts_shedWaiting (s : State) (sl : Sleeve) : (State.shedWaiting s sl).lasting = s.lasting := by
  simp only [State.shedWaiting]; (repeat' split) <;> first | rfl | (simp [apply_ite State.lasting, Fn.rest, Fn.core, lasts_foldl]; done) | (simp [apply_ite State.lasting, Fn.rest, Fn.core, lasts_foldl]; rfl)

@[simp] theorem lasts_slvStalls (s : State) (sl : Sleeve) : (State.slvStalls s sl).lasting = s.lasting := by
  simp [State.slvStalls, apply_ite State.lasting, Fn.rest, Fn.core]

@[simp] theorem lasts_linkRest (s : State) (sl : Sleeve) : (State.linkRest s sl).lasting = s.lasting := by
  simp [State.linkRest, apply_ite State.lasting, Fn.rest, Fn.core]

@[simp] theorem lasts_beltOut (s : State) (body payload : Bytes) : (State.beltOut s body payload).lasting = s.lasting := by
  simp [State.beltOut, apply_ite State.lasting, Fn.rest, Fn.core]

@[simp] theorem lasts_beltSend (s : State) (body payload : Bytes) : (State.beltSend s body payload).lasting = s.lasting := by
  simp [State.beltSend, apply_ite State.lasting, Fn.rest, Fn.core]

@[simp] theorem lasts_bypassOpen (s : State) : (State.bypassOpen s).lasting = s.lasting := by
  simp [State.bypassOpen, apply_ite State.lasting, Fn.rest, Fn.core]

@[simp] theorem lasts_bypassClose (s : State) (leave : Option Nat) : (State.bypassClose s leave).lasting = s.lasting := by
  simp only [State.bypassClose]; (repeat' split) <;> first | rfl | (simp [apply_ite State.lasting, Fn.rest, Fn.core, lasts_foldl]; done) | (simp [apply_ite State.lasting, Fn.rest, Fn.core, lasts_foldl]; rfl)

/-! ## Tenancy -/

@[simp] theorem lasts_tdispError (s : State) (vf : Nat) : (State.tdispError s vf).lasting = s.lasting := by
  simp only [State.tdispError]; (repeat' split) <;> first | rfl | (simp [apply_ite State.lasting, Fn.rest, Fn.core, lasts_foldl]; done) | (simp [apply_ite State.lasting, Fn.rest, Fn.core, lasts_foldl]; rfl)

@[simp] theorem lasts_tdispErrorAll (s : State) (c : Nat → Tenant → Bool) : (State.tdispErrorAll s c).lasting = s.lasting := by
  simp only [State.tdispErrorAll]; (repeat' split) <;> first | rfl | (simp [apply_ite State.lasting, Fn.rest, Fn.core, lasts_foldl]; done) | (simp [apply_ite State.lasting, Fn.rest, Fn.core, lasts_foldl]; rfl)

@[simp] theorem lasts_logUpdate (s : State) (code status : Nat) : (State.logUpdate s code status).lasting = s.lasting := by
  simp [State.logUpdate, apply_ite State.lasting, Fn.rest, Fn.core]

@[simp] theorem lasts_sessionLost (s : State) : (State.sessionLost s).lasting = s.lasting := by
  simp [State.sessionLost, apply_ite State.lasting, Fn.rest, Fn.core]

/-! ## PleatOps -/

@[simp] theorem lasts_grantTo (s : State) (a : Arb) (n g : Nat) (cls : GrantClass) (p : Nat) : (State.grantTo s a n g cls p).lasting = s.lasting := by
  simp [State.grantTo, apply_ite State.lasting, Fn.rest, Fn.core]

@[simp] theorem lasts_pleatTrigger (s : State) (a : Arb) : (State.pleatTrigger s a).lasting = s.lasting := by
  simp only [State.pleatTrigger]; (repeat' split) <;> first | rfl | (simp [apply_ite State.lasting, Fn.rest, Fn.core, lasts_foldl]; done) | (simp [apply_ite State.lasting, Fn.rest, Fn.core, lasts_foldl]; rfl)

@[simp] theorem lasts_arrivalTriggers (s : State) : (s.arrivalTriggers).lasting = s.lasting := by
  simp only [State.arrivalTriggers]
  split
  · rfl
  · refine (lasts_foldl (fun s n => ?_) _ _).trans (lasts_plt _ _ rfl)
    split
    · rfl
    · split
      · exact lasts_pleatTrigger _ _
      · rfl

@[simp] theorem lasts_yieldAt (s : State) (a : Arb) : (s.yieldAt a).lasting = s.lasting := by
  simp only [State.yieldAt]
  refine lasts_foldl (fun s n => ?_) _ _
  (repeat' split) <;> simp

@[simp] theorem lasts_yieldGrants (s : State) : (State.yieldGrants s).lasting = s.lasting := by
  simp [State.yieldGrants, apply_ite State.lasting, Fn.rest, Fn.core]

/-! ## Resets -/

@[simp] theorem lasts_bhReset (s : State) : (State.bhReset s).lasting = s.lasting := by
  simp [State.bhReset, apply_ite State.lasting, Fn.rest, Fn.core]

/-! ## Floors -/

@[simp] theorem lasts_wake (s : State) (d : Domain) : (s.wake d).lasting = s.lasting := by
  refine lasts_modDom s d _ fun x => ?_
  dsimp only
  (repeat' split) <;> rfl

@[simp] theorem lasts_floorsWake (s : State) : s.floorsWake.lasting = s.lasting := by
  simp only [State.floorsWake]
  refine lasts_foldl (fun s n => ?_) _ _
  split <;> simp

/-! ## SpillOps -/

@[simp] theorem lasts_spillForget (s : State) (q : Nat) : (State.spillForget s q).lasting = s.lasting := by
  simp only [State.spillForget]; (repeat' split) <;> first | rfl | (simp [apply_ite State.lasting, Fn.rest, Fn.core, lasts_foldl]; done) | (simp [apply_ite State.lasting, Fn.rest, Fn.core, lasts_foldl]; rfl)

@[simp] theorem lasts_dropMove (s : State) (q : Nat) : (s.dropMove q).lasting = s.lasting := by
  have hq (s : State) (x : List (Nat × Move × Bool)) (c : W32) (fn : Nat) :
      (({ s with plc := { s.plc with moves := x, migAbort := c } } : State).occFn 0x0804 1 fn).lasting = s.lasting :=
    (lasts_occFn _ _ _ _).trans (lasts_plc _ _ rfl)
  unfold State.dropMove
  split
  · rfl
  · rename_i mv n h
    lift_lets
    extract_lets _ _ b
    have hb : b.lasting = s.lasting := hq _ _ _ _
    cases mv with
    | promote => exact ((lasts_modQp _ _ _).trans (lasts_spillForget _ _)).trans hb
    | demote => exact (lasts_modQp _ _ _).trans (((lasts_hostq' _ _ _).trans (lasts_plc _ _ rfl)).trans hb)
    | engine e => exact (lasts_modQp _ _ _).trans hb

@[simp] theorem lasts_endDemotions (s : State) : (State.endDemotions s).lasting = s.lasting := by
  simp only [State.endDemotions]; (repeat' split) <;> first | rfl | (simp [apply_ite State.lasting, Fn.rest, Fn.core, lasts_foldl]; done) | (simp [apply_ite State.lasting, Fn.rest, Fn.core, lasts_foldl]; rfl)

/-! ## StitchOps -/

@[simp] theorem lasts_stitchApply (s : State) (n : Nat) (e : Stitch) (raw : Int) :
    (s.stitchApply n e raw).lasting = s.lasting := by
  have h (x : Sti) (c : Bool) : (x.sated c).staleMs = x.staleMs := by cases c <;> rfl
  simp only [State.stitchApply]
  (repeat' split) <;> simp [h]

@[simp] theorem lasts_stitchField (s : State) (n : Nat) (e : Stitch) (len body : Nat) : (State.stitchField s n e len body).lasting = s.lasting := by
  simp [State.stitchField, apply_ite State.lasting, Fn.rest, Fn.core]

@[simp] theorem lasts_stitchFrame (s : State) (node : Nat) (frame : Bytes) : (s.stitchFrame node frame).lasting = s.lasting := by
  simp only [State.stitchFrame]
  split
  · simp
  · rw [lasts_foldl fun s p => ?_]
    · simp
    · split <;> simp

@[simp] theorem lasts_unpackFrames (s : State) : (State.unpackFrames s).lasting = s.lasting := by
  simp only [State.unpackFrames]; (repeat' split) <;> first | rfl | (simp [apply_ite State.lasting, Fn.rest, Fn.core, lasts_foldl]; done) | (simp [apply_ite State.lasting, Fn.rest, Fn.core, lasts_foldl]; rfl)

@[simp] theorem lasts_framesOutN (n : Nat) (s : State) : (State.framesOutN n s).lasting = s.lasting := by
  induction n generalizing s with
  | zero => rfl
  | succ n ih => simp only [State.framesOutN]; (repeat' split) <;> simp [ih]

@[simp] theorem lasts_framesOut (s : State) : (State.framesOut s).lasting = s.lasting := by
  simp [State.framesOut, apply_ite State.lasting, Fn.rest, Fn.core]

/-! ## Faults -/

@[simp] theorem lasts_reloadStart (s : State) : s.reloadStart.lasting = s.lasting := by
  simp only [State.reloadStart]
  rw [lasts_bootWaits, lasts_foldl fun s fn => ?_, lasts_sessionLost]
  split
  · rfl
  · rw [lasts_foldl fun s c => lasts_cmdFinal _ _ _ _ _ _, lasts_modPocket _ _ _ fun _ => rfl]

@[simp] theorem lasts_blockReset (s : State) (b : Block) : (State.blockReset s b).lasting = s.lasting := by
  simp only [State.blockReset]; (repeat' split) <;> first | rfl | (simp [apply_ite State.lasting, Fn.rest, Fn.core, lasts_foldl]; done) | (simp [apply_ite State.lasting, Fn.rest, Fn.core, lasts_foldl]; rfl)

@[simp] theorem lasts_faultRecord (s : State) (n : Nat) (r : FaultRec) : (State.faultRecord s n r).lasting = s.lasting := by
  simp [State.faultRecord, apply_ite State.lasting, Fn.rest, Fn.core]

@[simp] theorem lasts_errDrive (s : State) : (State.errDrive s).lasting = s.lasting := by
  simp [State.errDrive, apply_ite State.lasting, Fn.rest, Fn.core]

@[simp] theorem lasts_faultEvent (s : State) (n : Nat) : (State.faultEvent s n).lasting = s.lasting := by
  simp [State.faultEvent, apply_ite State.lasting, Fn.rest, Fn.core]

@[simp] theorem lasts_trapLog (s : State) (n : Nat) : (State.trapLog s n).lasting = s.lasting := by
  simp [State.trapLog, apply_ite State.lasting, Fn.rest, Fn.core]

@[simp] theorem lasts_trapDeliver (s : State) : (State.trapDeliver s).lasting = s.lasting := by
  simp only [State.trapDeliver]; (repeat' split) <;> first | rfl | (simp [apply_ite State.lasting, Fn.rest, Fn.core, lasts_foldl]; done) | (simp [apply_ite State.lasting, Fn.rest, Fn.core, lasts_foldl]; rfl)

@[simp] theorem lasts_trapRaise (s : State) (n : Nat) : (State.trapRaise s n).lasting = s.lasting := by
  simp [State.trapRaise, apply_ite State.lasting, Fn.rest, Fn.core]

@[simp] theorem lasts_safeAer (s : State) : (State.safeAer s).lasting = s.lasting := by
  simp [State.safeAer, apply_ite State.lasting, Fn.rest, Fn.core]

@[simp] theorem lasts_safeHalt (s : State) : s.safeHalt.lasting = s.lasting := by
  refine Eq.trans ?_ (lasts_foldl (f := fun s r => s.complete r.2.fn .ca []) (fun s r => lasts_complete _ _ _ _) s.win.reads s)
  rfl

@[simp] theorem lasts_safeFray (s : State) (sl : Sleeve) : (State.safeFray s sl).lasting = s.lasting := by
  simp [State.safeFray, apply_ite State.lasting, Fn.rest, Fn.core]

@[simp] theorem lasts_freeze (s : State) : (State.freeze s).lasting = s.lasting := by
  simp [State.freeze, apply_ite State.lasting, Fn.rest, Fn.core]

@[simp] theorem lasts_safeEnter (s : State) (n : Nat) : (s.safeEnter n).lasting = s.lasting := by
  unfold State.safeEnter
  split
  · refine Eq.trans ?_ (lasts_sessionLost s)
    generalize s.sessionLost = a
    lift_lets
    extract_lets _ _ b c d _ e _ f
    have hb : b.lasting = a.lasting := lasts_fc a _ rfl
    have hc : c.lasting = b.lasting := lasts_log b 0x0E n [] false
    have hd : d.lasting = c.lasting := (lasts_safeHalt _).trans ((lasts_freeze _).trans (lasts_safeAer _))
    have he : e.lasting = d.lasting := lasts_boot d _ rfl
    have hf : f.lasting = e.lasting := lasts_fc e _ rfl
    rw [lasts_bypassClose, lasts_safeFray, lasts_safeFray, hf, he, hd, hc, hb]
  · rfl

@[simp] theorem lasts_assertOne (s : State) (x : Nat × FaultRec) : (State.assertOne s x).lasting = s.lasting := by
  simp [State.assertOne, apply_ite State.lasting, Fn.rest, Fn.core]

@[simp] theorem lasts_takeBlockReset (s : State) (b : Block) : (State.takeBlockReset s b).lasting = s.lasting := by
  simp [State.takeBlockReset, apply_ite State.lasting, Fn.rest, Fn.core]

@[simp] theorem lasts_takeActions (s : State) (l : List (Nat × FaultRec)) : (State.takeActions s l).lasting = s.lasting := by
  simp only [State.takeActions]; (repeat' split) <;> first | rfl | (simp [apply_ite State.lasting, Fn.rest, Fn.core, lasts_foldl]; done) | (simp [apply_ite State.lasting, Fn.rest, Fn.core, lasts_foldl]; rfl)

@[simp] theorem lasts_collect (s : State) : (State.collect s).lasting = s.lasting := by
  simp only [State.collect]; (repeat' split) <;> first | rfl | (simp [apply_ite State.lasting, Fn.rest, Fn.core, lasts_foldl]; done) | (simp [apply_ite State.lasting, Fn.rest, Fn.core, lasts_foldl]; rfl)

@[simp] theorem lasts_bhInterrupt (s : State) : (State.bhInterrupt s).lasting = s.lasting := by
  simp [State.bhInterrupt, apply_ite State.lasting, Fn.rest, Fn.core]

@[simp] theorem lasts_settleN (n : Nat) (s : State) : (State.settleN n s).lasting = s.lasting := by
  induction n generalizing s with
  | zero => rfl
  | succ n ih => simp only [State.settleN]; split <;> simp [ih]

@[simp] theorem lasts_modeNote (was s : State) : (State.modeNote was s).lasting = s.lasting := by
  simp [State.modeNote, apply_ite State.lasting, Fn.rest, Fn.core]

/-- The common end of a command leaves State.lasting alone. -/
@[simp] theorem lasts_settle (was s : State) : (settle was s).lasting = s.lasting := by simp [settle]

/-- State.lasting after a command is that of the state its own effect leaves. -/
@[simp] theorem lasts_after (was own : State) : (was.after own).lasting = own.lasting := by simp [State.after]

end Sys2Proof.Machine
end

