-- ==== Sys2Proof/Laws/Firm.lean ====
section
/-! SUPPORT. What hardly any operation touches: the reaction words, the anti-rollback fuses and the local count. One lemma
for each operation of the model says so, or says what it does to them. -/
set_option linter.unusedSimpArgs false
set_option linter.unusedTactic false
set_option linter.unreachableTactic false
set_option linter.unnecessarySeqFocus false
set_option linter.unusedVariables false
namespace Sys2Proof.Machine

/-- The reaction words, the fuses and the local count. -/
structure Firm where
  react : Table Byte
  fuses : Nat
  count : Nat

/-- Those of a state. -/
def State.firm (s : State) : Firm := ⟨s.fc.react, s.boot.fuses, s.clk.localCount⟩

@[simp] theorem firm_react (s : State) : s.fc.react = s.firm.react := rfl
@[simp] theorem firm_fuses (s : State) : s.boot.fuses = s.firm.fuses := rfl
@[simp] theorem firm_count (s : State) : s.clk.localCount = s.firm.count := rfl


/-- What leaves State.lasting alone leaves them alone. -/
theorem firm_of_lasting {a b : State} (h : a.lasting = b.lasting) : a.firm = b.firm := by
  have h4 : a.boot.fuses = b.boot.fuses := congrArg (fun x : Kept => x.boot.fuses) h
  have h5 : a.clk.localCount = b.clk.localCount := congrArg (fun x : Kept => x.clk.localCount) h
  have h6 : a.fc.react = b.fc.react := congrArg Kept.react h
  simp only [State.firm, h4, h5, h6]


@[simp] theorem firm_mk (x0 x1 x2 x3 x4 x5 x6 x7 x8 x9 x10 x11 x12 x13 x14 x15 x16 x17 x18 x19 x20 x21 x22 x23 x24 x25 x26 x27 x28 x29) : (State.mk x0 x1 x2 x3 x4 x5 x6 x7 x8 x9 x10 x11 x12 x13 x14 x15 x16 x17 x18 x19 x20 x21 x22 x23 x24 x25 x26 x27 x28 x29).firm = ⟨x24.react, x0.fuses, x1.localCount⟩ := rfl


/-- A fold of operations that keep them keeps them. -/
@[simp] theorem firm_foldl {β : Type} {f : State → β → State} (h : ∀ s b, (f s b).firm = s.firm) (l : List β) (s : State) :
    (l.foldl f s).firm = s.firm := by
  induction l generalizing s with
  | nil => rfl
  | cons b r ih => rw [List.foldl_cons, ih, h]


@[simp] theorem firm_setFn (s : State) (n : Nat) (f : Fn) : (State.setFn s n f).firm = s.firm := by
  simp only [State.setFn]; (repeat' split) <;> first | rfl | (simp [apply_ite State.firm, firm_foldl]; done) | (simp_all [apply_ite State.firm, firm_foldl]; done)

@[simp] theorem firm_modFn (s : State) (n : Nat) (g : Fn → Fn) : (State.modFn s n g).firm = s.firm := by
  simp only [State.modFn]; (repeat' split) <;> first | rfl | (simp [apply_ite State.firm, firm_foldl]; done) | (simp_all [apply_ite State.firm, firm_foldl]; done)

@[simp] theorem firm_modPocket (s : State) (n : Nat) (g : Pocket → Pocket) : (State.modPocket s n g).firm = s.firm := by
  simp only [State.modPocket]; (repeat' split) <;> first | rfl | (simp [apply_ite State.firm, firm_foldl]; done) | (simp_all [apply_ite State.firm, firm_foldl]; done)

@[simp] theorem firm_modCfg (s : State) (n : Nat) (g : FnCfg → FnCfg) : (State.modCfg s n g).firm = s.firm := by
  simp only [State.modCfg]; (repeat' split) <;> first | rfl | (simp [apply_ite State.firm, firm_foldl]; done) | (simp_all [apply_ite State.firm, firm_foldl]; done)

@[simp] theorem firm_modQp (s : State) (n : Nat) (g : Qp → Qp) : (State.modQp s n g).firm = s.firm := by
  exact firm_of_lasting (lasts_modQp s n g)

@[simp] theorem firm_modQset (s : State) (n q : Nat) (g : QSet → QSet) : (State.modQset s n q g).firm = s.firm := by
  exact firm_of_lasting (lasts_modQset s n q g)

@[simp] theorem firm_modUnit (s : State) (u : Nat) (g : XUnit → XUnit) : (State.modUnit s u g).firm = s.firm := by
  exact firm_of_lasting (lasts_modUnit s u g)

@[simp] theorem firm_modTenant (s : State) (vf : Nat) (g : Tenant → Tenant) : (State.modTenant s vf g).firm = s.firm := by
  simp only [State.modTenant]; (repeat' split) <;> first | rfl | (simp [apply_ite State.firm, firm_foldl]; done) | (simp_all [apply_ite State.firm, firm_foldl]; done)

@[simp] theorem firm_setBh (s : State) (b : Bh) : (State.setBh s b).firm = s.firm := by
  simp only [State.setBh]; (repeat' split) <;> first | rfl | (simp [apply_ite State.firm, firm_foldl]; done) | (simp_all [apply_ite State.firm, firm_foldl]; done)

@[simp] theorem firm_setSlv (s : State) (sl : Sleeve) (v : Slv) : (State.setSlv s sl v).firm = s.firm := by
  exact firm_of_lasting (lasts_setSlv s sl v)

@[simp] theorem firm_modSlv (s : State) (sl : Sleeve) (g : Slv → Slv) : (State.modSlv s sl g).firm = s.firm := by
  exact firm_of_lasting (lasts_modSlv s sl g)

@[simp] theorem firm_setArb (s : State) (a : Arb) (v : Arbiter) : (State.setArb s a v).firm = s.firm := by
  simp only [State.setArb]; (repeat' split) <;> first | rfl | (simp [apply_ite State.firm, firm_foldl]; done) | (simp_all [apply_ite State.firm, firm_foldl]; done)

@[simp] theorem firm_modArb (s : State) (a : Arb) (g : Arbiter → Arbiter) : (State.modArb s a g).firm = s.firm := by
  simp only [State.modArb]; (repeat' split) <;> first | rfl | (simp [apply_ite State.firm, firm_foldl]; done) | (simp_all [apply_ite State.firm, firm_foldl]; done)

@[simp] theorem firm_modDom (s : State) (d : Domain) (g : Dom → Dom) : (State.modDom s d g).firm = s.firm := by
  simp only [State.modDom]; (repeat' split) <;> first | rfl | (simp [apply_ite State.firm, firm_foldl]; done) | (simp_all [apply_ite State.firm, firm_foldl]; done)

@[simp] theorem firm_emit (s : State) (e : Emission) : (State.emit s e).firm = s.firm := by
  exact firm_of_lasting (lasts_emit s e)

@[simp] theorem firm_emitTlp (s : State) (fn : Nat) (x : Tlp) : (State.emitTlp s fn x).firm = s.firm := by
  exact firm_of_lasting (lasts_emitTlp s fn x)

@[simp] theorem firm_reply (s : State) (fn : Nat) (st : CplStatus) (data : Bytes) : (State.reply s fn st data).firm = s.firm := by
  exact firm_of_lasting (lasts_reply s fn st data)

@[simp] theorem firm_emits (s : State) (es : List Emission) : (State.emits s es).firm = s.firm := by
  exact firm_of_lasting (lasts_emits s es)

@[simp] theorem firm_forEach {α : Type} (s : State) (l : List α) (f : α → State → State) (h : ∀ a s, (f a s).firm = s.firm) :
    (s.forEach l f).firm = s.firm := firm_foldl (fun s a => h a s) l s
@[simp] theorem firm_takeFree (s : State) : s.takeFree.2.firm = s.firm := rfl

@[simp] theorem firm_when (s : State) (c : Bool) (f : State → State) (h : ∀ s, (f s).firm = s.firm) :
    (s.when c f).firm = s.firm := by unfold State.when; split <;> simp [h]

@[simp] theorem firm_charge (s : State) (fn idx n : Nat) : (State.charge s fn idx n).firm = s.firm := by
  exact firm_of_lasting (lasts_charge s fn idx n)

@[simp] theorem firm_chargeQset (s : State) (fn q idx n : Nat) : (State.chargeQset s fn q idx n).firm = s.firm := by
  simp only [State.chargeQset]; (repeat' split) <;> first | rfl | (simp [apply_ite State.firm, firm_foldl]; done) | (simp_all [apply_ite State.firm, firm_foldl]; done)

@[simp] theorem firm_tracePush (s : State) (m : Bytes) : (State.tracePush s m).firm = s.firm := by
  exact firm_of_lasting (lasts_tracePush s m)

@[simp] theorem firm_traceOcc (s : State) (code amount : Nat) (fn grp : Option Nat) : (State.traceOcc s code amount fn grp).firm = s.firm := by
  exact firm_of_lasting (lasts_traceOcc s code amount fn grp)

@[simp] theorem firm_occ (s : State) (code amount : Nat) (fn grp : Option Nat) : (State.occ s code amount fn grp).firm = s.firm := by
  exact firm_of_lasting (lasts_occ s code amount fn grp)

@[simp] theorem firm_occFn (s : State) (code amount fn : Nat) : (State.occFn s code amount fn).firm = s.firm := by
  exact firm_of_lasting (lasts_occFn s code amount fn)

@[simp] theorem firm_log (s : State) (type code : Nat) (data : Bytes) (cont : Bool := false) : (State.log s type code data cont).firm = s.firm := by
  exact firm_of_lasting (lasts_log s type code data cont)

@[simp] theorem firm_raise (s : State) (src : Nat) (r : FaultRec) : (State.raise s src r).firm = s.firm := by
  exact firm_of_lasting (lasts_raise s src r)

@[simp] theorem firm_xtouch (s : State) (fn addr len : Nat) (missed : Bool) : (State.xtouch s fn addr len missed).firm = s.firm := by
  exact firm_of_lasting (lasts_xtouch s fn addr len missed)

@[simp] theorem firm_xinsert (s : State) (fn asked : Nat) (x : Xlation) : (State.xinsert s fn asked x).firm = s.firm := by
  simp only [State.xinsert]; (repeat' split) <;> first | rfl | (simp [apply_ite State.firm, firm_foldl]; done) | (simp_all [apply_ite State.firm, firm_foldl]; done)

@[simp] theorem firm_xtrim (s : State) (fn : Nat) : (State.xtrim s fn).firm = s.firm := by
  simp only [State.xtrim]; (repeat' split) <;> first | rfl | (simp [apply_ite State.firm, firm_foldl]; done) | (simp_all [apply_ite State.firm, firm_foldl]; done)

@[simp] theorem firm_xinvalidate (s : State) (fn base len : Nat) (global : Bool) : (State.xinvalidate s fn base len global).firm = s.firm := by
  exact firm_of_lasting (lasts_xinvalidate s fn base len global)

@[simp] theorem firm_pushItem (s : State) (fn : Nat) (k : HKind) : (State.pushItem s fn k).firm = s.firm := by
  exact firm_of_lasting (lasts_pushItem s fn k)

@[simp] theorem firm_tlpSent (s : State) (fn n : Nat) : (State.tlpSent s fn n).firm = s.firm := by
  exact firm_of_lasting (lasts_tlpSent s fn n)

@[simp] theorem firm_tlpRcvd (s : State) (fn n : Nat) : (State.tlpRcvd s fn n).firm = s.firm := by
  exact firm_of_lasting (lasts_tlpRcvd s fn n)

@[simp] theorem firm_written (s : State) (fn n : Nat) : (State.written s fn n).firm = s.firm := by
  exact firm_of_lasting (lasts_written s fn n)

@[simp] theorem firm_complete (s : State) (fn : Nat) (st : CplStatus) (data : Bytes) : (State.complete s fn st data).firm = s.firm := by
  exact firm_of_lasting (lasts_complete s fn st data)

@[simp] theorem firm_sendMsg (s : State) (fn : Nat) (m : HostMsg) : (State.sendMsg s fn m).firm = s.firm := by
  exact firm_of_lasting (lasts_sendMsg s fn m)

@[simp] theorem firm_msixSend (s : State) (fn vec : Nat) (dev : Option W16) : (State.msixSend s fn vec dev).firm = s.firm := by
  exact firm_of_lasting (lasts_msixSend s fn vec dev)

@[simp] theorem firm_msixTrigger (s : State) (fn vec : Nat) (dev : Option W16) : (State.msixTrigger s fn vec dev).firm = s.firm := by
  exact firm_of_lasting (lasts_msixTrigger s fn vec dev)

@[simp] theorem firm_msixRelease (s : State) (fn : Nat) : (State.msixRelease s fn).firm = s.firm := by
  exact firm_of_lasting (lasts_msixRelease s fn)

@[simp] theorem firm_event (s : State) (fn : Nat) (e : Event) (final : Bool := false) : (State.event s fn e final).firm = s.firm := by
  exact firm_of_lasting (lasts_event s fn e final)

@[simp] theorem firm_releaseN (n : Nat) (s : State) (fn : Nat) : (State.releaseN n s fn).firm = s.firm := by
  induction n generalizing s with
  | zero => rfl
  | succ n ih => simp only [State.releaseN]; (repeat' split) <;> simp [ih]
@[simp] theorem firm_releaseEvents (s : State) (fn : Nat) : (State.releaseEvents s fn).firm = s.firm := firm_releaseN ..

@[simp] theorem firm_cmdFinal (s : State) (fn : Nat) (token : W16) (status detail : Nat) (long : Bool) : (State.cmdFinal s fn token status detail long).firm = s.firm := by
  exact firm_of_lasting (lasts_cmdFinal s fn token status detail long)

@[simp] theorem firm_finishLong (s : State) (fn : Nat) (token : W16) (status detail : Nat) : (State.finishLong s fn token status detail).firm = s.firm := by
  simp only [State.finishLong]; (repeat' split) <;> first | rfl | (simp [apply_ite State.firm, firm_foldl]; done) | (simp_all [apply_ite State.firm, firm_foldl]; done)

@[simp] theorem firm_slvEvent (s : State) (sl : Sleeve) (bit : Nat) : (State.slvEvent s sl bit).firm = s.firm := by
  exact firm_of_lasting (lasts_slvEvent s sl bit)

@[simp] theorem firm_sendFlit (s : State) (sl : Sleeve) (kind vc : Nat) (payload : Bytes) : (State.sendFlit s sl kind vc payload).firm = s.firm := by
  exact firm_of_lasting (lasts_sendFlit s sl kind vc payload)

@[simp] theorem firm_bypassDrain (s : State) (sl : Sleeve) : (State.bypassDrain s sl).firm = s.firm := by
  exact firm_of_lasting (lasts_bypassDrain s sl)

@[simp] theorem firm_bypass (s : State) (sl : Sleeve) (body : Bytes) : (State.bypass s sl body).firm = s.firm := by
  exact firm_of_lasting (lasts_bypass s sl body)

@[simp] theorem firm_bypassNow (s : State) (sl : Sleeve) (body : Bytes) : (State.bypassNow s sl body).firm = s.firm := by
  simp only [State.bypassNow]; (repeat' split) <;> first | rfl | (simp [apply_ite State.firm, firm_foldl]; done) | (simp_all [apply_ite State.firm, firm_foldl]; done)

@[simp] theorem firm_replayFrom (s : State) (sl : Sleeve) (a : BitVec 12) : (State.replayFrom s sl a).firm = s.firm := by
  simp only [State.replayFrom]; (repeat' split) <;> first | rfl | (simp [apply_ite State.firm, firm_foldl]; done) | (simp_all [apply_ite State.firm, firm_foldl]; done)

@[simp] theorem firm_idleSend (s : State) (sl : Sleeve) (body : Bytes) : (State.idleSend s sl body).firm = s.firm := by
  exact firm_of_lasting (lasts_idleSend s sl body)

@[simp] theorem firm_crossed (s : State) (sl : Sleeve) : (State.crossed s sl).firm = s.firm := by
  simp only [State.crossed]; (repeat' split) <;> first | rfl | (simp [apply_ite State.firm, firm_foldl]; done) | (simp_all [apply_ite State.firm, firm_foldl]; done)

@[simp] theorem firm_tpMsg (s : State) (sl : Sleeve) (fn : Option Nat) (body : Bytes) : (State.tpMsg s sl fn body).firm = s.firm := by
  exact firm_of_lasting (lasts_tpMsg s sl fn body)

@[simp] theorem firm_stallFor (s : State) (sl : Sleeve) (ns : Nat) : (State.stallFor s sl ns).firm = s.firm := by
  simp only [State.stallFor]; (repeat' split) <;> first | rfl | (simp [apply_ite State.firm, firm_foldl]; done) | (simp_all [apply_ite State.firm, firm_foldl]; done)

@[simp] theorem firm_traceRoom (s : State) : (State.traceRoom s).firm = s.firm := by
  simp only [State.traceRoom]; (repeat' split) <;> first | rfl | (simp [apply_ite State.firm, firm_foldl]; done) | (simp_all [apply_ite State.firm, firm_foldl]; done)

@[simp] theorem firm_traceSlot (s : State) : (State.traceSlot s).firm = s.firm := by
  simp only [State.traceSlot]; (repeat' split) <;> first | rfl | (simp [apply_ite State.firm, firm_foldl]; done) | (simp_all [apply_ite State.firm, firm_foldl]; done)

@[simp] theorem firm_traceSlots (n : Nat) (s : State) : (State.traceSlots n s).firm = s.firm := by
  induction n generalizing s with
  | zero => rfl
  | succ n ih =>
    rw [State.traceSlots, ih]
    unfold State.traceSlot
    (repeat' split) <;> first | rfl | (simp [State.traceRoom, apply_ite State.firm]; done)
/-- A step of the clocks changes only the local count (R13). -/
theorem firm_tick (s : State) :
    s.tick.firm = s.firm ∨ s.tick.firm = { s.firm with count := s.firm.count + s.clockStep } := by
  unfold State.tick
  split
  · exact .inl rfl
  · right
    simp only [firm_traceSlots, firm_stallFor]
    rfl

@[simp] theorem firm_aerFirst (s : State) (fn bit : Nat) : (State.aerFirst s fn bit).firm = s.firm := by
  exact firm_of_lasting (lasts_aerFirst s fn bit)

@[simp] theorem firm_aer (s : State) (fn bit : Nat) (advisory : Bool) : (State.aer s fn bit advisory).firm = s.firm := by
  exact firm_of_lasting (lasts_aer s fn bit advisory)

@[simp] theorem firm_addUnit (s : State) (u : XUnit) : (State.addUnit s u).firm = s.firm := by
  exact firm_of_lasting (lasts_addUnit s u)

@[simp] theorem firm_unqueue (s : State) (n : Nat) : (State.unqueue s n).firm = s.firm := by
  exact firm_of_lasting (lasts_unqueue s n)

@[simp] theorem firm_dropUnit (s : State) (n : Nat) : (State.dropUnit s n).firm = s.firm := by
  exact firm_of_lasting (lasts_dropUnit s n)

@[simp] theorem firm_ungrant (s : State) (n : Nat) : (State.ungrant s n).firm = s.firm := by
  exact firm_of_lasting (lasts_ungrant s n)

@[simp] theorem firm_arriveUnit (s : State) (n : Nat) : (State.arriveUnit s n).firm = s.firm := by
  exact firm_of_lasting (lasts_arriveUnit s n)

@[simp] theorem firm_landBytes (s : State) (n off : Nat) (d : Bytes) : (State.landBytes s n off d).firm = s.firm := by
  exact firm_of_lasting (lasts_landBytes s n off d)

@[simp] theorem firm_sendWant (s : State) (k : Nat) (f : TxFlow) : (State.sendWant s k f).firm = s.firm := by
  exact firm_of_lasting (lasts_sendWant s k f)

@[simp] theorem firm_tpCount (s : State) (item : Nat) (f : Tp → Tp) : (State.tpCount s item f).firm = s.firm := by
  simp only [State.tpCount]; (repeat' split) <;> first | rfl | (simp [apply_ite State.firm, firm_foldl]; done) | (simp_all [apply_ite State.firm, firm_foldl]; done)

@[simp] theorem firm_tpNoState (s : State) : (State.tpNoState s).firm = s.firm := by
  exact firm_of_lasting (lasts_tpNoState s)

@[simp] theorem firm_tpLate (s : State) : (State.tpLate s).firm = s.firm := by
  simp only [State.tpLate]; (repeat' split) <;> first | rfl | (simp [apply_ite State.firm, firm_foldl]; done) | (simp_all [apply_ite State.firm, firm_foldl]; done)

@[simp] theorem firm_tpStale (s : State) : (State.tpStale s).firm = s.firm := by
  simp only [State.tpStale]; (repeat' split) <;> first | rfl | (simp [apply_ite State.firm, firm_foldl]; done) | (simp_all [apply_ite State.firm, firm_foldl]; done)

@[simp] theorem firm_openFlow (s : State) (k : Nat) (f : TxFlow) : (State.openFlow s k f).firm = s.firm := by
  exact firm_of_lasting (lasts_openFlow s k f)

@[simp] theorem firm_ensureFlow (s : State) (node vc : Nat) (q : Option Nat) (fn : Nat) : (State.ensureFlow s node vc q fn).firm = s.firm := by
  exact firm_of_lasting (lasts_ensureFlow s node vc q fn)

@[simp] theorem firm_modFlow (s : State) (k : Nat) (g : TxFlow → TxFlow) : (State.modFlow s k g).firm = s.firm := by
  simp only [State.modFlow]; (repeat' split) <;> first | rfl | (simp [apply_ite State.firm, firm_foldl]; done) | (simp_all [apply_ite State.firm, firm_foldl]; done)

@[simp] theorem firm_packetOut (s : State) (sl : Sleeve) (fn : Nat) (p : Packet) : (State.packetOut s sl fn p).firm = s.firm := by
  exact firm_of_lasting (lasts_packetOut s sl fn p)

@[simp] theorem firm_emitNew (s : State) (k : Nat) (t : TxPkt) : (State.emitNew s k t).firm = s.firm := by
  exact firm_of_lasting (lasts_emitNew s k t)

@[simp] theorem firm_modUnacked (s : State) (k : Nat) (seq : BitVec 24) (g : TxPkt → TxPkt) : (State.modUnacked s k seq g).firm = s.firm := by
  simp only [State.modUnacked]; (repeat' split) <;> first | rfl | (simp [apply_ite State.firm, firm_foldl]; done) | (simp_all [apply_ite State.firm, firm_foldl]; done)

@[simp] theorem firm_emitAgain (s : State) (k : Nat) (sl : Sleeve) (t : TxPkt) : (State.emitAgain s k sl t).firm = s.firm := by
  exact firm_of_lasting (lasts_emitAgain s k sl t)

@[simp] theorem firm_pumpFlow (s : State) (k : Nat) : (State.pumpFlow s k).firm = s.firm := by
  exact firm_of_lasting (lasts_pumpFlow s k)

@[simp] theorem firm_pumpSleeve (s : State) (sl : Sleeve) : (State.pumpSleeve s sl).firm = s.firm := by
  simp only [State.pumpSleeve]; (repeat' split) <;> first | rfl | (simp [apply_ite State.firm, firm_foldl]; done) | (simp_all [apply_ite State.firm, firm_foldl]; done)

@[simp] theorem firm_sendPkt (s : State) (p : Packet) (owner : Owner) (fn : Nat) : (State.sendPkt s p owner fn).firm = s.firm := by
  exact firm_of_lasting (lasts_sendPkt s p owner fn)

@[simp] theorem firm_modRx (s : State) (k : Nat) (g : RxFlow → RxFlow) : (State.modRx s k g).firm = s.firm := by
  simp only [State.modRx]; (repeat' split) <;> first | rfl | (simp [apply_ite State.firm, firm_foldl]; done) | (simp_all [apply_ite State.firm, firm_foldl]; done)

@[simp] theorem firm_sendGrant (s : State) (k : Nat) (r : RxFlow) : (State.sendGrant s k r).firm = s.firm := by
  exact firm_of_lasting (lasts_sendGrant s k r)

@[simp] theorem firm_raiseLimit (s : State) (k : Nat) : (State.raiseLimit s k).firm = s.firm := by
  exact firm_of_lasting (lasts_raiseLimit s k)

@[simp] theorem firm_regrantAll (s : State) : (State.regrantAll s).firm = s.firm := by
  exact firm_of_lasting (lasts_regrantAll s)

@[simp] theorem firm_regrant (s : State) (k : Nat) : (State.regrant s k).firm = s.firm := by
  exact firm_of_lasting (lasts_regrant s k)

@[simp] theorem firm_drain (s : State) (node vc units : Nat) : (State.drain s node vc units).firm = s.firm := by
  exact firm_of_lasting (lasts_drain s node vc units)

@[simp] theorem firm_drainUnit (s : State) (u : XUnit) : (State.drainUnit s u).firm = s.firm := by
  exact firm_of_lasting (lasts_drainUnit s u)

@[simp] theorem firm_sendAck (s : State) (node vc : Nat) (sl : Sleeve) : (State.sendAck s node vc sl).firm = s.firm := by
  exact firm_of_lasting (lasts_sendAck s node vc sl)

@[simp] theorem firm_allowAck (s : State) (node vc : Nat) (sl : Sleeve) : (State.allowAck s node vc sl).firm = s.firm := by
  exact firm_of_lasting (lasts_allowAck s node vc sl)

@[simp] theorem firm_sendNak (s : State) (node vc : Nat) (seq : BitVec 24) (status : Byte) (sl : Sleeve) : (State.sendNak s node vc seq status sl).firm = s.firm := by
  exact firm_of_lasting (lasts_sendNak s node vc seq status sl)

@[simp] theorem firm_answer (s : State) (node vc : Nat) (sl : Sleeve) : (State.answer s node vc sl).firm = s.firm := by
  exact firm_of_lasting (lasts_answer s node vc sl)

@[simp] theorem firm_committedRx (s : State) (p : Packet) : (State.committedRx s p).firm = s.firm := by
  simp only [State.committedRx]; (repeat' split) <;> first | rfl | (simp [apply_ite State.firm, firm_foldl]; done) | (simp_all [apply_ite State.firm, firm_foldl]; done)

@[simp] theorem firm_refuse (s : State) (p : Packet) (status : Nat) : (State.refuse s p status).firm = s.firm := by
  exact firm_of_lasting (lasts_refuse s p status)

@[simp] theorem firm_sendRetire (s : State) (node vc : Nat) (sl : Sleeve) (fn : Option Nat) : (State.sendRetire s node vc sl fn).firm = s.firm := by
  simp only [State.sendRetire]; (repeat' split) <;> first | rfl | (simp [apply_ite State.firm, firm_foldl]; done) | (simp_all [apply_ite State.firm, firm_foldl]; done)

@[simp] theorem firm_modDesc (s : State) (q : Nat) (sqi : W16) (g : Desc → Desc) : (State.modDesc s q sqi g).firm = s.firm := by
  simp only [State.modDesc]; (repeat' split) <;> first | rfl | (simp [apply_ite State.firm, firm_foldl]; done) | (simp_all [apply_ite State.firm, firm_foldl]; done)

@[simp] theorem firm_resteer (s : State) (q : Nat) : (State.resteer s q).firm = s.firm := by
  exact firm_of_lasting (lasts_resteer s q)

@[simp] theorem firm_resteerIdle (s : State) (q : Nat) : (State.resteerIdle s q).firm = s.firm := by
  simp only [State.resteerIdle]; (repeat' split) <;> first | rfl | (simp [apply_ite State.firm, firm_foldl]; done) | (simp_all [apply_ite State.firm, firm_foldl]; done)

@[simp] theorem firm_announce (s : State) (fn q : Nat) (dev : Option W16) : (State.announce s fn q dev).firm = s.firm := by
  exact firm_of_lasting (lasts_announce s fn q dev)

@[simp] theorem firm_announceDue (s : State) (fn q : Nat) : (State.announceDue s fn q).firm = s.firm := by
  exact firm_of_lasting (lasts_announceDue s fn q)

@[simp] theorem firm_moderate (s : State) (p : Qp) (solicit : Bool) : (State.moderate s p solicit).firm = s.firm := by
  exact firm_of_lasting (lasts_moderate s p solicit)

@[simp] theorem firm_writeRecord (s : State) (q : Nat) (p : Qp) (d : Desc) (st : Byte) : (State.writeRecord s q p d st).firm = s.firm := by
  exact firm_of_lasting (lasts_writeRecord s q p d st)

@[simp] theorem firm_advance (s : State) (q : Nat) : (State.advance s q).firm = s.firm := by
  exact firm_of_lasting (lasts_advance s q)

@[simp] theorem firm_qpStateEvent (s : State) (fn q : Nat) (state : Nat) (cause : Byte) : (State.qpStateEvent s fn q state cause).firm = s.firm := by
  exact firm_of_lasting (lasts_qpStateEvent s fn q state cause)

@[simp] theorem firm_lateWriteEvent (s : State) (fn kind obj status : Nat) (off : W64) (seq : BitVec 24) : (State.lateWriteEvent s fn kind obj status off seq).firm = s.firm := by
  simp only [State.lateWriteEvent]; (repeat' split) <;> first | rfl | (simp [apply_ite State.firm, firm_foldl]; done) | (simp_all [apply_ite State.firm, firm_foldl]; done)

@[simp] theorem firm_refuseFrom (s : State) (p : Packet) (st : Nat) : (State.refuseFrom s p st).firm = s.firm := by
  exact firm_of_lasting (lasts_refuseFrom s p st)

@[simp] theorem firm_endRefusals (s : State) (q : Nat) : (State.endRefusals s q).firm = s.firm := by
  simp only [State.endRefusals]; (repeat' split) <;> first | rfl | (simp [apply_ite State.firm, firm_foldl]; done) | (simp_all [apply_ite State.firm, firm_foldl]; done)

@[simp] theorem firm_dropLost (st : Nat) (s : State) (n : Nat) : (State.dropLost st s n).firm = s.firm := by
  exact firm_of_lasting (lasts_dropLost st s n)

@[simp] theorem firm_dropDescWork (s : State) (q : Nat) (gone : List W16) : (State.dropDescWork s q gone).firm = s.firm := by
  exact firm_of_lasting (lasts_dropDescWork s q gone)

@[simp] theorem firm_qpError (s : State) (q : Nat) (at_ : Option W16) (cause : Byte) : (State.qpError s q at_ cause).firm = s.firm := by
  exact firm_of_lasting (lasts_qpError s q at_ cause)

@[simp] theorem firm_unitDone (s : State) (q : Nat) (sqi : W16) (no : Nat) : (State.unitDone s q sqi no).firm = s.firm := by
  exact firm_of_lasting (lasts_unitDone s q sqi no)

@[simp] theorem firm_unitFailed (s : State) (q : Nat) (sqi : W16) (no : Nat) (nak : Option Nat) (off : W64) (seq : BitVec 24) (put ackedUnit : Bool) : (State.unitFailed s q sqi no nak off seq put ackedUnit).firm = s.firm := by
  simp only [State.unitFailed]; (repeat' split) <;> first | rfl | (simp [apply_ite State.firm, firm_foldl]; done) | (simp_all [apply_ite State.firm, firm_foldl]; done)

@[simp] theorem firm_readUnit (s : State) (fn q u addr len : Nat) (ats : Bool) : (State.readUnit s fn q u addr len ats).firm = s.firm := by
  exact firm_of_lasting (lasts_readUnit s fn q u addr len ats)

@[simp] theorem firm_startUnit (s : State) (q : Nat) (p : Qp) (d : Desc) : (State.startUnit s q p d).firm = s.firm := by
  exact firm_of_lasting (lasts_startUnit s q p d)

@[simp] theorem firm_startUnits (s : State) (q : Nat) : (State.startUnits s q).firm = s.firm := by
  exact firm_of_lasting (lasts_startUnits s q)

@[simp] theorem firm_kickFn (s : State) (fn : Nat) : (State.kickFn s fn).firm = s.firm := by
  exact firm_of_lasting (lasts_kickFn s fn)

@[simp] theorem firm_kickGroup (s : State) (g : Nat) : (State.kickGroup s g).firm = s.firm := by
  exact firm_of_lasting (lasts_kickGroup s g)

@[simp] theorem firm_fetch (s : State) (q : Nat) : (State.fetch s q).firm = s.firm := by
  simp only [State.fetch]; (repeat' split) <;> first | rfl | (simp [apply_ite State.firm, firm_foldl]; done) | (simp_all [apply_ite State.firm, firm_foldl]; done)

@[simp] theorem firm_takeDesc (s : State) (q : Nat) (b : Bytes) : (State.takeDesc s q b).firm = s.firm := by
  unfold State.takeDesc
  split
  · rfl
  · dsimp only
    split
    · rw [firm_advance, firm_modQp, firm_chargeQset, firm_charge, firm_occFn]
    · (repeat' split) <;> simp only [firm_qpError, firm_modQp, firm_chargeQset, firm_charge, firm_occFn]
@[simp] theorem firm_takeDescs (l : List Bytes) (s : State) (q : Nat) : (State.takeDescs l s q).firm = s.firm := by
  induction l generalizing s with
  | nil => rfl
  | cons b r ih => simp only [State.takeDescs]; split <;> simp [ih]

@[simp] theorem firm_fetchDone (s : State) (q no : Nat) (data : Bytes) : (State.fetchDone s q no data).firm = s.firm := by
  unfold State.fetchDone
  split
  · rfl
  · split
    · rfl
    · extract_lets n s1 takes
      have e : s1.firm = s.firm := firm_modQp ..
      split <;> simp [e]

@[simp] theorem firm_takeUnread (s : State) (q : Nat) : (State.takeUnread s q).firm = s.firm := by
  exact firm_of_lasting (lasts_takeUnread s q)

@[simp] theorem firm_fetchFailed (s : State) (q no : Nat) (cause : Byte) : (State.fetchFailed s q no cause).firm = s.firm := by
  exact firm_of_lasting (lasts_fetchFailed s q no cause)

@[simp] theorem firm_ringSq (s : State) (q : Nat) (idx : W16) : (State.ringSq s q idx).firm = s.firm := by
  simp only [State.ringSq]; (repeat' split) <;> first | rfl | (simp [apply_ite State.firm, firm_foldl]; done) | (simp_all [apply_ite State.firm, firm_foldl]; done)

@[simp] theorem firm_ringCq (s : State) (q : Nat) (idx : W16) : (State.ringCq s q idx).firm = s.firm := by
  simp only [State.ringCq]; (repeat' split) <;> first | rfl | (simp [apply_ite State.firm, firm_foldl]; done) | (simp_all [apply_ite State.firm, firm_foldl]; done)

@[simp] theorem firm_applyKept (s : State) (q : Nat) : (State.applyKept s q).firm = s.firm := by
  simp only [State.applyKept]; (repeat' split) <;> first | rfl | (simp [apply_ite State.firm, firm_foldl]; done) | (simp_all [apply_ite State.firm, firm_foldl]; done)

@[simp] theorem firm_holdQps (s : State) (fn : Nat) : (State.holdQps s fn).firm = s.firm := by
  exact firm_of_lasting (lasts_holdQps s fn)

@[simp] theorem firm_resumeQps (s : State) (fn : Nat) : (State.resumeQps s fn).firm = s.firm := by
  exact firm_of_lasting (lasts_resumeQps s fn)

@[simp] theorem firm_cutQp (s : State) (q : Nat) (o : Owner) : (State.cutQp s q o).firm = s.firm := rfl

@[simp] theorem firm_orphanQp (s : State) (q : Nat) : (State.orphanQp s q).firm = s.firm := by
  simp only [State.orphanQp]; (repeat' split) <;> first | rfl | (simp [apply_ite State.firm, firm_foldl]; done) | (simp_all [apply_ite State.firm, firm_foldl]; done)

@[simp] theorem firm_wipeQp (s : State) (q : Nat) : (State.wipeQp s q).firm = s.firm := by
  simp only [State.wipeQp]; (repeat' split) <;> first | rfl | (simp [apply_ite State.firm, firm_foldl]; done) | (simp_all [apply_ite State.firm, firm_foldl]; done)

@[simp] theorem firm_wipeQps (s : State) (fn : Nat) : (State.wipeQps s fn).firm = s.firm := by
  simp only [State.wipeQps]; (repeat' split) <;> first | rfl | (simp [apply_ite State.firm, firm_foldl]; done) | (simp_all [apply_ite State.firm, firm_foldl]; done)

@[simp] theorem firm_recoverQp (s : State) (q : Nat) : (State.recoverQp s q).firm = s.firm := by
  unfold State.recoverQp
  split
  · rfl
  · rw [firm_modQp, firm_foldl (fun s f => by simp)]
    rfl

@[simp] theorem firm_moveIn (s : State) (a : Arb) (g : Nat) : (State.moveIn s a g).firm = s.firm :=
  firm_of_lasting (lasts_moveIn s a g)

@[simp] theorem firm_unstage (s : State) (n : Nat) : (State.unstage s n).firm = s.firm := firm_of_lasting (lasts_unstage s n)


@[simp] theorem firm_aptLate (s : State) (a : Nat) (x : Apt) (nak : Bool) (off : W64) (seq : BitVec 24) : (State.aptLate s a x nak off seq).firm = s.firm := by
  simp only [State.aptLate]; (repeat' split) <;> first | rfl | (simp [apply_ite State.firm, firm_foldl]; done) | (simp_all [apply_ite State.firm, firm_foldl]; done)

@[simp] theorem firm_aptEnded (s : State) (a order : Nat) (e : PktEnd) (off : W64) (seq : BitVec 24) (emitted : Bool) : (State.aptEnded s a order e off seq emitted).firm = s.firm := by
  simp only [State.aptEnded]; (repeat' split) <;> first | rfl | (simp [apply_ite State.firm, firm_foldl]; done) | (simp_all [apply_ite State.firm, firm_foldl]; done)

@[simp] theorem firm_aptReadAbort (s : State) (id : Nat) : (State.aptReadAbort s id).firm = s.firm := by
  simp only [State.aptReadAbort]; (repeat' split) <;> first | rfl | (simp [apply_ite State.firm, firm_foldl]; done) | (simp_all [apply_ite State.firm, firm_foldl]; done)

@[simp] theorem firm_dropAwait (s : State) (o : Owner) : (State.dropAwait s o).firm = s.firm := by
  simp only [State.dropAwait]; (repeat' split) <;> first | rfl | (simp [apply_ite State.firm, firm_foldl]; done) | (simp_all [apply_ite State.firm, firm_foldl]; done)

@[simp] theorem firm_pastFailed (s : State) (q : Nat) (nak : Option Nat) (p : Packet) (acked : Bool) : (State.pastFailed s q nak p acked).firm = s.firm := by
  simp only [State.pastFailed]; (repeat' split) <;> first | rfl | (simp [apply_ite State.firm, firm_foldl]; done) | (simp_all [apply_ite State.firm, firm_foldl]; done)

@[simp] theorem firm_ownerEnd (s : State) (o : Owner) (order : Nat) (e : PktEnd) (p : Packet) (emitted acked : Bool) : (State.ownerEnd s o order e p emitted acked).firm = s.firm := by
  simp only [State.ownerEnd]; (repeat' split) <;> first | rfl | (simp [apply_ite State.firm, firm_foldl]; done) | (simp_all [apply_ite State.firm, firm_foldl]; done)

@[simp] theorem firm_endPkt (s : State) (t : TxPkt) (e : PktEnd) : (State.endPkt s t e).firm = s.firm := by
  simp only [State.endPkt]; (repeat' split) <;> first | rfl | (simp [apply_ite State.firm, firm_foldl]; done) | (simp_all [apply_ite State.firm, firm_foldl]; done)

@[simp] theorem firm_endUnit (s : State) (n : Nat) (e : PktEnd) : (State.endUnit s n e).firm = s.firm := by
  simp only [State.endUnit]; (repeat' split) <;> first | rfl | (simp [apply_ite State.firm, firm_foldl]; done) | (simp_all [apply_ite State.firm, firm_foldl]; done)

@[simp] theorem firm_endWaiting (e : PktEnd) (s : State) (t : TxPkt) : (State.endWaiting e s t).firm = s.firm := by
  simp only [State.endWaiting]; (repeat' split) <;> first | rfl | (simp [apply_ite State.firm, firm_foldl]; done) | (simp_all [apply_ite State.firm, firm_foldl]; done)

@[simp] theorem firm_endAll (s : State) (k : Nat) (f : TxFlow) (e : PktEnd) : (State.endAll s k f e).firm = s.firm := by
  simp only [State.endAll]; (repeat' split) <;> first | rfl | (simp [apply_ite State.firm, firm_foldl]; done) | (simp_all [apply_ite State.firm, firm_foldl]; done)

@[simp] theorem firm_endFlow (s : State) (k : Nat) (e : PktEnd) : (State.endFlow s k e).firm = s.firm := by
  simp only [State.endFlow]; (repeat' split) <;> first | rfl | (simp [apply_ite State.firm, firm_foldl]; done) | (simp_all [apply_ite State.firm, firm_foldl]; done)

@[simp] theorem firm_reviveFlow (s : State) (k : Nat) : (State.reviveFlow s k).firm = s.firm := by
  simp only [State.reviveFlow]; (repeat' split) <;> first | rfl | (simp [apply_ite State.firm, firm_foldl]; done) | (simp_all [apply_ite State.firm, firm_foldl]; done)

@[simp] theorem firm_startWaiting (s : State) : (State.startWaiting s).firm = s.firm := by
  simp only [State.startWaiting]; (repeat' split) <;> first | rfl | (simp [apply_ite State.firm, firm_foldl]; done) | (simp_all [apply_ite State.firm, firm_foldl]; done)

@[simp] theorem firm_silence (s : State) (k : Nat) : (State.silence s k).firm = s.firm := by
  simp only [State.silence]; (repeat' split) <;> first | rfl | (simp [apply_ite State.firm, firm_foldl]; done) | (simp_all [apply_ite State.firm, firm_foldl]; done)

@[simp] theorem firm_ccSample (s : State) (k : Nat) (t : TxPkt) : (State.ccSample s k t).firm = s.firm := by
  simp only [State.ccSample]; (repeat' split) <;> first | rfl | (simp [apply_ite State.firm, firm_foldl]; done) | (simp_all [apply_ite State.firm, firm_foldl]; done)

@[simp] theorem firm_ackUpTo (s : State) (k : Nat) (seq : BitVec 24) : (State.ackUpTo s k seq).firm = s.firm := by
  simp only [State.ackUpTo]; (repeat' split) <;> first | rfl | (simp [apply_ite State.firm, firm_foldl]; done) | (simp_all [apply_ite State.firm, firm_foldl]; done)

@[simp] theorem firm_nakAt (s : State) (k : Nat) (seq : BitVec 24) (st : Nat) : (State.nakAt s k seq st).firm = s.firm := by
  simp only [State.nakAt]; (repeat' split) <;> first | rfl | (simp [apply_ite State.firm, firm_foldl]; done) | (simp_all [apply_ite State.firm, firm_foldl]; done)

@[simp] theorem firm_resendFlow (s : State) (k : Nat) : (State.resendFlow s k).firm = s.firm := by
  exact firm_of_lasting (lasts_resendFlow s k)

@[simp] theorem firm_rerouteFlows (s : State) (sl : Sleeve) : (State.rerouteFlows s sl).firm = s.firm := by
  exact firm_of_lasting (lasts_rerouteFlows s sl)

@[simp] theorem firm_cutRx (s : State) (k : Nat) : (State.cutRx s k).firm = s.firm := by
  simp only [State.cutRx]; (repeat' split) <;> first | rfl | (simp [apply_ite State.firm, firm_foldl]; done) | (simp_all [apply_ite State.firm, firm_foldl]; done)

@[simp] theorem firm_epochChange (s : State) (node : Nat) (e : W16) : (State.epochChange s node e).firm = s.firm := by
  simp only [State.epochChange]; (repeat' split) <;> first | rfl | (simp [apply_ite State.firm, firm_foldl]; done) | (simp_all [apply_ite State.firm, firm_foldl]; done)

@[simp] theorem firm_noteEpoch (s : State) (node : Nat) (e : W16) : (State.noteEpoch s node e).firm = s.firm := by
  simp only [State.noteEpoch]; (repeat' split) <;> first | rfl | (simp [apply_ite State.firm, firm_foldl]; done) | (simp_all [apply_ite State.firm, firm_foldl]; done)

@[simp] theorem firm_sendEpoch (s : State) (sl : Sleeve) : (State.sendEpoch s sl).firm = s.firm := by
  simp only [State.sendEpoch]; (repeat' split) <;> first | rfl | (simp [apply_ite State.firm, firm_foldl]; done) | (simp_all [apply_ite State.firm, firm_foldl]; done)

@[simp] theorem firm_epochRaise (s : State) : (State.epochRaise s).firm = s.firm := by
  simp only [State.epochRaise]; (repeat' split) <;> first | rfl | (simp [apply_ite State.firm, firm_foldl]; done) | (simp_all [apply_ite State.firm, firm_foldl]; done)

@[simp] theorem firm_retireRx (s : State) (k : Nat) : (State.retireRx s k).firm = s.firm := by
  simp only [State.retireRx]; (repeat' split) <;> first | rfl | (simp [apply_ite State.firm, firm_foldl]; done) | (simp_all [apply_ite State.firm, firm_foldl]; done)

@[simp] theorem firm_answerRetire (s : State) (node vc : Nat) (sl : Sleeve) (fn : Option Nat) : (State.answerRetire s node vc sl fn).firm = s.firm := by
  simp only [State.answerRetire]; (repeat' split) <;> first | rfl | (simp [apply_ite State.firm, firm_foldl]; done) | (simp_all [apply_ite State.firm, firm_foldl]; done)

@[simp] theorem firm_answerEpoch (s : State) (node : Nat) (sl : Sleeve) : (State.answerEpoch s node sl).firm = s.firm := by
  simp only [State.answerEpoch]; (repeat' split) <;> first | rfl | (simp [apply_ite State.firm, firm_foldl]; done) | (simp_all [apply_ite State.firm, firm_foldl]; done)

@[simp] theorem firm_modApt (s : State) (n : Nat) (g : Apt → Apt) : (State.modApt s n g).firm = s.firm := by
  exact firm_of_lasting (lasts_modApt s n g)

@[simp] theorem firm_modIwin (s : State) (n : Nat) (g : Iwin → Iwin) : (State.modIwin s n g).firm = s.firm := by
  simp only [State.modIwin]; (repeat' split) <;> first | rfl | (simp [apply_ite State.firm, firm_foldl]; done) | (simp_all [apply_ite State.firm, firm_foldl]; done)

@[simp] theorem firm_inDenied (s : State) (w : Option Nat) : (State.inDenied s w).firm = s.firm := by
  simp only [State.inDenied]; (repeat' split) <;> first | rfl | (simp [apply_ite State.firm, firm_foldl]; done) | (simp_all [apply_ite State.firm, firm_foldl]; done)

@[simp] theorem firm_readFail (s : State) (u st : Nat) : (State.readFail s u st).firm = s.firm := by
  exact firm_of_lasting (lasts_readFail s u st)

@[simp] theorem firm_writeFail (s : State) (u st : Nat) : (State.writeFail s u st).firm = s.firm := by
  exact firm_of_lasting (lasts_writeFail s u st)

@[simp] theorem firm_freeSlot (s : State) (h : Nat) : (State.freeSlot s h).firm = s.firm := by
  exact firm_of_lasting (lasts_freeSlot s h)

@[simp] theorem firm_slotFail (s : State) (h order st : Nat) : (State.slotFail s h order st).firm = s.firm := by
  exact firm_of_lasting (lasts_slotFail s h order st)

@[simp] theorem firm_dropPrefetch (s : State) (c : Prefetch → Bool) : (State.dropPrefetch s c).firm = s.firm := by
  exact firm_of_lasting (lasts_dropPrefetch s c)

@[simp] theorem firm_orphanApts (s : State) (fn : Nat) : (State.orphanApts s fn).firm = s.firm := by
  simp only [State.orphanApts]; (repeat' split) <;> first | rfl | (simp [apply_ite State.firm, firm_foldl]; done) | (simp_all [apply_ite State.firm, firm_foldl]; done)

@[simp] theorem firm_closeWindows (s : State) (fn : Nat) (toPool : Bool) : (State.closeWindows s fn toPool).firm = s.firm := by
  simp only [State.closeWindows]; (repeat' split) <;> first | rfl | (simp [apply_ite State.firm, firm_foldl]; done) | (simp_all [apply_ite State.firm, firm_foldl]; done)

@[simp] theorem firm_unsupported (s : State) (fn : Nat) (nonPosted aer : Bool) : (State.unsupported s fn nonPosted aer).firm = s.firm := by
  exact firm_of_lasting (lasts_unsupported s fn nonPosted aer)

@[simp] theorem firm_noMap (s : State) (fn len : Nat) (isRead : Bool) : (State.noMap s fn len isRead).firm = s.firm := by
  exact firm_of_lasting (lasts_noMap s fn len isRead)

@[simp] theorem firm_flushStart (s : State) (fn a : Nat) : (State.flushStart s fn a).firm = s.firm := by
  exact firm_of_lasting (lasts_flushStart s fn a)

@[simp] theorem firm_stageWrite (s : State) (a : Nat) (x : Apt) (foff : Nat) (d : Bytes) : (State.stageWrite s a x foff d).firm = s.firm := by
  exact firm_of_lasting (lasts_stageWrite s a x foff d)

@[simp] theorem firm_aptAccept (fn off : Nat) (data : Bytes) (s : State) : (State.aptAccept fn off data s).firm = s.firm := by
  exact firm_of_lasting (lasts_aptAccept fn off data s)

@[simp] theorem firm_barRefuse (s : State) (fn : Nat) (np : Bool) (g : BarGate) : (s.barRefuse fn np g).firm = s.firm := by
  cases g <;> simp [State.barRefuse, apply_ite State.firm]
@[simp] theorem firm_aptWrite (fn off : Nat) (data : Bytes) (s : State) : (State.aptWrite fn off data s).firm = s.firm := by
  unfold State.aptWrite
  repeat' split
  all_goals first | rfl | (simp; done) | (rw [firm_foldl (fun s p => by simp)]; simp)

@[simp] theorem firm_heldWrite (s : State) : (State.heldWrite s).firm = s.firm := by
  exact firm_of_lasting (lasts_heldWrite s)

@[simp] theorem firm_aptAsk (s : State) (id : Nat) (x : Apt) (ps : List (Nat × Nat)) : (State.aptAsk s id x ps).firm = s.firm := by
  exact firm_of_lasting (lasts_aptAsk s id x ps)

@[simp] theorem firm_aptRead (fn off len htag : Nat) (s : State) : (State.aptRead fn off len htag s).firm = s.firm := by
  simp only [State.aptRead]
  (repeat' split) <;> simp

@[simp] theorem firm_aptReadDone (s : State) (id : Nat) (r : AptRead) : (State.aptReadDone s id r).firm = s.firm := by
  simp only [State.aptReadDone]; (repeat' split) <;> first | rfl | (simp [apply_ite State.firm, firm_foldl]; done) | (simp_all [apply_ite State.firm, firm_foldl]; done)

@[simp] theorem firm_unmapped (fn off len : Nat) (isRead : Bool) (s : State) : (State.unmapped fn off len isRead s).firm = s.firm := by
  simp only [State.unmapped]; (repeat' split) <;> first | rfl | (simp [apply_ite State.firm, firm_foldl]; done) | (simp_all [apply_ite State.firm, firm_foldl]; done)

@[simp] theorem firm_xltFault (s : State) (fn kind obj addr : Nat) (write : Bool) (cause : Nat) : (State.xltFault s fn kind obj addr write cause).firm = s.firm := by
  exact firm_of_lasting (lasts_xltFault s fn kind obj addr write cause)

@[simp] theorem firm_spillFault (s : State) (q addr : Nat) (write : Bool) (cause : Nat) : (State.spillFault s q addr write cause).firm = s.firm := by
  exact firm_of_lasting (lasts_spillFault s q addr write cause)

@[simp] theorem firm_readFault (s : State) (w : Wait) (cause : Nat) : (State.readFault s w cause).firm = s.firm := by
  exact firm_of_lasting (lasts_readFault s w cause)

@[simp] theorem firm_holdAgain (s : State) (i : HItem) (e : Event) (final : Bool) : (State.holdAgain s i e final).firm = s.firm := by
  exact firm_of_lasting (lasts_holdAgain s i e final)

@[simp] theorem firm_eventFault (s : State) (i : HItem) (e : Event) (final : Bool) : (State.eventFault s i e final).firm = s.firm := by
  exact firm_of_lasting (lasts_eventFault s i e final)

@[simp] theorem firm_writeFault (s : State) (i : HItem) (role : WrRole) (addr obj : Nat) (sqi : Option W16) (cause : Nat) : (State.writeFault s i role addr obj sqi cause).firm = s.firm := by
  exact firm_of_lasting (lasts_writeFault s i role addr obj sqi cause)

@[simp] theorem firm_unitFault (s : State) (n : Nat) (u : XUnit) (addr cause : Nat) : (State.unitFault s n u addr cause).firm = s.firm := by
  exact firm_of_lasting (lasts_unitFault s n u addr cause)

@[simp] theorem firm_issueRead (s : State) (w : Wait) (addr : Nat) (translated : Bool) : (State.issueRead s w addr translated).firm = s.firm := by
  exact firm_of_lasting (lasts_issueRead s w addr translated)

@[simp] theorem firm_unwait (s : State) (w : Wait) : (State.unwait s w).firm = s.firm := by
  exact firm_of_lasting (lasts_unwait s w)

@[simp] theorem firm_waitMiss (s : State) (w : Wait) (len : Nat) (write : Bool) : (State.waitMiss s w len write).firm = s.firm := by
  exact firm_of_lasting (lasts_waitMiss s w len write)

@[simp] theorem firm_writePermit (s : State) (w : Wait) : (State.writePermit s w).firm = s.firm := by
  exact firm_of_lasting (lasts_writePermit s w)

@[simp] theorem firm_emitWrite (s : State) (fn addr : Nat) (data : Bytes) (a : WrAttr) (role : WrRole) : (State.emitWrite s fn addr data a role).firm = s.firm := by
  exact firm_of_lasting (lasts_emitWrite s fn addr data a role)

@[simp] theorem firm_eventOut (s : State) (fn : Nat) (e : Event) (addr : Nat) (translated : Bool) : (State.eventOut s fn e addr translated).firm = s.firm := by
  exact firm_of_lasting (lasts_eventOut s fn e addr translated)

@[simp] theorem firm_itemMiss (s : State) (i : HItem) (addr len : Nat) : (State.itemMiss s i addr len).firm = s.firm := by
  exact firm_of_lasting (lasts_itemMiss s i addr len)

@[simp] theorem firm_unitMiss (s : State) (n : Nat) (u : XUnit) (lacking : List (Nat × Bytes)) : (State.unitMiss s n u lacking).firm = s.firm := by
  exact firm_of_lasting (lasts_unitMiss s n u lacking)

@[simp] theorem firm_unitWrite (u : XUnit) (s : State) (t : Nat × Bytes) : (State.unitWrite u s t).firm = s.firm := by
  exact firm_of_lasting (lasts_unitWrite u s t)

@[simp] theorem firm_emitHost (s : State) (n : Nat) (u : XUnit) : (State.emitHost s n u).firm = s.firm := by
  exact firm_of_lasting (lasts_emitHost s n u)

@[simp] theorem firm_pumpUnits (s : State) : (State.pumpUnits s).firm = s.firm := by
  exact firm_of_lasting (lasts_pumpUnits s)

@[simp] theorem firm_pump (s : State) : (State.pump s).firm = s.firm := by
  exact firm_of_lasting (lasts_pump s)

@[simp] theorem firm_resumeFn (s : State) (fn : Nat) : (State.resumeFn s fn).firm = s.firm := by
  simp only [State.resumeFn]; (repeat' split) <;> first | rfl | (simp [apply_ite State.firm, firm_foldl]; done) | (simp_all [apply_ite State.firm, firm_foldl]; done)

@[simp] theorem firm_recoverFn (s : State) (fn : Nat) : (State.recoverFn s fn).firm = s.firm := by
  exact firm_of_lasting (lasts_recoverFn s fn)

@[simp] theorem firm_recoverFns (s : State) : (State.recoverFns s).firm = s.firm := by
  exact firm_of_lasting (lasts_recoverFns s)

@[simp] theorem firm_holdFn (s : State) (fn : Nat) : (State.holdFn s fn).firm = s.firm := by
  exact firm_of_lasting (lasts_holdFn s fn)

@[simp] theorem firm_trainSend (s : State) (sl : Sleeve) (locked : Byte) (ready retrain : Bool) : (State.trainSend s sl locked ready retrain).firm = s.firm := by
  simp only [State.trainSend]; (repeat' split) <;> first | rfl | (simp [apply_ite State.firm, firm_foldl]; done) | (simp_all [apply_ite State.firm, firm_foldl]; done)

@[simp] theorem firm_checkNode (s : State) : (State.checkNode s).firm = s.firm := by
  exact firm_of_lasting (lasts_checkNode s)

@[simp] theorem firm_wear (s : State) (f : DayWear → DayWear) : (State.wear s f).firm = s.firm := by
  simp only [State.wear]; (repeat' split) <;> first | rfl | (simp [apply_ite State.firm, firm_foldl]; done) | (simp_all [apply_ite State.firm, firm_foldl]; done)

@[simp] theorem firm_slvCount (s : State) (sl : Sleeve) (item : Nat) (f : Slv → Slv) : (State.slvCount s sl item f).firm = s.firm := by
  exact firm_of_lasting (lasts_slvCount s sl item f)

@[simp] theorem firm_slvDown (s : State) (sl : Sleeve) (reason : Option Nat) : (State.slvDown s sl reason).firm = s.firm := by
  exact firm_of_lasting (lasts_slvDown s sl reason)

@[simp] theorem firm_slvRetrain (s : State) (sl : Sleeve) : (State.slvRetrain s sl).firm = s.firm := by
  simp only [State.slvRetrain]; (repeat' split) <;> first | rfl | (simp [apply_ite State.firm, firm_foldl]; done) | (simp_all [apply_ite State.firm, firm_foldl]; done)

@[simp] theorem firm_slvRetire (s : State) (sl : Sleeve) (lane : Nat) : (State.slvRetire s sl lane).firm = s.firm := by
  simp only [State.slvRetire]; (repeat' split) <;> first | rfl | (simp [apply_ite State.firm, firm_foldl]; done) | (simp_all [apply_ite State.firm, firm_foldl]; done)

@[simp] theorem firm_shedTo (s : State) (sl : Sleeve) (mask : Byte) : (State.shedTo s sl mask).firm = s.firm := by
  exact firm_of_lasting (lasts_shedTo s sl mask)

@[simp] theorem firm_shedWiden (s : State) (sl : Sleeve) (mask : Byte) : (State.shedWiden s sl mask).firm = s.firm := by
  exact firm_of_lasting (lasts_shedWiden s sl mask)

@[simp] theorem firm_shedReceive (s : State) (sl : Sleeve) (n : Nat) : (State.shedReceive s sl n).firm = s.firm := by
  simp only [State.shedReceive]; (repeat' split) <;> first | rfl | (simp [apply_ite State.firm, firm_foldl]; done) | (simp_all [apply_ite State.firm, firm_foldl]; done)

@[simp] theorem firm_shedAnswer (s : State) (sl : Sleeve) (mask : Byte) : (State.shedAnswer s sl mask).firm = s.firm := by
  exact firm_of_lasting (lasts_shedAnswer s sl mask)

@[simp] theorem firm_shedWaiting (s : State) (sl : Sleeve) : (State.shedWaiting s sl).firm = s.firm := by
  exact firm_of_lasting (lasts_shedWaiting s sl)

@[simp] theorem firm_slvStalls (s : State) (sl : Sleeve) : (State.slvStalls s sl).firm = s.firm := by
  exact firm_of_lasting (lasts_slvStalls s sl)

@[simp] theorem firm_linkRest (s : State) (sl : Sleeve) : (State.linkRest s sl).firm = s.firm := by
  exact firm_of_lasting (lasts_linkRest s sl)

@[simp] theorem firm_beltOut (s : State) (body payload : Bytes) : (State.beltOut s body payload).firm = s.firm := by
  exact firm_of_lasting (lasts_beltOut s body payload)

@[simp] theorem firm_beltSend (s : State) (body payload : Bytes) : (State.beltSend s body payload).firm = s.firm := by
  exact firm_of_lasting (lasts_beltSend s body payload)

@[simp] theorem firm_bypassOpen (s : State) : (State.bypassOpen s).firm = s.firm := by
  exact firm_of_lasting (lasts_bypassOpen s)

@[simp] theorem firm_bypassClose (s : State) (leave : Option Nat) : (State.bypassClose s leave).firm = s.firm := by
  exact firm_of_lasting (lasts_bypassClose s leave)

@[simp] theorem firm_announceEpoch (s : State) : (State.announceEpoch s).firm = s.firm := by
  simp only [State.announceEpoch]; (repeat' split) <;> first | rfl | (simp [apply_ite State.firm, firm_foldl]; done) | (simp_all [apply_ite State.firm, firm_foldl]; done)

@[simp] theorem firm_raiseEpoch (s : State) : (State.raiseEpoch s).firm = s.firm := by
  simp only [State.raiseEpoch]; (repeat' split) <;> first | rfl | (simp [apply_ite State.firm, firm_foldl]; done) | (simp_all [apply_ite State.firm, firm_foldl]; done)

@[simp] theorem firm_groupGone (s : State) (g : Nat) : (State.groupGone s g).firm = s.firm := by
  simp only [State.groupGone]; (repeat' split) <;> first | rfl | (simp [apply_ite State.firm, firm_foldl]; done) | (simp_all [apply_ite State.firm, firm_foldl]; done)

@[simp] theorem firm_groupsGone (s : State) : (State.groupsGone s).firm = s.firm := by
  simp only [State.groupsGone]; (repeat' split) <;> first | rfl | (simp [apply_ite State.firm, firm_foldl]; done) | (simp_all [apply_ite State.firm, firm_foldl]; done)

@[simp] theorem firm_bumpView (s : State) (fn : Nat) : (State.bumpView s fn).firm = s.firm := by
  simp only [State.bumpView]; (repeat' split) <;> first | rfl | (simp [apply_ite State.firm, firm_foldl]; done) | (simp_all [apply_ite State.firm, firm_foldl]; done)

@[simp] theorem firm_setTenState (s : State) (vf : Nat) (st : TenState) : (State.setTenState s vf st).firm = s.firm := by
  simp only [State.setTenState]; (repeat' split) <;> first | rfl | (simp [apply_ite State.firm, firm_foldl]; done) | (simp_all [apply_ite State.firm, firm_foldl]; done)

@[simp] theorem firm_tdispUnlock (s : State) (vf : Nat) : (State.tdispUnlock s vf).firm = s.firm := by
  simp only [State.tdispUnlock]; (repeat' split) <;> first | rfl | (simp [apply_ite State.firm, firm_foldl]; done) | (simp_all [apply_ite State.firm, firm_foldl]; done)

@[simp] theorem firm_tdispError (s : State) (vf : Nat) : (State.tdispError s vf).firm = s.firm := by
  exact firm_of_lasting (lasts_tdispError s vf)

@[simp] theorem firm_tdispErrorAll (s : State) (c : Nat → Tenant → Bool) : (State.tdispErrorAll s c).firm = s.firm := by
  exact firm_of_lasting (lasts_tdispErrorAll s c)

@[simp] theorem firm_wipeUnit (s : State) (n : Nat) : (State.wipeUnit s n).firm = s.firm := by
  simp only [State.wipeUnit]; (repeat' split) <;> first | rfl | (simp [apply_ite State.firm, firm_foldl]; done) | (simp_all [apply_ite State.firm, firm_foldl]; done)

@[simp] theorem firm_flushInvalidations (s : State) (fn : Nat) : (State.flushInvalidations s fn).firm = s.firm := by
  simp only [State.flushInvalidations]; (repeat' split) <;> first | rfl | (simp [apply_ite State.firm, firm_foldl]; done) | (simp_all [apply_ite State.firm, firm_foldl]; done)

@[simp] theorem firm_quarantine (s : State) (fn : Nat) : (State.quarantine s fn).firm = s.firm := by
  simp only [State.quarantine]; (repeat' split) <;> first | rfl | (simp [apply_ite State.firm, firm_foldl]; done) | (simp_all [apply_ite State.firm, firm_foldl]; done)

@[simp] theorem firm_wipeTraffic (s : State) (n : Nat) : (s.wipeTraffic n).firm = s.firm := by
  unfold State.wipeTraffic
  extract_lets s1 s2 s3 s4 s5 s6
  have e2 : s2.firm = s.firm := by simp [s2, s1]
  have e4 : s4.firm = s.firm := by rw [← e2, ← firm_wipeQps s2]; exact firm_foldl (fun s n => firm_wipeUnit s n) _ _
  simp [s6, s5, e4]

@[simp] theorem firm_wipeAlive (s : State) (fn : Nat) : (State.wipeAlive s fn).firm = s.firm := by
  simp only [State.wipeAlive]; (repeat' split) <;> first | rfl | (simp [apply_ite State.firm, firm_foldl]; done) | (simp_all [apply_ite State.firm, firm_foldl]; done)

@[simp] theorem firm_rotateKey (s : State) (fn : Nat) : (State.rotateKey s fn).firm = s.firm := by
  simp only [State.rotateKey]; (repeat' split) <;> first | rfl | (simp [apply_ite State.firm, firm_foldl]; done) | (simp_all [apply_ite State.firm, firm_foldl]; done)

@[simp] theorem firm_flrBegin (s : State) (n : Nat) : (s.flrBegin n).firm = s.firm := by
  unfold State.flrBegin
  extract_lets s1 s2 s3 vf s4
  have e : s3.firm = s.firm := by simp [s3, s2, s1]
  (repeat' split) <;> simp [s4, e]

@[simp] theorem firm_floorsFree (s : State) : (State.floorsFree s).firm = s.firm := by
  simp only [State.floorsFree]; (repeat' split) <;> first | rfl | (simp [apply_ite State.firm, firm_foldl]; done) | (simp_all [apply_ite State.firm, firm_foldl]; done)

@[simp] theorem firm_msixReset (s : State) (fn : Nat) : (State.msixReset s fn).firm = s.firm := by
  simp only [State.msixReset]; (repeat' split) <;> first | rfl | (simp [apply_ite State.firm, firm_foldl]; done) | (simp_all [apply_ite State.firm, firm_foldl]; done)

@[simp] theorem firm_tenantGone (s : State) (vf : Nat) : (State.tenantGone s vf).firm = s.firm := by
  simp only [State.tenantGone]; (repeat' split) <;> first | rfl | (simp [apply_ite State.firm, firm_foldl]; done) | (simp_all [apply_ite State.firm, firm_foldl]; done)

@[simp] theorem firm_flrEnd (s : State) (fn : Nat) : (State.flrEnd s fn).firm = s.firm := by
  simp only [State.flrEnd]; (repeat' split) <;> first | rfl | (simp [apply_ite State.firm, firm_foldl]; done) | (simp_all [apply_ite State.firm, firm_foldl]; done)

@[simp] theorem firm_logUpdate (s : State) (code status : Nat) : (State.logUpdate s code status).firm = s.firm := by
  exact firm_of_lasting (lasts_logUpdate s code status)

@[simp] theorem firm_sessionLost (s : State) : (State.sessionLost s).firm = s.firm := by
  exact firm_of_lasting (lasts_sessionLost s)

@[simp] theorem firm_grantTo (s : State) (a : Arb) (n g : Nat) (cls : GrantClass) (p : Nat) : (State.grantTo s a n g cls p).firm = s.firm := by
  exact firm_of_lasting (lasts_grantTo s a n g cls p)

@[simp] theorem firm_grantOne (s : State) (a : Arb) : (State.grantOne s a).firm = s.firm := by
  simp only [State.grantOne]; (repeat' split) <;> first | rfl | (simp [apply_ite State.firm, firm_foldl]; done) | (simp_all [apply_ite State.firm, firm_foldl]; done)

@[simp] theorem firm_pleatTrigger (s : State) (a : Arb) : (State.pleatTrigger s a).firm = s.firm := by
  exact firm_of_lasting (lasts_pleatTrigger s a)

@[simp] theorem firm_arrivalTriggers (s : State) : (State.arrivalTriggers s).firm = s.firm :=
  firm_of_lasting (lasts_arrivalTriggers s)

@[simp] theorem firm_yieldAt (s : State) (a : Arb) : (State.yieldAt s a).firm = s.firm := by
  exact firm_of_lasting (lasts_yieldAt s a)

@[simp] theorem firm_yieldGrants (s : State) : (State.yieldGrants s).firm = s.firm := by
  exact firm_of_lasting (lasts_yieldGrants s)

@[simp] theorem firm_logWrite (s : State) (r : LogRec) : (State.logWrite s r).firm = s.firm := by
  unfold State.logWrite; exact firm_mk ..

@[simp] theorem firm_logWriteNext (s : State) : (State.logWriteNext s).firm = s.firm := by
  unfold State.logWriteNext
  split
  · exact Eq.refl _
  · dsimp only
    split
    · exact (firm_logWrite ..).trans (firm_mk ..)
    · exact (firm_log ..).trans ((firm_mk ..).trans ((firm_logWrite ..).trans (firm_mk ..)))

@[simp] theorem firm_logFlush (s : State) : (State.logFlush s).firm = s.firm := by
  unfold State.logFlush
  have e : ∀ t : State, (t.lin.logQueue.foldl State.logWrite { t with lin := { t.lin with logQueue := [] } }).firm = t.firm :=
    fun t => (firm_foldl (fun s r => firm_logWrite s r) _ _).trans rfl
  dsimp only
  split
  · exact e s
  · rw [firm_logWriteNext, firm_log]; exact e s

@[simp] theorem firm_zeroPf0 (s : State) : (State.zeroPf0 s).firm = s.firm := by
  simp only [State.zeroPf0]; (repeat' split) <;> first | rfl | (simp [apply_ite State.firm, firm_foldl]; done) | (simp_all [apply_ite State.firm, firm_foldl]; done)

@[simp] theorem firm_abortProvisioning (s : State) : (State.abortProvisioning s).firm = s.firm := by
  simp only [State.abortProvisioning]; (repeat' split) <;> first | rfl | (simp [apply_ite State.firm, firm_foldl]; done) | (simp_all [apply_ite State.firm, firm_foldl]; done)

@[simp] theorem firm_destroyAll (s : State) (rotate : Bool) : (State.destroyAll s rotate).firm = s.firm := by
  unfold State.destroyAll
  extract_lets vfs s1 s2
  have e1 : s1.firm = s.firm := by
    refine firm_foldl (fun s v => ?_) _ _
    rw [firm_modTenant, firm_flrBegin]
    split <;> simp
  rw [firm_floorsFree]
  exact (firm_mk ..).trans ((firm_groupsGone s1).trans e1)

@[simp] theorem firm_spillWithdraw (s : State) : (State.spillWithdraw s).firm = s.firm := by
  simp only [State.spillWithdraw]; (repeat' split) <;> first | rfl | (simp [apply_ite State.firm, firm_foldl]; done) | (simp_all [apply_ite State.firm, firm_foldl]; done)

@[simp] theorem firm_pf0Reset (s : State) : (State.pf0Reset s).firm = s.firm := by
  simp only [State.pf0Reset]; (repeat' split) <;> first | rfl | (simp [apply_ite State.firm, firm_foldl]; done) | (simp_all [apply_ite State.firm, firm_foldl]; done)

@[simp] theorem firm_flrPf0 (s : State) : (State.flrPf0 s).firm = s.firm := by
  unfold State.flrPf0
  rw [firm_pf0Reset, firm_destroyAll, firm_flrBegin, firm_rotateKey]

@[simp] theorem firm_bhReset (s : State) : (State.bhReset s).firm = s.firm := by
  exact firm_of_lasting (lasts_bhReset s)

@[simp] theorem firm_hotReset (s : State) (cause : Byte) : (State.hotReset s cause).firm = s.firm := by
  unfold State.hotReset
  rw [firm_raiseEpoch, firm_bhReset, firm_pf0Reset, firm_destroyAll, firm_flrBegin, firm_flrBegin]
  rfl

@[simp] theorem firm_slvPerst (s : State) (sl : Sleeve) (say : Bool) : (State.slvPerst s sl say).firm = s.firm := by
  simp only [State.slvPerst]; (repeat' split) <;> first | rfl | (simp [apply_ite State.firm, firm_foldl]; done) | (simp_all [apply_ite State.firm, firm_foldl]; done)

theorem firm_wiped (s : State) : s.wiped.firm = { s.firm with react := [] } := rfl

@[simp] theorem firm_sayLeave (s : State) (reason : Nat) : (State.sayLeave s reason).firm = s.firm := by
  simp only [State.sayLeave]; (repeat' split) <;> first | rfl | (simp [apply_ite State.firm, firm_foldl]; done) | (simp_all [apply_ite State.firm, firm_foldl]; done)

@[simp] theorem firm_sayDown (s : State) : (State.sayDown s).firm = s.firm := by
  simp only [State.sayDown]; (repeat' split) <;> first | rfl | (simp [apply_ite State.firm, firm_foldl]; done) | (simp_all [apply_ite State.firm, firm_foldl]; done)

@[simp] theorem firm_startRom (s : State) (bootSel : Bool) : (State.startRom s bootSel).firm = s.firm := by
  simp only [State.startRom]; (repeat' split) <;> first | rfl | (simp [apply_ite State.firm, firm_foldl]; done) | (simp_all [apply_ite State.firm, firm_foldl]; done)

@[simp] theorem firm_wake (s : State) (d : Domain) : (State.wake s d).firm = s.firm := by
  exact firm_of_lasting (lasts_wake s d)

@[simp] theorem firm_floorsWake (s : State) : (State.floorsWake s).firm = s.firm := by
  exact firm_of_lasting (lasts_floorsWake s)

@[simp] theorem firm_takeRecord (s : State) : (State.takeRecord s).firm = s.firm := by
  simp only [State.takeRecord]; (repeat' split) <;> first | rfl | (simp [apply_ite State.firm, firm_foldl]; done) | (simp_all [apply_ite State.firm, firm_foldl]; done)

@[simp] theorem firm_spillCharge (s : State) (fn : Nat) : (State.spillCharge s fn).firm = s.firm := by
  simp only [State.spillCharge]; (repeat' split) <;> first | rfl | (simp [apply_ite State.firm, firm_foldl]; done) | (simp_all [apply_ite State.firm, firm_foldl]; done)

@[simp] theorem firm_spillWrite (s : State) (q r : Nat) : (State.spillWrite s q r).firm = s.firm := by
  simp only [State.spillWrite]; (repeat' split) <;> first | rfl | (simp [apply_ite State.firm, firm_foldl]; done) | (simp_all [apply_ite State.firm, firm_foldl]; done)

@[simp] theorem firm_spillRead (s : State) (q r : Nat) : (State.spillRead s q r).firm = s.firm := by
  simp only [State.spillRead]; (repeat' split) <;> first | rfl | (simp [apply_ite State.firm, firm_foldl]; done) | (simp_all [apply_ite State.firm, firm_foldl]; done)

@[simp] theorem firm_spillForget (s : State) (q : Nat) : (State.spillForget s q).firm = s.firm := by
  exact firm_of_lasting (lasts_spillForget s q)

@[simp] theorem firm_dropMove (s : State) (q : Nat) : (State.dropMove s q).firm = s.firm := by
  exact firm_of_lasting (lasts_dropMove s q)

@[simp] theorem firm_endDemotions (s : State) : (State.endDemotions s).firm = s.firm := by
  exact firm_of_lasting (lasts_endDemotions s)

@[simp] theorem firm_promoted (s : State) (q : Nat) : (State.promoted s q).firm = s.firm := by
  simp only [State.promoted]; (repeat' split) <;> first | rfl | (simp [apply_ite State.firm, firm_foldl]; done) | (simp_all [apply_ite State.firm, firm_foldl]; done)

@[simp] theorem firm_promoteNow (s : State) (q : Nat) : (State.promoteNow s q).firm = s.firm := by
  simp only [State.promoteNow]; (repeat' split) <;> first | rfl | (simp [apply_ite State.firm, firm_foldl]; done) | (simp_all [apply_ite State.firm, firm_foldl]; done)

@[simp] theorem firm_demoted (s : State) (q : Nat) : (State.demoted s q).firm = s.firm := by
  simp only [State.demoted]; (repeat' split) <;> first | rfl | (simp [apply_ite State.firm, firm_foldl]; done) | (simp_all [apply_ite State.firm, firm_foldl]; done)

@[simp] theorem firm_demoteNow (s : State) (q : Nat) : (State.demoteNow s q).firm = s.firm := by
  simp only [State.demoteNow]; (repeat' split) <;> first | rfl | (simp [apply_ite State.firm, firm_foldl]; done) | (simp_all [apply_ite State.firm, firm_foldl]; done)

@[simp] theorem firm_stitchApply (s : State) (n : Nat) (e : Stitch) (raw : Int) : (State.stitchApply s n e raw).firm = s.firm := by
  exact firm_of_lasting (lasts_stitchApply s n e raw)

@[simp] theorem firm_stitchField (s : State) (n : Nat) (e : Stitch) (len body : Nat) : (State.stitchField s n e len body).firm = s.firm := by
  exact firm_of_lasting (lasts_stitchField s n e len body)

@[simp] theorem firm_stitchFrame (s : State) (node : Nat) (frame : Bytes) : (State.stitchFrame s node frame).firm = s.firm := by
  unfold State.stitchFrame
  extract_lets id len body s1 hits
  split
  · rfl
  · refine (firm_foldl (fun s p => ?_) _ _).trans rfl
    split <;> simp

@[simp] theorem firm_frameIn (s : State) (node : Nat) (frame : Bytes) : (State.frameIn s node frame).firm = s.firm := by
  simp only [State.frameIn]; (repeat' split) <;> first | rfl | (simp [apply_ite State.firm, firm_foldl]; done) | (simp_all [apply_ite State.firm, firm_foldl]; done)

@[simp] theorem firm_unpackFrames (s : State) : (State.unpackFrames s).firm = s.firm := by
  exact firm_of_lasting (lasts_unpackFrames s)

@[simp] theorem firm_frameDue (s : State) (e : Stitch) : (State.frameDue s e).firm = s.firm := by
  simp only [State.frameDue]; (repeat' split) <;> first | rfl | (simp [apply_ite State.firm, firm_foldl]; done) | (simp_all [apply_ite State.firm, firm_foldl]; done)

@[simp] theorem firm_framesOut (s : State) : (State.framesOut s).firm = s.firm := by
  exact firm_of_lasting (lasts_framesOut s)

@[simp] theorem firm_reloadStart (s : State) : (State.reloadStart s).firm = s.firm := by
  exact firm_of_lasting (lasts_reloadStart s)

@[simp] theorem firm_blockReset (s : State) (b : Block) : (State.blockReset s b).firm = s.firm := by
  exact firm_of_lasting (lasts_blockReset s b)

@[simp] theorem firm_faultRecord (s : State) (n : Nat) (r : FaultRec) : (State.faultRecord s n r).firm = s.firm := by
  exact firm_of_lasting (lasts_faultRecord s n r)

@[simp] theorem firm_errDrive (s : State) : (State.errDrive s).firm = s.firm := by
  exact firm_of_lasting (lasts_errDrive s)

@[simp] theorem firm_faultEvent (s : State) (n : Nat) : (State.faultEvent s n).firm = s.firm := by
  exact firm_of_lasting (lasts_faultEvent s n)

@[simp] theorem firm_trapLog (s : State) (n : Nat) : (State.trapLog s n).firm = s.firm := by
  exact firm_of_lasting (lasts_trapLog s n)

@[simp] theorem firm_trapDeliver (s : State) : (State.trapDeliver s).firm = s.firm := by
  exact firm_of_lasting (lasts_trapDeliver s)

@[simp] theorem firm_trapRaise (s : State) (n : Nat) : (State.trapRaise s n).firm = s.firm := by
  exact firm_of_lasting (lasts_trapRaise s n)

@[simp] theorem firm_safeAer (s : State) : (State.safeAer s).firm = s.firm := by
  exact firm_of_lasting (lasts_safeAer s)

@[simp] theorem firm_safeHalt (s : State) : (State.safeHalt s).firm = s.firm := by
  exact firm_of_lasting (lasts_safeHalt s)

@[simp] theorem firm_safeFray (s : State) (sl : Sleeve) : (State.safeFray s sl).firm = s.firm := by
  exact firm_of_lasting (lasts_safeFray s sl)

@[simp] theorem firm_freeze (s : State) : (State.freeze s).firm = s.firm := by
  exact firm_of_lasting (lasts_freeze s)

@[simp] theorem firm_safeEnter (s : State) (n : Nat) : (State.safeEnter s n).firm = s.firm := by
  exact firm_of_lasting (lasts_safeEnter s n)

@[simp] theorem firm_assertOne (s : State) (x : Nat × FaultRec) : (State.assertOne s x).firm = s.firm := by
  exact firm_of_lasting (lasts_assertOne s x)

@[simp] theorem firm_takeBlockReset (s : State) (b : Block) : (State.takeBlockReset s b).firm = s.firm := by
  exact firm_of_lasting (lasts_takeBlockReset s b)

@[simp] theorem firm_takeActions (s : State) (l : List (Nat × FaultRec)) : (State.takeActions s l).firm = s.firm := by
  exact firm_of_lasting (lasts_takeActions s l)

@[simp] theorem firm_collect (s : State) : (State.collect s).firm = s.firm := by
  exact firm_of_lasting (lasts_collect s)

@[simp] theorem firm_bhInterrupt (s : State) : (State.bhInterrupt s).firm = s.firm := by
  exact firm_of_lasting (lasts_bhInterrupt s)

@[simp] theorem firm_modeNote (was s : State) : (State.modeNote was s).firm = s.firm := by
  exact firm_of_lasting (lasts_modeNote was s)

@[simp] theorem firm_settle (was s : State) : (settle was s).firm = s.firm := firm_of_lasting (lasts_settle was s)
/-- What a command's own effect keeps, the command keeps. -/
@[simp] theorem firm_effect (f : State → State) (s : State) : (effect f s).firm = (f s).firm := firm_of_lasting (lasts_after s (f s))

@[simp] theorem firm_refusal (s : State) (d : Domain) (target : PwrState) (c : Nat) : (State.refusal s d target c).firm = s.firm := by
  simp only [State.refusal]; (repeat' split) <;> first | rfl | (simp [apply_ite State.firm, firm_foldl]; done) | (simp_all [apply_ite State.firm, firm_foldl]; done)

@[simp] theorem firm_attempt (d : Domain) (target : PwrState) (s : State) : (State.attempt d target s).firm = s.firm := by
  simp only [State.attempt]; (repeat' split) <;> first | rfl | (simp [apply_ite State.firm, firm_foldl]; done) | (simp_all [apply_ite State.firm, firm_foldl]; done)

@[simp] theorem firm_deepDrop (s : State) (d : Domain) : (State.deepDrop s d).firm = s.firm := by
  simp only [State.deepDrop]; (repeat' split) <;> first | rfl | (simp [apply_ite State.firm, firm_foldl]; done) | (simp_all [apply_ite State.firm, firm_foldl]; done)

@[simp] theorem firm_entryDone (d : Domain) (s : State) : (State.entryDone d s).firm = s.firm := by
  simp only [State.entryDone]; (repeat' split) <;> first | rfl | (simp [apply_ite State.firm, firm_foldl]; done) | (simp_all [apply_ite State.firm, firm_foldl]; done)

@[simp] theorem firm_wakeSource (s : State) (code : Nat) : (State.wakeSource s code).firm = s.firm := by
  simp only [State.wakeSource]; (repeat' split) <;> first | rfl | (simp [apply_ite State.firm, firm_foldl]; done) | (simp_all [apply_ite State.firm, firm_foldl]; done)

@[simp] theorem firm_relock (s : State) (d : Domain) : (State.relock s d).firm = s.firm := by
  simp only [State.relock]; (repeat' split) <;> first | rfl | (simp [apply_ite State.firm, firm_foldl]; done) | (simp_all [apply_ite State.firm, firm_foldl]; done)

@[simp] theorem firm_wakeDone (d : Domain) (s : State) : (State.wakeDone d s).firm = s.firm := by
  simp only [State.wakeDone]; (repeat' split) <;> first | rfl | (simp [apply_ite State.firm, firm_foldl]; done) | (simp_all [apply_ite State.firm, firm_foldl]; done)

@[simp] theorem firm_hostWake (s : State) : (State.hostWake s).firm = s.firm := by
  unfold State.hostWake
  exact firm_foldl (fun s d => by split <;> simp) _ _

@[simp] theorem firm_pmeEvent (s : State) (source : Nat) : (State.pmeEvent s source).firm = s.firm := by
  simp only [State.pmeEvent]; (repeat' split) <;> first | rfl | (simp [apply_ite State.firm, firm_foldl]; done) | (simp_all [apply_ite State.firm, firm_foldl]; done)

@[simp] theorem firm_offWake (s : State) (source : Nat) : (State.offWake s source).firm = s.firm := by
  simp only [State.offWake]; (repeat' split) <;> first | rfl | (simp [apply_ite State.firm, firm_foldl]; done) | (simp_all [apply_ite State.firm, firm_foldl]; done)

@[simp] theorem firm_planDone (s : State) : (State.planDone s).firm = s.firm := by
  simp only [State.planDone]; (repeat' split) <;> first | rfl | (simp [apply_ite State.firm, firm_foldl]; done) | (simp_all [apply_ite State.firm, firm_foldl]; done)

@[simp] theorem firm_planDrop (s : State) : (State.planDrop s).firm = s.firm := by
  simp only [State.planDrop]; (repeat' split) <;> first | rfl | (simp [apply_ite State.firm, firm_foldl]; done) | (simp_all [apply_ite State.firm, firm_foldl]; done)

@[simp] theorem firm_accessWake (d : Domain) (s : State) : (State.accessWake d s).firm = s.firm := by
  simp only [State.accessWake]; (repeat' split) <;> first | rfl | (simp [apply_ite State.firm, firm_foldl]; done) | (simp_all [apply_ite State.firm, firm_foldl]; done)

@[simp] theorem firm_clearHistory (s : State) : (State.clearHistory s).firm = s.firm := by
  simp only [State.clearHistory]; (repeat' split) <;> first | rfl | (simp [apply_ite State.firm, firm_foldl]; done) | (simp_all [apply_ite State.firm, firm_foldl]; done)

theorem firm_powerOn (s : State) (a : BitVec 2) (m : Mode) :
    (s.powerOn a m).firm = ⟨[], s.firm.fuses, 0⟩ := rfl

@[simp] theorem firm_plls (s : State) : (State.plls s).firm = s.firm := by
  simp only [State.plls]; (repeat' split) <;> first | rfl | (simp [apply_ite State.firm, firm_foldl]; done) | (simp_all [apply_ite State.firm, firm_foldl]; done)

@[simp] theorem firm_vddUp (bootSel : Bool) (s : State) : (State.vddUp bootSel s).firm = s.firm := by
  simp only [State.vddUp]; (repeat' split) <;> first | rfl | (simp [apply_ite State.firm, firm_foldl]; done) | (simp_all [apply_ite State.firm, firm_foldl]; done)

@[simp] theorem fuses_setSlot (b : Boot) (x : Slot) (i : SlotInfo) : (b.setSlot x i).fuses = b.fuses := by cases x <;> rfl
@[simp] theorem firm_noteSlot (s : State) (x : Slot) (f : Found) (ok : Bool) : (State.noteSlot s x f ok).firm = s.firm := by
  simp [State.noteSlot]

@[simp] theorem firm_rejectSlot (s : State) (x : Slot) (f : Found) : (State.rejectSlot s x f).firm = s.firm := by
  simp only [State.rejectSlot]; (repeat' split) <;> first | rfl | (simp [apply_ite State.firm, firm_foldl]; done) | (simp_all [apply_ite State.firm, firm_foldl]; done)

@[simp] theorem firm_logBoot (s : State) : (State.logBoot s).firm = s.firm := by
  simp only [State.logBoot]; (repeat' split) <;> first | rfl | (simp [apply_ite State.firm, firm_foldl]; done) | (simp_all [apply_ite State.firm, firm_foldl]; done)

@[simp] theorem firm_derive (s : State) (pick : Option Slot) : (State.derive s pick).firm = s.firm := by
  simp only [State.derive]; (repeat' split) <;> first | rfl | (simp [apply_ite State.firm, firm_foldl]; done) | (simp_all [apply_ite State.firm, firm_foldl]; done)

@[simp] theorem firm_romDone (a b : Found) (r : RecoveryFound) (s : State) : (State.romDone a b r s).firm = s.firm := by
  simp only [State.romDone]; (repeat' split) <;> first | rfl | (simp [apply_ite State.firm, firm_foldl]; done) | (simp_all [apply_ite State.firm, firm_foldl]; done)

@[simp] theorem firm_rewriteRecord (s : State) : (State.rewriteRecord s).firm = s.firm := by
  simp only [State.rewriteRecord]; (repeat' split) <;> first | rfl | (simp [apply_ite State.firm, firm_foldl]; done) | (simp_all [apply_ite State.firm, firm_foldl]; done)

@[simp] theorem firm_slvArm (s : State) (sl : Sleeve) : (State.slvArm s sl).firm = s.firm := by
  simp only [State.slvArm]; (repeat' split) <;> first | rfl | (simp [apply_ite State.firm, firm_foldl]; done) | (simp_all [apply_ite State.firm, firm_foldl]; done)

@[simp] theorem firm_perstUp (ftestN : Bool) (s : State) : (State.perstUp ftestN s).firm = s.firm := by
  simp only [State.perstUp]; (repeat' split) <;> first | rfl | (simp [apply_ite State.firm, firm_foldl]; done) | (simp_all [apply_ite State.firm, firm_foldl]; done)

@[simp] theorem firm_jalidLoaded (s : State) : (State.jalidLoaded s).firm = s.firm := by
  simp only [State.jalidLoaded]; (repeat' split) <;> first | rfl | (simp [apply_ite State.firm, firm_foldl]; done) | (simp_all [apply_ite State.firm, firm_foldl]; done)

@[simp] theorem firm_configReady (s : State) : (State.configReady s).firm = s.firm := by
  simp only [State.configReady]; (repeat' split) <;> first | rfl | (simp [apply_ite State.firm, firm_foldl]; done) | (simp_all [apply_ite State.firm, firm_foldl]; done)

@[simp] theorem firm_sectionsDone (ok : Bool) (s : State) : (State.sectionsDone ok s).firm = s.firm := by
  simp only [State.sectionsDone]; (repeat' split) <;> first | rfl | (simp [apply_ite State.firm, firm_foldl]; done) | (simp_all [apply_ite State.firm, firm_foldl]; done)

@[simp] theorem firm_linkLost (s : State) : (State.linkLost s).firm = s.firm := by
  simp only [State.linkLost]; (repeat' split) <;> first | rfl | (simp [apply_ite State.firm, firm_foldl]; done) | (simp_all [apply_ite State.firm, firm_foldl]; done)

@[simp] theorem firm_hostReset (down : Bool) (s : State) : (State.hostReset down s).firm = s.firm := by
  unfold State.hostReset
  split
  · rfl
  · split
    · simp only [firm_linkLost]
    · extract_lets s1
      have e : s1.firm = s.firm := by simp only [s1, firm_hotReset, firm_linkLost]
      split
      · exact (firm_raise ..).trans e
      · exact e

@[simp] theorem firm_srefLost (s : State) : (State.srefLost s).firm = s.firm := by
  simp only [State.srefLost]; (repeat' split) <;> first | rfl | (simp [apply_ite State.firm, firm_foldl]; done) | (simp_all [apply_ite State.firm, firm_foldl]; done)

@[simp] theorem firm_pllLost (pll : Nat) (s : State) : (State.pllLost pll s).firm = s.firm := by
  simp only [State.pllLost]; (repeat' split) <;> first | rfl | (simp [apply_ite State.firm, firm_foldl]; done) | (simp_all [apply_ite State.firm, firm_foldl]; done)

@[simp] theorem firm_hostFreed (s : State) : (State.hostFreed s).firm = s.firm := by
  simp only [State.hostFreed]; (repeat' split) <;> first | rfl | (simp [apply_ite State.firm, firm_foldl]; done) | (simp_all [apply_ite State.firm, firm_foldl]; done)

@[simp] theorem firm_equalize (s : State) (e : Equalized) : (State.equalize s e).firm = s.firm := by
  simp only [State.equalize]; (repeat' split) <;> first | rfl | (simp [apply_ite State.firm, firm_foldl]; done) | (simp_all [apply_ite State.firm, firm_foldl]; done)

@[simp] theorem firm_advertise (s : State) : (State.advertise s).firm = s.firm := by
  simp only [State.advertise]; (repeat' split) <;> first | rfl | (simp [apply_ite State.firm, firm_foldl]; done) | (simp_all [apply_ite State.firm, firm_foldl]; done)

@[simp] theorem firm_linkUp (lanes rate : Nat) (flit : Bool) (t : HostTraining) (s : State) : (State.linkUp lanes rate flit t s).firm = s.firm := by
  simp only [State.linkUp]; (repeat' split) <;> first | rfl | (simp [apply_ite State.firm, firm_foldl]; done) | (simp_all [apply_ite State.firm, firm_foldl]; done)

@[simp] theorem firm_sendLtr (s : State) (us : Nat) : (State.sendLtr s us).firm = s.firm := by
  simp only [State.sendLtr]; (repeat' split) <;> first | rfl | (simp [apply_ite State.firm, firm_foldl]; done) | (simp_all [apply_ite State.firm, firm_foldl]; done)

@[simp] theorem firm_quietWake (s : State) (sl : Sleeve) : (State.quietWake s sl).firm = s.firm := by
  simp only [State.quietWake]; (repeat' split) <;> first | rfl | (simp [apply_ite State.firm, firm_foldl]; done) | (simp_all [apply_ite State.firm, firm_foldl]; done)

@[simp] theorem firm_l1Leave (s : State) : (State.l1Leave s).firm = s.firm := by
  unfold State.l1Leave
  split
  all_goals first | rfl | skip
  all_goals
    dsimp only
    split
    · simp only [firm_quietWake, firm_wakeSource, firm_hostWake]; rfl
    · simp only [firm_wakeSource, firm_hostWake]; rfl

@[simp] theorem firm_l1Enter (sub : L1Sub) (s : State) : (State.l1Enter sub s).firm = s.firm := by
  simp only [State.l1Enter]; (repeat' split) <;> first | rfl | (simp [apply_ite State.firm, firm_foldl]; done) | (simp_all [apply_ite State.firm, firm_foldl]; done)

@[simp] theorem firm_lwake (s : State) : (State.lwake s).firm = s.firm := by
  simp only [State.lwake]; (repeat' split) <;> first | rfl | (simp [apply_ite State.firm, firm_foldl]; done) | (simp_all [apply_ite State.firm, firm_foldl]; done)

@[simp] theorem firm_addressMatch (s : State) : (State.addressMatch s).firm = s.firm := by
  simp only [State.addressMatch]; (repeat' split) <;> first | rfl | (simp [apply_ite State.firm, firm_foldl]; done) | (simp_all [apply_ite State.firm, firm_foldl]; done)

@[simp] theorem firm_regWrite (s : State) (f : State → State) (h : ∀ s, (f s).firm = s.firm) : (s.regWrite f).firm = s.firm := by
  unfold State.regWrite; split <;> simp [h]

@[simp] theorem firm_cfgView (s : State) : (State.cfgView s).firm = s.firm := by
  simp only [State.cfgView]; (repeat' split) <;> first | rfl | (simp [apply_ite State.firm, firm_foldl]; done) | (simp_all [apply_ite State.firm, firm_foldl]; done)

@[simp] theorem firm_bmeOff (fn : Nat) (s : State) : (State.bmeOff fn s).firm = s.firm := by
  simp only [State.bmeOff]; (repeat' split) <;> first | rfl | (simp [apply_ite State.firm, firm_foldl]; done) | (simp_all [apply_ite State.firm, firm_foldl]; done)

@[simp] theorem firm_bmeOn (fn : Nat) (s : State) : (State.bmeOn fn s).firm = s.firm := by
  simp only [State.bmeOn]; (repeat' split) <;> first | rfl | (simp [apply_ite State.firm, firm_foldl]; done) | (simp_all [apply_ite State.firm, firm_foldl]; done)

@[simp] theorem firm_d3In (fn : Nat) (s : State) : (State.d3In fn s).firm = s.firm := by
  simp only [State.d3In]; (repeat' split) <;> first | rfl | (simp [apply_ite State.firm, firm_foldl]; done) | (simp_all [apply_ite State.firm, firm_foldl]; done)

@[simp] theorem firm_d3Out (fn : Nat) (s : State) : (State.d3Out fn s).firm = s.firm := by
  simp only [State.d3Out]; (repeat' split) <;> first | rfl | (simp [apply_ite State.firm, firm_foldl]; done) | (simp_all [apply_ite State.firm, firm_foldl]; done)

@[simp] theorem firm_flrAny (fn : Nat) (s : State) : (State.flrAny fn s).firm = s.firm := by
  unfold State.flrAny
  repeat' split
  · rfl
  · exact firm_flrPf0 s
  · exact (firm_bhReset _).trans (firm_flrBegin ..)
  · exact (firm_flrBegin ..).trans (firm_rotateKey ..)

@[simp] theorem firm_numVfs (n : W16) (s : State) : (State.numVfs n s).firm = s.firm := by
  simp only [State.numVfs]; (repeat' split) <;> first | rfl | (simp [apply_ite State.firm, firm_foldl]; done) | (simp_all [apply_ite State.firm, firm_foldl]; done)

@[simp] theorem firm_vfOn (s : State) : (State.vfOn s).firm = s.firm := by
  simp only [State.vfOn]; (repeat' split) <;> first | rfl | (simp [apply_ite State.firm, firm_foldl]; done) | (simp_all [apply_ite State.firm, firm_foldl]; done)

@[simp] theorem firm_vfOff (s : State) : (State.vfOff s).firm = s.firm := by
  unfold State.vfOff
  split
  · exact (firm_destroyAll ..).trans (firm_abortProvisioning _)
  · rfl

@[simp] theorem firm_atsOff (fn : Nat) (s : State) : (State.atsOff fn s).firm = s.firm := by
  simp only [State.atsOff]; (repeat' split) <;> first | rfl | (simp [apply_ite State.firm, firm_foldl]; done) | (simp_all [apply_ite State.firm, firm_foldl]; done)

@[simp] theorem firm_atsUp (fn : Nat) (stu : BitVec 5) (s : State) : (State.atsUp fn stu s).firm = s.firm := by
  simp only [State.atsUp]; (repeat' split) <;> first | rfl | (simp [apply_ite State.firm, firm_foldl]; done) | (simp_all [apply_ite State.firm, firm_foldl]; done)

@[simp] theorem firm_guarded (fn : Nat) (s : State) : (State.guarded fn s).firm = s.firm := by
  simp only [State.guarded]; (repeat' split) <;> first | rfl | (simp [apply_ite State.firm, firm_foldl]; done) | (simp_all [apply_ite State.firm, firm_foldl]; done)

@[simp] theorem firm_resizeBar2 (log2 : Nat) (s : State) : (State.resizeBar2 log2 s).firm = s.firm := by
  simp only [State.resizeBar2]; (repeat' split) <;> first | rfl | (simp [apply_ite State.firm, firm_foldl]; done) | (simp_all [apply_ite State.firm, firm_foldl]; done)

@[simp] theorem firm_ideSelect (v : Byte) (s : State) : (State.ideSelect v s).firm = s.firm := by
  simp only [State.ideSelect]; (repeat' split) <;> first | rfl | (simp [apply_ite State.firm, firm_foldl]; done) | (simp_all [apply_ite State.firm, firm_foldl]; done)

@[simp] theorem firm_streamInsecure (s : State) (stream : Option Nat) : (State.streamInsecure s stream).firm = s.firm := by
  simp only [State.streamInsecure]; (repeat' split) <;> first | rfl | (simp [apply_ite State.firm, firm_foldl]; done) | (simp_all [apply_ite State.firm, firm_foldl]; done)

@[simp] theorem firm_putRaw (s : State) (fn dw : Nat) (v : W32) : (State.putRaw s fn dw v).firm = s.firm := by
  simp only [State.putRaw]; (repeat' split) <;> first | rfl | (simp [apply_ite State.firm, firm_foldl]; done) | (simp_all [apply_ite State.firm, firm_foldl]; done)

@[simp] theorem firm_writeDevCtl (s : State) (fn : Nat) (new ones : W32) : (State.writeDevCtl s fn new ones).firm = s.firm := by
  simp only [State.writeDevCtl]; (repeat' split) <;> first | rfl | (simp [apply_ite State.firm, firm_foldl]; done) | (simp_all [apply_ite State.firm, firm_foldl]; done)

@[simp] theorem firm_writeCmd (s : State) (fn : Nat) (new : W32) : (State.writeCmd s fn new).firm = s.firm := by
  simp only [State.writeCmd]; (repeat' split) <;> first | rfl | (simp [apply_ite State.firm, firm_foldl]; done) | (simp_all [apply_ite State.firm, firm_foldl]; done)

@[simp] theorem firm_writePm (s : State) (fn : Nat) (new ones : W32) : (State.writePm s fn new ones).firm = s.firm := by
  simp only [State.writePm]; (repeat' split) <;> first | rfl | (simp [apply_ite State.firm, firm_foldl]; done) | (simp_all [apply_ite State.firm, firm_foldl]; done)

@[simp] theorem firm_writeSriov (s : State) (new : W32) : (State.writeSriov s new).firm = s.firm := by
  simp only [State.writeSriov]; (repeat' split) <;> first | rfl | (simp [apply_ite State.firm, firm_foldl]; done) | (simp_all [apply_ite State.firm, firm_foldl]; done)

@[simp] theorem firm_writeDoe (s : State) (new ones : W32) : (State.writeDoe s new ones).firm = s.firm := by
  simp only [State.writeDoe]; (repeat' split) <;> first | rfl | (simp [apply_ite State.firm, firm_foldl]; done) | (simp_all [apply_ite State.firm, firm_foldl]; done)

@[simp] theorem firm_writeMailbox (s : State) (dw : Nat) (ones : W32) : (State.writeMailbox s dw ones).firm = s.firm := by
  simp only [State.writeMailbox]; (repeat' split) <;> first | rfl | (simp [apply_ite State.firm, firm_foldl]; done) | (simp_all [apply_ite State.firm, firm_foldl]; done)

@[simp] theorem firm_writePf0 (s : State) (dw : Nat) (new ones : W32) : (State.writePf0 s dw new ones).firm = s.firm := by
  simp only [State.writePf0]; (repeat' split) <;> first | rfl | (simp [apply_ite State.firm, firm_foldl]; done) | (simp_all [apply_ite State.firm, firm_foldl]; done)

@[simp] theorem firm_cfgWrite (s : State) (fn dw : Nat) (be : BitVec 4) (v : W32) : (State.cfgWrite s fn dw be v).firm = s.firm := by
  simp only [State.cfgWrite]; (repeat' split) <;> first | rfl | (simp [apply_ite State.firm, firm_foldl]; done) | (simp_all [apply_ite State.firm, firm_foldl]; done)

@[simp] theorem firm_configReq (fn off : Nat) (be : BitVec 4) (wr : Option W32) (s : State) : (State.configReq fn off be wr s).firm = s.firm := by
  simp only [State.configReq]; (repeat' split) <;> first | rfl | (simp [apply_ite State.firm, firm_foldl]; done) | (simp_all [apply_ite State.firm, firm_foldl]; done)

@[simp] theorem firm_doeAnswer (s : State) (body : Bytes) : (State.doeAnswer s body).firm = s.firm := by
  simp only [State.doeAnswer]; (repeat' split) <;> first | rfl | (simp [apply_ite State.firm, firm_foldl]; done) | (simp_all [apply_ite State.firm, firm_foldl]; done)

@[simp] theorem firm_discovery (index : Nat) (s : State) : (State.discovery index s).firm = s.firm := by
  simp only [State.discovery]; (repeat' split) <;> first | rfl | (simp [apply_ite State.firm, firm_foldl]; done) | (simp_all [apply_ite State.firm, firm_foldl]; done)

@[simp] theorem firm_bindWrite (s : State) (k : Nat) (v : W32) : (State.bindWrite s k v).firm = s.firm := by
  simp only [State.bindWrite]; (repeat' split) <;> first | rfl | (simp [apply_ite State.firm, firm_foldl]; done) | (simp_all [apply_ite State.firm, firm_foldl]; done)

@[simp] theorem firm_ideFailed (stream : Option Nat) (misrouted : Bool) (s : State) : (State.ideFailed stream misrouted s).firm = s.firm := by
  simp only [State.ideFailed]; (repeat' split) <;> first | rfl | (simp [apply_ite State.firm, firm_foldl]; done) | (simp_all [apply_ite State.firm, firm_foldl]; done)

@[simp] theorem firm_ideKeys (stream : Option Nat) (accepted : Bool) (s : State) : (State.ideKeys stream accepted s).firm = s.firm := by
  simp only [State.ideKeys]; (repeat' split) <;> first | rfl | (simp [apply_ite State.firm, firm_foldl]; done) | (simp_all [apply_ite State.firm, firm_foldl]; done)

@[simp] theorem firm_tdispAnswer (s : State) (type vf : Nat) (body : Bytes) : (State.tdispAnswer s type vf body).firm = s.firm := by
  simp only [State.tdispAnswer]; (repeat' split) <;> first | rfl | (simp [apply_ite State.firm, firm_foldl]; done) | (simp_all [apply_ite State.firm, firm_foldl]; done)

@[simp] theorem firm_tdispRefuse (s : State) (vf : Nat) : (State.tdispRefuse s vf).firm = s.firm := by
  simp only [State.tdispRefuse]; (repeat' split) <;> first | rfl | (simp [apply_ite State.firm, firm_foldl]; done) | (simp_all [apply_ite State.firm, firm_foldl]; done)

@[simp] theorem firm_tdispDo (vf : Nat) (f : State → State) (s : State) (h : ∀ s, (f s).firm = s.firm) :
    (State.tdispDo vf f s).firm = s.firm := by
  unfold State.tdispDo; (repeat' split) <;> simp [h]

@[simp] theorem firm_lock (vf : Nat) (s : State) : (State.lock vf s).firm = s.firm := by
  unfold State.lock
  split
  · simp
  · extract_lets s1 s2 s3 n
    have e : s3.firm = s.firm := by
      rw [show s3.firm = s2.firm from firm_holdFn .., show s2.firm = s1.firm from firm_modTenant ..]
      exact firm_foldl (fun s q => by simp) _ _
    rw [firm_tdispAnswer]
    exact (show n.2.firm = s3.firm from rfl).trans e

@[simp] theorem firm_startIf (vf : Nat) (s : State) : (State.startIf vf s).firm = s.firm := by
  simp only [State.startIf]; (repeat' split) <;> first | rfl | (simp [apply_ite State.firm, firm_foldl]; done) | (simp_all [apply_ite State.firm, firm_foldl]; done)

@[simp] theorem firm_stopIf (vf : Nat) (s : State) : (State.stopIf vf s).firm = s.firm := by
  simp only [State.stopIf]; (repeat' split) <;> first | rfl | (simp [apply_ite State.firm, firm_foldl]; done) | (simp_all [apply_ite State.firm, firm_foldl]; done)

@[simp] theorem firm_getReport (vf : Nat) (s : State) : (State.getReport vf s).firm = s.firm := by
  simp only [State.getReport]; (repeat' split) <;> first | rfl | (simp [apply_ite State.firm, firm_foldl]; done) | (simp_all [apply_ite State.firm, firm_foldl]; done)

@[simp] theorem firm_unserved (fn : Nat) (nonPosted : Bool) (s : State) : (State.unserved fn nonPosted s).firm = s.firm := by
  simp only [State.unserved]; (repeat' split) <;> first | rfl | (simp [apply_ite State.firm, firm_foldl]; done) | (simp_all [apply_ite State.firm, firm_foldl]; done)

@[simp] theorem firm_msixWrite (s : State) (fn vec dword : Nat) (v : W32) : (State.msixWrite s fn vec dword v).firm = s.firm := by
  simp only [State.msixWrite]; (repeat' split) <;> first | rfl | (simp [apply_ite State.firm, firm_foldl]; done) | (simp_all [apply_ite State.firm, firm_foldl]; done)

@[simp] theorem firm_freeTag (s : State) (key : Nat) : (State.freeTag s key).firm = s.firm := by
  simp only [State.freeTag]; (repeat' split) <;> first | rfl | (simp [apply_ite State.firm, firm_foldl]; done) | (simp_all [apply_ite State.firm, firm_foldl]; done)

@[simp] theorem firm_spillHostError (s : State) (q : Nat) : (State.spillHostError s q).firm = s.firm := by
  simp only [State.spillHostError]; (repeat' split) <;> first | rfl | (simp [apply_ite State.firm, firm_foldl]; done) | (simp_all [apply_ite State.firm, firm_foldl]; done)

@[simp] theorem firm_readLost (s : State) (t : Tag) (cause : Byte) : (State.readLost s t cause).firm = s.firm := by
  simp only [State.readLost]; (repeat' split) <;> first | rfl | (simp [apply_ite State.firm, firm_foldl]; done) | (simp_all [apply_ite State.firm, firm_foldl]; done)

@[simp] theorem firm_readData (s : State) (t : Tag) (data : Bytes) : (State.readData s t data).firm = s.firm := by
  simp only [State.readData]; (repeat' split) <;> first | rfl | (simp [apply_ite State.firm, firm_foldl]; done) | (simp_all [apply_ite State.firm, firm_foldl]; done)

@[simp] theorem firm_dropEntry (s : State) (fn addr len : Nat) : (State.dropEntry s fn addr len).firm = s.firm := by
  simp only [State.dropEntry]; (repeat' split) <;> first | rfl | (simp [apply_ite State.firm, firm_foldl]; done) | (simp_all [apply_ite State.firm, firm_foldl]; done)

@[simp] theorem firm_readEnds (s : State) (key : Nat) (t : Tag) (st : CplStatus) (poisoned : Bool) (data : Bytes) : (State.readEnds s key t st poisoned data).firm = s.firm := by
  simp only [State.readEnds]; (repeat' split) <;> first | rfl | (simp [apply_ite State.firm, firm_foldl]; done) | (simp_all [apply_ite State.firm, firm_foldl]; done)

@[simp] theorem firm_unexpected (s : State) (rid : Nat) : (State.unexpected s rid).firm = s.firm := by
  simp only [State.unexpected]; (repeat' split) <;> first | rfl | (simp [apply_ite State.firm, firm_foldl]; done) | (simp_all [apply_ite State.firm, firm_foldl]; done)

@[simp] theorem firm_orphan (s : State) (fn : Nat) : (State.orphan s fn).firm = s.firm := by
  simp only [State.orphan]; (repeat' split) <;> first | rfl | (simp [apply_ite State.firm, firm_foldl]; done) | (simp_all [apply_ite State.firm, firm_foldl]; done)

@[simp] theorem firm_late (s : State) (fn : Nat) : (State.late s fn).firm = s.firm := by
  simp only [State.late]; (repeat' split) <;> first | rfl | (simp [apply_ite State.firm, firm_foldl]; done) | (simp_all [apply_ite State.firm, firm_foldl]; done)

@[simp] theorem firm_completionIn (rid tag : Nat) (st : CplStatus) (poisoned : Bool) (stream : Option Nat) (data : Bytes) (s : State) : (State.completionIn rid tag st poisoned stream data s).firm = s.firm := by
  simp only [State.completionIn]; (repeat' split) <;> first | rfl | (simp [apply_ite State.firm, firm_foldl]; done) | (simp_all [apply_ite State.firm, firm_foldl]; done)

@[simp] theorem firm_faultUses (s : State) (fn base len cause : Nat) : (State.faultUses s fn base len cause).firm = s.firm := by
  unfold State.faultUses
  refine (firm_foldl (fun s i => ?_) _ _).trans ((firm_foldl (fun s u => by simp) _ _).trans
    ((firm_foldl (fun s w => by simp) _ _).trans (firm_mk ..)))
  (repeat' split) <;> simp

@[simp] theorem firm_xlateUse (s : State) (r : XReq) (st : CplStatus) (x : Xlation) : (State.xlateUse s r st x).firm = s.firm := by
  simp only [State.xlateUse]; (repeat' split) <;> first | rfl | (simp [apply_ite State.firm, firm_foldl]; done) | (simp_all [apply_ite State.firm, firm_foldl]; done)

@[simp] theorem firm_xlateIn (rid tag : Nat) (st : CplStatus) (x : Xlation) (s : State) : (State.xlateIn rid tag st x s).firm = s.firm := by
  simp only [State.xlateIn]; (repeat' split) <;> first | rfl | (simp [apply_ite State.firm, firm_foldl]; done) | (simp_all [apply_ite State.firm, firm_foldl]; done)

@[simp] theorem firm_invalidate (fn itag base len : Nat) (global : Bool) (s : State) : (State.invalidate fn itag base len global s).firm = s.firm := by
  simp only [State.invalidate]; (repeat' split) <;> first | rfl | (simp [apply_ite State.firm, firm_foldl]; done) | (simp_all [apply_ite State.firm, firm_foldl]; done)

@[simp] theorem firm_invalidated (fn : Nat) (s : State) : (State.invalidated fn s).firm = s.firm := by
  simp only [State.invalidated]; (repeat' split) <;> first | rfl | (simp [apply_ite State.firm, firm_foldl]; done) | (simp_all [apply_ite State.firm, firm_foldl]; done)

@[simp] theorem firm_timeout (key : Nat) (s : State) : (State.timeout key s).firm = s.firm := by
  simp only [State.timeout]; (repeat' split) <;> first | rfl | (simp [apply_ite State.firm, firm_foldl]; done) | (simp_all [apply_ite State.firm, firm_foldl]; done)

@[simp] theorem firm_quarantineOver (key : Nat) (s : State) : (State.quarantineOver key s).firm = s.firm := by
  simp only [State.quarantineOver]; (repeat' split) <;> first | rfl | (simp [apply_ite State.firm, firm_foldl]; done) | (simp_all [apply_ite State.firm, firm_foldl]; done)

@[simp] theorem firm_respond (s : State) (fn code : Nat) (r : Request) (status : Nat) (payload : Bytes) : (State.respond s fn code r status payload).firm = s.firm := by
  simp only [State.respond]; (repeat' split) <;> first | rfl | (simp [apply_ite State.firm, firm_foldl]; done) | (simp_all [apply_ite State.firm, firm_foldl]; done)

@[simp] theorem firm_notify (s : State) (fn : Nat) (r : Request) (judged : Bool) (status : Nat) : (State.notify s fn r judged status).firm = s.firm := by
  simp only [State.notify]; (repeat' split) <;> first | rfl | (simp [apply_ite State.firm, firm_foldl]; done) | (simp_all [apply_ite State.firm, firm_foldl]; done)

/-- The state that a reply carries has them as s has. -/
def Reply.Firm (s : State) : Reply → Prop
  | .refuse _ => True
  | .exhausted _ => True
  | .done _ t => t.firm = s.firm
  | .accept _ _ t => t.firm = s.firm
theorem firm_answerReq (s : State) (o : OpInfo) (fn : Nat) (r : Request) (x : Reply) (h : x.Firm s) :
    (State.answerReq s o fn r x).firm = s.firm := by
  unfold State.answerReq
  cases x <;> simp_all [Reply.Firm]

@[simp] theorem firm_takeRequest (s : State) (o : OpInfo) (fn : Nat) (r : Request) : (State.takeRequest s o fn r).firm = s.firm := by
  simp only [State.takeRequest]; (repeat' split) <;> first | rfl | (simp [apply_ite State.firm, firm_foldl]; done) | (simp_all [apply_ite State.firm, firm_foldl]; done)

/-- A request changes them only as its command does. -/
theorem firm_jalid (o : OpInfo) (body : Body) (fn : Nat) (r : Request) (s : State) (h : ∀ fn d s, (body fn d s).Firm s) :
    (State.jalid o body fn r s).firm = s.firm := by
  unfold State.jalid
  split
  · rfl
  · split
    · simp
    · simp only []
      have e : ((s.accessWake .ctl).takeRequest o fn r).firm = s.firm := by simp
      split
      · rw [firm_answerReq, e]
        unfold State.judge
        simp only []
        repeat' split
        all_goals first | trivial | exact h _ _ _
      · simp

@[simp] theorem firm_finishOn (s : State) (k : LongKind) (obj status detail : Nat) : (State.finishOn s k obj status detail).firm = s.firm := by
  simp only [State.finishOn]; (repeat' split) <;> first | rfl | (simp [apply_ite State.firm, firm_foldl]; done) | (simp_all [apply_ite State.firm, firm_foldl]; done)

theorem firm_nopBody (fn : Nat) (d : Bytes) (s : State) : (nopBody fn d s).Firm s := by
  simp only [nopBody]; (repeat' split) <;> first | trivial | (simp [Reply.Firm, apply_ite State.firm]; done) | (simp_all [Reply.Firm, apply_ite State.firm]; done)

theorem firm_echoBody (fn : Nat) (d : Bytes) (s : State) : (echoBody fn d s).Firm s := by
  simp only [echoBody]; (repeat' split) <;> first | trivial | (simp [Reply.Firm, apply_ite State.firm]; done) | (simp_all [Reply.Firm, apply_ite State.firm]; done)

theorem firm_identifyBody (fn : Nat) (d : Bytes) (s : State) : (identifyBody fn d s).Firm s := by
  simp only [identifyBody]; (repeat' split) <;> first | trivial | (simp [Reply.Firm, apply_ite State.firm]; done) | (simp_all [Reply.Firm, apply_ite State.firm]; done)

theorem firm_yasilReadBody (fn : Nat) (d : Bytes) (s : State) : (yasilReadBody fn d s).Firm s := by
  simp only [yasilReadBody]; (repeat' split) <;> first | trivial | (simp [Reply.Firm, apply_ite State.firm]; done) | (simp_all [Reply.Firm, apply_ite State.firm]; done)

@[simp] theorem firm_allowanceEvent (s : State) (fn : Nat) (q : Option Nat) (what used : Nat) : (State.allowanceEvent s fn q what used).firm = s.firm := by
  simp only [State.allowanceEvent]; (repeat' split) <;> first | rfl | (simp [apply_ite State.firm, firm_foldl]; done) | (simp_all [apply_ite State.firm, firm_foldl]; done)

@[simp] theorem firm_resumeFnPause (s : State) (fn : Nat) : (State.resumeFnPause s fn).firm = s.firm := by
  simp only [State.resumeFnPause]; (repeat' split) <;> first | rfl | (simp [apply_ite State.firm, firm_foldl]; done) | (simp_all [apply_ite State.firm, firm_foldl]; done)

@[simp] theorem firm_resumeSetPause (s : State) (fn q : Nat) : (State.resumeSetPause s fn q).firm = s.firm := by
  simp only [State.resumeSetPause]; (repeat' split) <;> first | rfl | (simp [apply_ite State.firm, firm_foldl]; done) | (simp_all [apply_ite State.firm, firm_foldl]; done)

theorem firm_capSetBody (fn : Nat) (d : Bytes) (s : State) : (capSetBody fn d s).Firm s := by
  simp only [capSetBody]; (repeat' split) <;> first | trivial | (simp [Reply.Firm, apply_ite State.firm]; done) | (simp_all [Reply.Firm, apply_ite State.firm]; done)

theorem firm_reserveSetBody (fn : Nat) (d : Bytes) (s : State) : (reserveSetBody fn d s).Firm s := by
  simp only [reserveSetBody]; (repeat' split) <;> first | trivial | (simp [Reply.Firm, apply_ite State.firm]; done) | (simp_all [Reply.Firm, apply_ite State.firm]; done)

theorem firm_allowanceSetBody (fn : Nat) (d : Bytes) (s : State) : (allowanceSetBody fn d s).Firm s := by
  simp only [allowanceSetBody]; (repeat' split) <;> first | trivial | (simp [Reply.Firm, apply_ite State.firm]; done) | (simp_all [Reply.Firm, apply_ite State.firm]; done)

theorem firm_borrowBody (fn : Nat) (d : Bytes) (s : State) : (borrowBody fn d s).Firm s := by
  simp only [borrowBody]; (repeat' split) <;> first | trivial | (simp [Reply.Firm, apply_ite State.firm]; done) | (simp_all [Reply.Firm, apply_ite State.firm]; done)

theorem firm_energyQueryBody (fn : Nat) (d : Bytes) (s : State) : (energyQueryBody fn d s).Firm s := by
  simp only [energyQueryBody]; (repeat' split) <;> first | trivial | (simp [Reply.Firm, apply_ite State.firm]; done) | (simp_all [Reply.Firm, apply_ite State.firm]; done)

theorem firm_hintSetBody (fn : Nat) (d : Bytes) (s : State) : (hintSetBody fn d s).Firm s := by
  simp only [hintSetBody]; (repeat' split) <;> first | trivial | (simp [Reply.Firm, apply_ite State.firm]; done) | (simp_all [Reply.Firm, apply_ite State.firm]; done)

theorem firm_placeLimitsBody (fn : Nat) (d : Bytes) (s : State) : (placeLimitsBody fn d s).Firm s := by
  simp only [placeLimitsBody]; (repeat' split) <;> first | trivial | (simp [Reply.Firm, apply_ite State.firm]; done) | (simp_all [Reply.Firm, apply_ite State.firm]; done)

theorem firm_numaMapBody (fn : Nat) (d : Bytes) (s : State) : (numaMapBody fn d s).Firm s := by
  simp only [numaMapBody]; (repeat' split) <;> first | trivial | (simp [Reply.Firm, apply_ite State.firm]; done) | (simp_all [Reply.Firm, apply_ite State.firm]; done)

@[simp] theorem firm_floorWake (s : State) (d : Domain) (floor : Nat) : (State.floorWake s d floor).firm = s.firm := by
  simp only [State.floorWake]; (repeat' split) <;> first | rfl | (simp [apply_ite State.firm, firm_foldl]; done) | (simp_all [apply_ite State.firm, firm_foldl]; done)

@[simp] theorem firm_bhSelect (s : State) (n event kind filter : Nat) : (State.bhSelect s n event kind filter).firm = s.firm := by
  simp only [State.bhSelect]; (repeat' split) <;> first | rfl | (simp [apply_ite State.firm, firm_foldl]; done) | (simp_all [apply_ite State.firm, firm_foldl]; done)

theorem firm_counterSelectBody (fn : Nat) (d : Bytes) (s : State) : (counterSelectBody fn d s).Firm s := by
  simp only [counterSelectBody]; (repeat' split) <;> first | trivial | (simp [Reply.Firm, apply_ite State.firm]; done) | (simp_all [Reply.Firm, apply_ite State.firm]; done)

theorem firm_telemSnapshotBody (fn : Nat) (d : Bytes) (s : State) : (telemSnapshotBody fn d s).Firm s := by
  simp only [telemSnapshotBody]; (repeat' split) <;> first | trivial | (simp [Reply.Firm, apply_ite State.firm]; done) | (simp_all [Reply.Firm, apply_ite State.firm]; done)

@[simp] theorem firm_voteOne (fn : Nat) (d : Bytes) (s : State) (x : Domain) : (State.voteOne fn d s x).firm = s.firm := by
  simp only [State.voteOne]; (repeat' split) <;> first | rfl | (simp [apply_ite State.firm, firm_foldl]; done) | (simp_all [apply_ite State.firm, firm_foldl]; done)

theorem firm_voteSetBody (fn : Nat) (d : Bytes) (s : State) : (voteSetBody fn d s).Firm s := by
  simp only [voteSetBody]; (repeat' split) <;> first | trivial | (simp [Reply.Firm, apply_ite State.firm]; done) | (simp_all [Reply.Firm, apply_ite State.firm]; done)

theorem firm_voteQueryBody (fn : Nat) (d : Bytes) (s : State) : (voteQueryBody fn d s).Firm s := by
  simp only [voteQueryBody]; (repeat' split) <;> first | trivial | (simp [Reply.Firm, apply_ite State.firm]; done) | (simp_all [Reply.Firm, apply_ite State.firm]; done)

theorem firm_faultVectorBody (fn : Nat) (d : Bytes) (s : State) : (faultVectorBody fn d s).Firm s := by
  simp only [faultVectorBody]; (repeat' split) <;> first | trivial | (simp [Reply.Firm, apply_ite State.firm]; done) | (simp_all [Reply.Firm, apply_ite State.firm]; done)

theorem firm_faultQueryBody (fn : Nat) (d : Bytes) (s : State) : (faultQueryBody fn d s).Firm s := by
  simp only [faultQueryBody]; (repeat' split) <;> first | trivial | (simp [Reply.Firm, apply_ite State.firm]; done) | (simp_all [Reply.Firm, apply_ite State.firm]; done)

@[simp] theorem firm_faultClear (s : State) (first count : Nat) : (State.faultClear s first count).firm = s.firm := by
  simp only [State.faultClear]; (repeat' split) <;> first | rfl | (simp [apply_ite State.firm, firm_foldl]; done) | (simp_all [apply_ite State.firm, firm_foldl]; done)

theorem firm_faultClearBody (fn : Nat) (d : Bytes) (s : State) : (faultClearBody fn d s).Firm s := by
  simp only [faultClearBody]; (repeat' split) <;> first | trivial | (simp [Reply.Firm, apply_ite State.firm]; done) | (simp_all [Reply.Firm, apply_ite State.firm]; done)

theorem firm_logReadBody (fn : Nat) (d : Bytes) (s : State) : (logReadBody fn d s).Firm s := by
  simp only [logReadBody]; (repeat' split) <;> first | trivial | (simp [Reply.Firm, apply_ite State.firm]; done) | (simp_all [Reply.Firm, apply_ite State.firm]; done)

@[simp] theorem firm_sessionOpen (s : State) (slot : Slot) (pldm : Bool) (len xfer : Nat) :
    (State.sessionOpen s slot pldm len xfer).firm = s.firm := by
  unfold State.sessionOpen
  extract_lets i x
  rw [firm_logUpdate]
  simp

@[simp] theorem firm_sessionClose (s : State) : (State.sessionClose s).firm = s.firm := by
  simp only [State.sessionClose]; (repeat' split) <;> first | rfl | (simp [apply_ite State.firm, firm_foldl]; done) | (simp_all [apply_ite State.firm, firm_foldl]; done)

theorem firm_updateBeginBody (fn : Nat) (d : Bytes) (s : State) : (updateBeginBody fn d s).Firm s := by
  simp only [updateBeginBody]; (repeat' split) <;> first | trivial | (simp [Reply.Firm, apply_ite State.firm]; done) | (simp_all [Reply.Firm, apply_ite State.firm]; done)

@[simp] theorem firm_imageRead (s : State) (addr len : Nat) : (State.imageRead s addr len).firm = s.firm := by
  simp only [State.imageRead]; (repeat' split) <;> first | rfl | (simp [apply_ite State.firm, firm_foldl]; done) | (simp_all [apply_ite State.firm, firm_foldl]; done)

theorem firm_updateWriteBody (fn : Nat) (d : Bytes) (s : State) : (updateWriteBody fn d s).Firm s := by
  simp only [updateWriteBody]; (repeat' split) <;> first | trivial | (simp [Reply.Firm, apply_ite State.firm]; done) | (simp_all [Reply.Firm, apply_ite State.firm]; done)

@[simp] theorem firm_writeEnd (flashOk : Bool) (s : State) : (State.writeEnd flashOk s).firm = s.firm := by
  simp only [State.writeEnd]; (repeat' split) <;> first | rfl | (simp [apply_ite State.firm, firm_foldl]; done) | (simp_all [apply_ite State.firm, firm_foldl]; done)

theorem firm_updateCommitBody (fn : Nat) (d : Bytes) (s : State) : (updateCommitBody fn d s).Firm s := by
  simp only [updateCommitBody]; (repeat' split) <;> first | trivial | (simp [Reply.Firm, apply_ite State.firm]; done) | (simp_all [Reply.Firm, apply_ite State.firm]; done)

@[simp] theorem firm_install (s : State) (f : Found) : (State.install s f).firm = s.firm := by simp [State.install]

@[simp] theorem firm_installEnd (s : State) (f : Found) (st : Nat) : (State.installEnd s f st).firm = s.firm := by
  simp only [State.installEnd]; (repeat' split) <;> first | rfl | (simp [apply_ite State.firm, firm_foldl]; done) | (simp_all [apply_ite State.firm, firm_foldl]; done)

@[simp] theorem firm_commitEnd (f : Found) (flashOk : Bool) (s : State) : (State.commitEnd f flashOk s).firm = s.firm := by
  simp only [State.commitEnd]; (repeat' split) <;> first | rfl | (simp [apply_ite State.firm, firm_foldl]; done) | (simp_all [apply_ite State.firm, firm_foldl]; done)

theorem firm_updateCancelBody (fn : Nat) (d : Bytes) (s : State) : (updateCancelBody fn d s).Firm s := by
  simp only [updateCancelBody]; (repeat' split) <;> first | trivial | (simp [Reply.Firm, apply_ite State.firm]; done) | (simp_all [Reply.Firm, apply_ite State.firm]; done)

@[simp] theorem firm_activate (s : State) (slot : Slot) (pldm : Bool) : (State.activate s slot pldm).firm = s.firm := by
  simp only [State.activate]; (repeat' split) <;> first | rfl | (simp [apply_ite State.firm, firm_foldl]; done) | (simp_all [apply_ite State.firm, firm_foldl]; done)

theorem firm_updateActivateBody (fn : Nat) (d : Bytes) (s : State) : (updateActivateBody fn d s).Firm s := by
  simp only [updateActivateBody]; (repeat' split) <;> first | trivial | (simp [Reply.Firm, apply_ite State.firm]; done) | (simp_all [Reply.Firm, apply_ite State.firm]; done)

theorem firm_updateStatusBody (fn : Nat) (d : Bytes) (s : State) : (updateStatusBody fn d s).Firm s := by
  simp only [updateStatusBody]; (repeat' split) <;> first | trivial | (simp [Reply.Firm, apply_ite State.firm]; done) | (simp_all [Reply.Firm, apply_ite State.firm]; done)

@[simp] theorem firm_abortEffect (s : State) (c : LongCmd) : (State.abortEffect s c).firm = s.firm := by
  simp only [State.abortEffect]; (repeat' split) <;> first | rfl | (simp [apply_ite State.firm, firm_foldl]; done) | (simp_all [apply_ite State.firm, firm_foldl]; done)

theorem firm_abortBody (fn : Nat) (d : Bytes) (s : State) : (abortBody fn d s).Firm s := by
  simp only [abortBody]; (repeat' split) <;> first | trivial | (simp [Reply.Firm, apply_ite State.firm]; done) | (simp_all [Reply.Firm, apply_ite State.firm]; done)

@[simp] theorem firm_evqHead (s : State) (fn : Nat) (v : W32) : (State.evqHead s fn v).firm = s.firm := by
  simp only [State.evqHead]; (repeat' split) <;> first | rfl | (simp [apply_ite State.firm, firm_foldl]; done) | (simp_all [apply_ite State.firm, firm_foldl]; done)

@[simp] theorem firm_evqSize (s : State) (fn : Nat) (v : W32) : (State.evqSize s fn v).firm = s.firm := by
  simp only [State.evqSize]; (repeat' split) <;> first | rfl | (simp [apply_ite State.firm, firm_foldl]; done) | (simp_all [apply_ite State.firm, firm_foldl]; done)

@[simp] theorem firm_reloadEnd (s : State) : (State.reloadEnd s).firm = s.firm := by
  simp only [State.reloadEnd]; (repeat' split) <;> first | rfl | (simp [apply_ite State.firm, firm_foldl]; done) | (simp_all [apply_ite State.firm, firm_foldl]; done)

theorem firm_groupCreateBody (fn : Nat) (d : Bytes) (s : State) : (groupCreateBody fn d s).Firm s := by
  simp only [groupCreateBody]; (repeat' split) <;> first | trivial | (simp [Reply.Firm, apply_ite State.firm]; done) | (simp_all [Reply.Firm, apply_ite State.firm]; done)

theorem firm_groupDestroyBody (fn : Nat) (d : Bytes) (s : State) : (groupDestroyBody fn d s).Firm s := by
  simp only [groupDestroyBody]; (repeat' split) <;> first | trivial | (simp [Reply.Firm, apply_ite State.firm]; done) | (simp_all [Reply.Firm, apply_ite State.firm]; done)

theorem firm_tenantCreateBody (fn : Nat) (d : Bytes) (s : State) : (tenantCreateBody fn d s).Firm s := by
  simp only [tenantCreateBody]; (repeat' split) <;> first | trivial | (simp [Reply.Firm, apply_ite State.firm]; done) | (simp_all [Reply.Firm, apply_ite State.firm]; done)

@[simp] theorem firm_tenantNew (s : State) (d : Bytes) : (State.tenantNew s d).firm = s.firm := by
  simp only [State.tenantNew]; (repeat' split) <;> first | rfl | (simp [apply_ite State.firm, firm_foldl]; done) | (simp_all [apply_ite State.firm, firm_foldl]; done)

@[simp] theorem firm_tenantCreateEnd (token : W16) (s : State) : (State.tenantCreateEnd token s).firm = s.firm := by
  simp only [State.tenantCreateEnd]; (repeat' split) <;> first | rfl | (simp [apply_ite State.firm, firm_foldl]; done) | (simp_all [apply_ite State.firm, firm_foldl]; done)

@[simp] theorem firm_destroyBegin (s : State) (vf : Nat) : (State.destroyBegin s vf).firm = s.firm := by
  unfold State.destroyBegin
  extract_lets ready s1
  have e : s1.firm = s.firm := by simp [s1]
  split
  · rw [firm_setTenState, firm_tdispUnlock, firm_wipeAlive, firm_rotateKey, e]
  · exact e

theorem firm_tenantDestroyBody (fn : Nat) (d : Bytes) (s : State) : (tenantDestroyBody fn d s).Firm s := by
  simp only [tenantDestroyBody]; (repeat' split) <;> first | trivial | (simp [Reply.Firm, apply_ite State.firm]; done) | (simp_all [Reply.Firm, apply_ite State.firm]; done)

@[simp] theorem firm_destroyEnd (vf : Nat) (s : State) : (State.destroyEnd vf s).firm = s.firm := by
  simp only [State.destroyEnd]; (repeat' split) <;> first | rfl | (simp [apply_ite State.firm, firm_foldl]; done) | (simp_all [apply_ite State.firm, firm_foldl]; done)

theorem firm_tenantQueryBody (fn : Nat) (d : Bytes) (s : State) : (tenantQueryBody fn d s).Firm s := by
  simp only [tenantQueryBody]; (repeat' split) <;> first | trivial | (simp [Reply.Firm, apply_ite State.firm]; done) | (simp_all [Reply.Firm, apply_ite State.firm]; done)

theorem firm_spillGrantBody (fn : Nat) (d : Bytes) (s : State) : (spillGrantBody fn d s).Firm s := by
  simp only [spillGrantBody]; (repeat' split) <;> first | trivial | (simp [Reply.Firm, apply_ite State.firm]; done) | (simp_all [Reply.Firm, apply_ite State.firm]; done)

theorem firm_spillRevokeBody (fn : Nat) (d : Bytes) (s : State) : (spillRevokeBody fn d s).Firm s := by
  simp only [spillRevokeBody]; (repeat' split) <;> first | trivial | (simp [Reply.Firm, apply_ite State.firm]; done) | (simp_all [Reply.Firm, apply_ite State.firm]; done)

@[simp] theorem firm_revokeEnd (s : State) : (State.revokeEnd s).firm = s.firm := by
  simp only [State.revokeEnd]; (repeat' split) <;> first | rfl | (simp [apply_ite State.firm, firm_foldl]; done) | (simp_all [apply_ite State.firm, firm_foldl]; done)

@[simp] theorem firm_putQset (s : State) (fn q : Nat) (x : QSet) : (State.putQset s fn q x).firm = s.firm := by
  simp only [State.putQset]; (repeat' split) <;> first | rfl | (simp [apply_ite State.firm, firm_foldl]; done) | (simp_all [apply_ite State.firm, firm_foldl]; done)

theorem firm_qsetCreateBody (fn : Nat) (d : Bytes) (s : State) : (qsetCreateBody fn d s).Firm s := by
  simp only [qsetCreateBody]; (repeat' split) <;> first | trivial | (simp [Reply.Firm, apply_ite State.firm]; done) | (simp_all [Reply.Firm, apply_ite State.firm]; done)

theorem firm_qsetModifyBody (fn : Nat) (d : Bytes) (s : State) : (qsetModifyBody fn d s).Firm s := by
  simp only [qsetModifyBody]; (repeat' split) <;> first | trivial | (simp [Reply.Firm, apply_ite State.firm]; done) | (simp_all [Reply.Firm, apply_ite State.firm]; done)

@[simp] theorem firm_qsetGone (s : State) (fn q : Nat) : (State.qsetGone s fn q).firm = s.firm := by
  simp only [State.qsetGone]; (repeat' split) <;> first | rfl | (simp [apply_ite State.firm, firm_foldl]; done) | (simp_all [apply_ite State.firm, firm_foldl]; done)

theorem firm_qsetDestroyBody (fn : Nat) (d : Bytes) (s : State) : (qsetDestroyBody fn d s).Firm s := by
  simp only [qsetDestroyBody]; (repeat' split) <;> first | trivial | (simp [Reply.Firm, apply_ite State.firm]; done) | (simp_all [Reply.Firm, apply_ite State.firm]; done)

theorem firm_qpNew (s : State) (fn : Nat) (d : Bytes) : (s.qpNew fn d).2.firm = s.firm := by
  unfold State.qpNew
  dsimp only
  rw [firm_resteer]
  split
  · rfl
  · cases s.victim fn with
    | none => rfl
    | some q => exact (firm_mk ..).trans (firm_demoteNow ..)
theorem firm_qpCreateBody (fn : Nat) (d : Bytes) (s : State) : (qpCreateBody fn d s).Firm s := by
  simp only [qpCreateBody]
  split
  · trivial
  · split
    · trivial
    · exact firm_qpNew ..

@[simp] theorem firm_mgrEvent (s : State) (q : Nat) (mgr : Bool) : (State.mgrEvent s q mgr).firm = s.firm := by
  simp only [State.mgrEvent]; (repeat' split) <;> first | rfl | (simp [apply_ite State.firm, firm_foldl]; done) | (simp_all [apply_ite State.firm, firm_foldl]; done)

@[simp] theorem firm_qpStart (s : State) (q : Nat) (mgr : Bool) : (State.qpStart s q mgr).firm = s.firm := by
  simp only [State.qpStart]; (repeat' split) <;> first | rfl | (simp [apply_ite State.firm, firm_foldl]; done) | (simp_all [apply_ite State.firm, firm_foldl]; done)

@[simp] theorem firm_qpStop (s : State) (q : Nat) (mgr : Bool) : (State.qpStop s q mgr).firm = s.firm := by
  simp only [State.qpStop]; (repeat' split) <;> first | rfl | (simp [apply_ite State.firm, firm_foldl]; done) | (simp_all [apply_ite State.firm, firm_foldl]; done)

theorem firm_qpAct {s t : State} {q a : Nat} {p : Qp} {m : Bool} (h : s.qpAct q p a m = some t) : t.firm = s.firm := by
  unfold State.qpAct at h
  split at h <;> (try split at h) <;> simp at h <;> subst h <;> simp
theorem firm_qpModifyBody (fn : Nat) (d : Bytes) (s : State) : (qpModifyBody fn d s).Firm s := by
  simp only [qpModifyBody]
  repeat' split
  all_goals first | trivial | exact firm_qpAct (by assumption)

@[simp] theorem firm_qpDrain (s : State) (q : Nat) : (State.qpDrain s q).firm = s.firm := by
  simp only [State.qpDrain]; (repeat' split) <;> first | rfl | (simp [apply_ite State.firm, firm_foldl]; done) | (simp_all [apply_ite State.firm, firm_foldl]; done)

theorem firm_qpDestroyBody (fn : Nat) (d : Bytes) (s : State) : (qpDestroyBody fn d s).Firm s := by
  simp only [qpDestroyBody]; (repeat' split) <;> first | trivial | (simp [Reply.Firm, apply_ite State.firm]; done) | (simp_all [Reply.Firm, apply_ite State.firm]; done)

@[simp] theorem firm_qpDestroyEnd (q : Nat) (s : State) : (State.qpDestroyEnd q s).firm = s.firm := by
  simp only [State.qpDestroyEnd]; (repeat' split) <;> first | rfl | (simp [apply_ite State.firm, firm_foldl]; done) | (simp_all [apply_ite State.firm, firm_foldl]; done)

theorem firm_qpQueryBody (fn : Nat) (d : Bytes) (s : State) : (qpQueryBody fn d s).Firm s := by
  simp only [qpQueryBody]; (repeat' split) <;> first | trivial | (simp [Reply.Firm, apply_ite State.firm]; done) | (simp_all [Reply.Firm, apply_ite State.firm]; done)

@[simp] theorem firm_bellSeen (s : State) (fn : Nat) : (State.bellSeen s fn).firm = s.firm := by
  simp only [State.bellSeen]; (repeat' split) <;> first | rfl | (simp [apply_ite State.firm, firm_foldl]; done) | (simp_all [apply_ite State.firm, firm_foldl]; done)

@[simp] theorem firm_serviceLoad (s : State) (q : Nat) : (State.serviceLoad s q).firm = s.firm := by
  simp only [State.serviceLoad]; (repeat' split) <;> first | rfl | (simp [apply_ite State.firm, firm_foldl]; done) | (simp_all [apply_ite State.firm, firm_foldl]; done)

@[simp] theorem firm_undemote (s : State) (q : Nat) : (State.undemote s q).firm = s.firm := by
  simp only [State.undemote]; (repeat' split) <;> first | rfl | (simp [apply_ite State.firm, firm_foldl]; done) | (simp_all [apply_ite State.firm, firm_foldl]; done)

@[simp] theorem firm_sqBell (fn slot : Nat) (d : Doorbell) (s : State) : (State.sqBell fn slot d s).firm = s.firm := by
  unfold State.sqBell
  dsimp only
  split
  · simp
  · split
    · rw [firm_serviceLoad, firm_modQp, firm_bellSeen]
    · rw [firm_ringSq, firm_undemote, firm_bellSeen]

@[simp] theorem firm_cqBell (fn slot : Nat) (d : Doorbell) (s : State) : (State.cqBell fn slot d s).firm = s.firm := by
  unfold State.cqBell
  dsimp only
  split
  · simp
  · split
    · rw [firm_serviceLoad, firm_modQp, firm_bellSeen]
    · rw [firm_ringCq, firm_bellSeen]

@[simp] theorem firm_begin_ (op : Byte) (q : Nat) (sqi : W16) (s : State) : (State.begin_ op q sqi s).firm = s.firm := by
  simp only [State.begin_]; (repeat' split) <;> first | rfl | (simp [apply_ite State.firm, firm_foldl]; done) | (simp_all [apply_ite State.firm, firm_foldl]; done)

@[simp] theorem firm_fenceEnd (q : Nat) (sqi : W16) (s : State) : (State.fenceEnd q sqi s).firm = s.firm := by
  simp only [State.fenceEnd]; (repeat' split) <;> first | rfl | (simp [apply_ite State.firm, firm_foldl]; done) | (simp_all [apply_ite State.firm, firm_foldl]; done)

@[simp] theorem firm_noteEnd (q : Nat) (sqi : W16) (s : State) : (State.noteEnd q sqi s).firm = s.firm := by
  simp only [State.noteEnd]; (repeat' split) <;> first | rfl | (simp [apply_ite State.firm, firm_foldl]; done) | (simp_all [apply_ite State.firm, firm_foldl]; done)

@[simp] theorem firm_holdoff (fn q : Nat) (s : State) : (State.holdoff fn q s).firm = s.firm := by
  simp only [State.holdoff]; (repeat' split) <;> first | rfl | (simp [apply_ite State.firm, firm_foldl]; done) | (simp_all [apply_ite State.firm, firm_foldl]; done)

@[simp] theorem firm_refill (fn q : Nat) (s : State) : (State.refill fn q s).firm = s.firm := by
  simp only [State.refill]; (repeat' split) <;> first | rfl | (simp [apply_ite State.firm, firm_foldl]; done) | (simp_all [apply_ite State.firm, firm_foldl]; done)

@[simp] theorem firm_commitUnit (n : Nat) (s : State) : (State.commitUnit n s).firm = s.firm := by
  simp only [State.commitUnit]; (repeat' split) <;> first | rfl | (simp [apply_ite State.firm, firm_foldl]; done) | (simp_all [apply_ite State.firm, firm_foldl]; done)

@[simp] theorem firm_crossAgain (s : State) (u : XUnit) : (State.crossAgain s u).firm = s.firm := by
  simp only [State.crossAgain]; (repeat' split) <;> first | rfl | (simp [apply_ite State.firm, firm_foldl]; done) | (simp_all [apply_ite State.firm, firm_foldl]; done)

@[simp] theorem firm_emitFabric (s : State) (n : Nat) (u : XUnit) (p : Packet) : (State.emitFabric s n u p).firm = s.firm := by
  unfold State.emitFabric
  dsimp only
  split
  · split
    · simp
    · rw [firm_pumpFlow, firm_emitAgain, firm_modUnit, firm_ungrant, firm_crossAgain]
  · rw [firm_pumpFlow]
    (repeat' split) <;>
      simp only [firm_unitDone, firm_modApt, firm_emitNew, firm_modFlow, firm_modUnit, firm_ungrant, firm_crossAgain]

@[simp] theorem firm_emitUnit (n : Nat) (s : State) : (State.emitUnit n s).firm = s.firm := by
  simp only [State.emitUnit]; (repeat' split) <;> first | rfl | (simp [apply_ite State.firm, firm_foldl]; done) | (simp_all [apply_ite State.firm, firm_foldl]; done)

@[simp] theorem firm_pleatNext (s : State) : (State.pleatNext s).firm = s.firm := by
  simp only [State.pleatNext]; (repeat' split) <;> first | rfl | (simp [apply_ite State.firm, firm_foldl]; done) | (simp_all [apply_ite State.firm, firm_foldl]; done)

@[simp] theorem firm_pleatsN (n : Nat) (s : State) : (State.pleatsN n s).firm = s.firm := by
  induction n generalizing s with
  | zero => rfl
  | succ n ih => simp [State.pleatsN, ih]
@[simp] theorem firm_pleatStart (p : Nat) (s : State) : (State.pleatStart p s).firm = s.firm := by
  unfold State.pleatStart; split <;> simp

@[simp] theorem firm_pleatLapse (a : Arb) (s : State) : (State.pleatLapse a s).firm = s.firm := by
  simp only [State.pleatLapse]; (repeat' split) <;> first | rfl | (simp [apply_ite State.firm, firm_foldl]; done) | (simp_all [apply_ite State.firm, firm_foldl]; done)

@[simp] theorem firm_starve (a : Arb) (n : Nat) (s : State) : (State.starve a n s).firm = s.firm := by
  simp only [State.starve]; (repeat' split) <;> first | rfl | (simp [apply_ite State.firm, firm_foldl]; done) | (simp_all [apply_ite State.firm, firm_foldl]; done)

theorem firm_aptOpenBody (fn : Nat) (d : Bytes) (s : State) : (aptOpenBody fn d s).Firm s := by
  simp only [aptOpenBody]; (repeat' split) <;> first | trivial | (simp [Reply.Firm, apply_ite State.firm]; done) | (simp_all [Reply.Firm, apply_ite State.firm]; done)

theorem firm_aptCloseBody (fn : Nat) (d : Bytes) (s : State) : (aptCloseBody fn d s).Firm s := by
  simp only [aptCloseBody]; (repeat' split) <;> first | trivial | (simp [Reply.Firm, apply_ite State.firm]; done) | (simp_all [Reply.Firm, apply_ite State.firm]; done)

@[simp] theorem firm_aptCloseEnd (n : Nat) (s : State) : (State.aptCloseEnd n s).firm = s.firm := by
  simp only [State.aptCloseEnd]; (repeat' split) <;> first | rfl | (simp [apply_ite State.firm, firm_foldl]; done) | (simp_all [apply_ite State.firm, firm_foldl]; done)

theorem firm_iwinOpenBody (fn : Nat) (d : Bytes) (s : State) : (iwinOpenBody fn d s).Firm s := by
  simp only [iwinOpenBody]; (repeat' split) <;> first | trivial | (simp [Reply.Firm, apply_ite State.firm]; done) | (simp_all [Reply.Firm, apply_ite State.firm]; done)

@[simp] theorem firm_iwinShut (s : State) (n : Nat) : (State.iwinShut s n).firm = s.firm := by
  simp only [State.iwinShut]; (repeat' split) <;> first | rfl | (simp [apply_ite State.firm, firm_foldl]; done) | (simp_all [apply_ite State.firm, firm_foldl]; done)

theorem firm_iwinCloseBody (fn : Nat) (d : Bytes) (s : State) : (iwinCloseBody fn d s).Firm s := by
  simp only [iwinCloseBody]; (repeat' split) <;> first | trivial | (simp [Reply.Firm, apply_ite State.firm]; done) | (simp_all [Reply.Firm, apply_ite State.firm]; done)

@[simp] theorem firm_iwinCloseEnd (n : Nat) (s : State) : (State.iwinCloseEnd n s).firm = s.firm := by
  simp only [State.iwinCloseEnd]; (repeat' split) <;> first | rfl | (simp [apply_ite State.firm, firm_foldl]; done) | (simp_all [apply_ite State.firm, firm_foldl]; done)

theorem firm_winQueryBody (fn : Nat) (d : Bytes) (s : State) : (winQueryBody fn d s).Firm s := by
  simp only [winQueryBody]; (repeat' split) <;> first | trivial | (simp [Reply.Firm, apply_ite State.firm]; done) | (simp_all [Reply.Firm, apply_ite State.firm]; done)

theorem firm_stitchLoadBody (fn : Nat) (d : Bytes) (s : State) : (stitchLoadBody fn d s).Firm s := by
  simp only [stitchLoadBody]; (repeat' split) <;> first | trivial | (simp [Reply.Firm, apply_ite State.firm]; done) | (simp_all [Reply.Firm, apply_ite State.firm]; done)

theorem firm_stitchClearBody (fn : Nat) (d : Bytes) (s : State) : (stitchClearBody fn d s).Firm s := by
  simp only [stitchClearBody]; (repeat' split) <;> first | trivial | (simp [Reply.Firm, apply_ite State.firm]; done) | (simp_all [Reply.Firm, apply_ite State.firm]; done)

theorem firm_stitchSetBody (fn : Nat) (d : Bytes) (s : State) : (stitchSetBody fn d s).Firm s := by
  simp only [stitchSetBody]; (repeat' split) <;> first | trivial | (simp [Reply.Firm, apply_ite State.firm]; done) | (simp_all [Reply.Firm, apply_ite State.firm]; done)

theorem firm_stitchQueryBody (fn : Nat) (d : Bytes) (s : State) : (stitchQueryBody fn d s).Firm s := by
  simp only [stitchQueryBody]; (repeat' split) <;> first | trivial | (simp [Reply.Firm, apply_ite State.firm]; done) | (simp_all [Reply.Firm, apply_ite State.firm]; done)

@[simp] theorem firm_outputFrame (n : Nat) (s : State) : (State.outputFrame n s).firm = s.firm := by
  simp only [State.outputFrame]; (repeat' split) <;> first | rfl | (simp [apply_ite State.firm, firm_foldl]; done) | (simp_all [apply_ite State.firm, firm_foldl]; done)

@[simp] theorem firm_staleSensor (n : Nat) (s : State) : (State.staleSensor n s).firm = s.firm := by
  simp only [State.staleSensor]; (repeat' split) <;> first | rfl | (simp [apply_ite State.firm, firm_foldl]; done) | (simp_all [apply_ite State.firm, firm_foldl]; done)

theorem firm_telemConfigBody (fn : Nat) (d : Bytes) (s : State) : (telemConfigBody fn d s).Firm s := by
  simp only [telemConfigBody]; (repeat' split) <;> first | trivial | (simp [Reply.Firm, apply_ite State.firm]; done) | (simp_all [Reply.Firm, apply_ite State.firm]; done)

@[simp] theorem firm_telemetry (fn : Nat) (s : State) : (State.telemetry fn s).firm = s.firm := by
  simp only [State.telemetry]; (repeat' split) <;> first | rfl | (simp [apply_ite State.firm, firm_foldl]; done) | (simp_all [apply_ite State.firm, firm_foldl]; done)

@[simp] theorem firm_drainPkt (s : State) (p : Packet) : (State.drainPkt s p).firm = s.firm := by
  simp only [State.drainPkt]; (repeat' split) <;> first | rfl | (simp [apply_ite State.firm, firm_foldl]; done) | (simp_all [apply_ite State.firm, firm_foldl]; done)

@[simp] theorem firm_landIn (s : State) (u : XUnit) (units : Nat) (d : Bytes) : (State.landIn s u units d).firm = s.firm := by
  simp only [State.landIn]; (repeat' split) <;> first | rfl | (simp [apply_ite State.firm, firm_foldl]; done) | (simp_all [apply_ite State.firm, firm_foldl]; done)

@[simp] theorem firm_stageInWrite (s : State) (w : Nat) (x : Iwin) (p : Packet) : (State.stageInWrite s w x p).firm = s.firm := by
  simp only [State.stageInWrite]; (repeat' split) <;> first | rfl | (simp [apply_ite State.firm, firm_foldl]; done) | (simp_all [apply_ite State.firm, firm_foldl]; done)

@[simp] theorem firm_takeWrite (s : State) (p : Packet) : (State.takeWrite s p).firm = s.firm := by
  simp only [State.takeWrite]; (repeat' split) <;> first | rfl | (simp [apply_ite State.firm, firm_foldl]; done) | (simp_all [apply_ite State.firm, firm_foldl]; done)

@[simp] theorem firm_askHost (s : State) (role : RdRole) (fn obj xunit base : Nat) (rs : List (Nat × Nat × Nat)) : (State.askHost s role fn obj xunit base rs).firm = s.firm := by
  simp only [State.askHost]; (repeat' split) <;> first | rfl | (simp [apply_ite State.firm, firm_foldl]; done) | (simp_all [apply_ite State.firm, firm_foldl]; done)

@[simp] theorem firm_readNow (s : State) (sl : Sleeve) (w : Nat) (x : Iwin) (p : Packet) (len : Nat) : (State.readNow s sl w x p len).firm = s.firm := by
  simp only [State.readNow]; (repeat' split) <;> first | rfl | (simp [apply_ite State.firm, firm_foldl]; done) | (simp_all [apply_ite State.firm, firm_foldl]; done)

@[simp] theorem firm_takeSlot (s : State) (sl : Sleeve) (w : Nat) (x : Iwin) (p : Packet) (len : Nat) (pre : Option Prefetch) : (State.takeSlot s sl w x p len pre).firm = s.firm := by
  simp only [State.takeSlot]; (repeat' split) <;> first | rfl | (simp [apply_ite State.firm, firm_foldl]; done) | (simp_all [apply_ite State.firm, firm_foldl]; done)

@[simp] theorem firm_readLater (s : State) (sl : Sleeve) (w : Nat) (x : Iwin) (p : Packet) (len : Nat) : (State.readLater s sl w x p len).firm = s.firm := by
  simp only [State.readLater]; (repeat' split) <;> first | rfl | (simp [apply_ite State.firm, firm_foldl]; done) | (simp_all [apply_ite State.firm, firm_foldl]; done)

@[simp] theorem firm_takeRead (s : State) (sl : Sleeve) (p : Packet) : (State.takeRead s sl p).firm = s.firm := by
  simp only [State.takeRead]; (repeat' split) <;> first | rfl | (simp [apply_ite State.firm, firm_foldl]; done) | (simp_all [apply_ite State.firm, firm_foldl]; done)

@[simp] theorem firm_sendCollect (s : State) (h : Nat) (d : DrSlot) (fn : Nat) (rule : Bool) (off len : Nat) : (State.sendCollect s h d fn rule off len).firm = s.firm := by
  simp only [State.sendCollect]; (repeat' split) <;> first | rfl | (simp [apply_ite State.firm, firm_foldl]; done) | (simp_all [apply_ite State.firm, firm_foldl]; done)

@[simp] theorem firm_takeCollect (s : State) (p : Packet) : (State.takeCollect s p).firm = s.firm := by
  simp only [State.takeCollect]; (repeat' split) <;> first | rfl | (simp [apply_ite State.firm, firm_foldl]; done) | (simp_all [apply_ite State.firm, firm_foldl]; done)

@[simp] theorem firm_sampleAnswer (s : State) (k : Nat) (seq : BitVec 24) : (State.sampleAnswer s k seq).firm = s.firm := by
  simp only [State.sampleAnswer]; (repeat' split) <;> first | rfl | (simp [apply_ite State.firm, firm_foldl]; done) | (simp_all [apply_ite State.firm, firm_foldl]; done)

@[simp] theorem firm_stageQp (s : State) (kind : UnitKind) (q : Nat) (qp : Qp) (d : Desc) (no off : Nat) (o : Owner) (p : Packet) (cut : Bool) (data : Bytes) : (State.stageQp s kind q qp d no off o p cut data).firm = s.firm := by
  simp only [State.stageQp]; (repeat' split) <;> first | rfl | (simp [apply_ite State.firm, firm_foldl]; done) | (simp_all [apply_ite State.firm, firm_foldl]; done)

@[simp] theorem firm_takeGetRsp (s : State) (a : Await) (q : Nat) (i : W16) (no : Nat) (p : Packet) : (State.takeGetRsp s a q i no p).firm = s.firm := by
  simp only [State.takeGetRsp]; (repeat' split) <;> first | rfl | (simp [apply_ite State.firm, firm_foldl]; done) | (simp_all [apply_ite State.firm, firm_foldl]; done)

@[simp] theorem firm_takeAptRsp (s : State) (a : Await) (id piece : Nat) (p : Packet) : (State.takeAptRsp s a id piece p).firm = s.firm := by
  simp only [State.takeAptRsp]; (repeat' split) <;> first | rfl | (simp [apply_ite State.firm, firm_foldl]; done) | (simp_all [apply_ite State.firm, firm_foldl]; done)

@[simp] theorem firm_takeReadRsp (s : State) (p : Packet) : (State.takeReadRsp s p).firm = s.firm := by
  simp only [State.takeReadRsp]; (repeat' split) <;> first | rfl | (simp [apply_ite State.firm, firm_foldl]; done) | (simp_all [apply_ite State.firm, firm_foldl]; done)

@[simp] theorem firm_refuseSend (s : State) (cut : Bool) (p : Packet) (st : Nat) : (State.refuseSend s cut p st).firm = s.firm := by
  simp only [State.refuseSend]; (repeat' split) <;> first | rfl | (simp [apply_ite State.firm, firm_foldl]; done) | (simp_all [apply_ite State.firm, firm_foldl]; done)

@[simp] theorem firm_sendImm (s : State) (p : Packet) : (s.sendImm p).2.firm = s.firm := by
  unfold State.sendImm; split <;> rfl
@[simp] theorem firm_recvUnit (s : State) (q : Nat) (x : Qp) (d : Desc) (src left : Nat) (total : Nat) (cut : Bool) (p : Packet) :
    (State.recvUnit s q x d src left total cut p).firm = s.firm := by
  unfold State.recvUnit
  have e := firm_sendImm s p
  cases hx : s.sendImm p with
  | mk i t =>
    rw [hx] at e
    dsimp only at e ⊢
    (repeat' split) <;> simp [e]

@[simp] theorem firm_sendAt (s : State) (cut : Bool) (q : Nat) (x : Qp) (p : Packet) : (State.sendAt s cut q x p).firm = s.firm := by
  simp only [State.sendAt]; (repeat' split) <;> first | rfl | (simp [apply_ite State.firm, firm_foldl]; done) | (simp_all [apply_ite State.firm, firm_foldl]; done)

@[simp] theorem firm_takeSend (s : State) (p : Packet) : (State.takeSend s p).firm = s.firm := by
  simp only [State.takeSend]; (repeat' split) <;> first | rfl | (simp [apply_ite State.firm, firm_foldl]; done) | (simp_all [apply_ite State.firm, firm_foldl]; done)

@[simp] theorem firm_deliverHeld (s : State) (q : Nat) : (State.deliverHeld s q).firm = s.firm := by
  unfold State.deliverHeld
  extract_lets mine s1
  refine (firm_foldl (fun s p => ?_) _ _).trans rfl
  split <;> simp

@[simp] theorem firm_takeMark (s : State) (p : Packet) : (State.takeMark s p).firm = s.firm := by
  simp only [State.takeMark]; (repeat' split) <;> first | rfl | (simp [apply_ite State.firm, firm_foldl]; done) | (simp_all [apply_ite State.firm, firm_foldl]; done)

@[simp] theorem firm_packetSeen (s : State) (sl : Sleeve) (p : Packet) : (State.packetSeen s sl p).firm = s.firm := by
  simp only [State.packetSeen]; (repeat' split) <;> first | rfl | (simp [apply_ite State.firm, firm_foldl]; done) | (simp_all [apply_ite State.firm, firm_foldl]; done)

@[simp] theorem firm_bytesSeen (s : State) (sl : Sleeve) (p : Packet) : (State.bytesSeen s sl p).firm = s.firm := by
  simp only [State.bytesSeen]; (repeat' split) <;> first | rfl | (simp [apply_ite State.firm, firm_foldl]; done) | (simp_all [apply_ite State.firm, firm_foldl]; done)

@[simp] theorem firm_deliver (s : State) (sl : Sleeve) (p : Packet) : (State.deliver s sl p).firm = s.firm := by
  simp only [State.deliver]; (repeat' split) <;> first | rfl | (simp [apply_ite State.firm, firm_foldl]; done) | (simp_all [apply_ite State.firm, firm_foldl]; done)

@[simp] theorem firm_accept (s : State) (sl : Sleeve) (p : Packet) : (State.accept s sl p).firm = s.firm := by
  simp only [State.accept]; (repeat' split) <;> first | rfl | (simp [apply_ite State.firm, firm_foldl]; done) | (simp_all [apply_ite State.firm, firm_foldl]; done)

@[simp] theorem firm_outOfTurn (s : State) (sl : Sleeve) (r : RxFlow) (p : Packet) : (State.outOfTurn s sl r p).firm = s.firm := by
  simp only [State.outOfTurn]; (repeat' split) <;> first | rfl | (simp [apply_ite State.firm, firm_foldl]; done) | (simp_all [apply_ite State.firm, firm_foldl]; done)

@[simp] theorem firm_receive (sl : Sleeve) (p : Packet) (s : State) : (State.receive sl p s).firm = s.firm := by
  simp only [State.receive]; (repeat' split) <;> first | rfl | (simp [apply_ite State.firm, firm_foldl]; done) | (simp_all [apply_ite State.firm, firm_foldl]; done)

@[simp] theorem firm_readAhead (s : State) (d : DrSlot) : (State.readAhead s d).firm = s.firm := by
  simp only [State.readAhead]; (repeat' split) <;> first | rfl | (simp [apply_ite State.firm, firm_foldl]; done) | (simp_all [apply_ite State.firm, firm_foldl]; done)

@[simp] theorem firm_slotLanded (h : Nat) (s : State) : (State.slotLanded h s).firm = s.firm := by
  simp only [State.slotLanded]; (repeat' split) <;> first | rfl | (simp [apply_ite State.firm, firm_foldl]; done) | (simp_all [apply_ite State.firm, firm_foldl]; done)

@[simp] theorem firm_slotDiscard (h : Nat) (s : State) : (State.slotDiscard h s).firm = s.firm := by
  simp only [State.slotDiscard]; (repeat' split) <;> first | rfl | (simp [apply_ite State.firm, firm_foldl]; done) | (simp_all [apply_ite State.firm, firm_foldl]; done)

@[simp] theorem firm_prefetchLapse (win node : Nat) (s : State) : (State.prefetchLapse win node s).firm = s.firm := by
  simp only [State.prefetchLapse]; (repeat' split) <;> first | rfl | (simp [apply_ite State.firm, firm_foldl]; done) | (simp_all [apply_ite State.firm, firm_foldl]; done)

@[simp] theorem firm_rateFreed (s : State) (sl : Sleeve) : (State.rateFreed s sl).firm = s.firm := by
  simp only [State.rateFreed]; (repeat' split) <;> first | rfl | (simp [apply_ite State.firm, firm_foldl]; done) | (simp_all [apply_ite State.firm, firm_foldl]; done)

@[simp] theorem firm_detected (sl : Sleeve) (words : List (Option W64)) (s : State) : (State.detected sl words s).firm = s.firm := by
  simp only [State.detected]; (repeat' split) <;> first | rfl | (simp [apply_ite State.firm, firm_foldl]; done) | (simp_all [apply_ite State.firm, firm_foldl]; done)

@[simp] theorem firm_trainStore (s : State) (sl : Sleeve) (t : Trained) : (State.trainStore s sl t).firm = s.firm := by
  simp only [State.trainStore]; (repeat' split) <;> first | rfl | (simp [apply_ite State.firm, firm_foldl]; done) | (simp_all [apply_ite State.firm, firm_foldl]; done)

@[simp] theorem firm_trainDone (sl : Sleeve) (t : Trained) (s : State) : (State.trainDone sl t s).firm = s.firm := by
  simp only [State.trainDone]; (repeat' split) <;> first | rfl | (simp [apply_ite State.firm, firm_foldl]; done) | (simp_all [apply_ite State.firm, firm_foldl]; done)

@[simp] theorem firm_trainExpired (sl : Sleeve) (s : State) : (State.trainExpired sl s).firm = s.firm := by
  simp only [State.trainExpired]; (repeat' split) <;> first | rfl | (simp [apply_ite State.firm, firm_foldl]; done) | (simp_all [apply_ite State.firm, firm_foldl]; done)

@[simp] theorem firm_aligned (sl : Sleeve) (s : State) : (State.aligned sl s).firm = s.firm := by
  simp only [State.aligned]; (repeat' split) <;> first | rfl | (simp [apply_ite State.firm, firm_foldl]; done) | (simp_all [apply_ite State.firm, firm_foldl]; done)

@[simp] theorem firm_slvResume (s : State) (sl : Sleeve) : (State.slvResume s sl).firm = s.firm := by
  simp only [State.slvResume]; (repeat' split) <;> first | rfl | (simp [apply_ite State.firm, firm_foldl]; done) | (simp_all [apply_ite State.firm, firm_foldl]; done)

@[simp] theorem firm_mismatchOther (s : State) (sl : Sleeve) : (State.mismatchOther s sl).firm = s.firm := by
  simp only [State.mismatchOther]; (repeat' split) <;> first | rfl | (simp [apply_ite State.firm, firm_foldl]; done) | (simp_all [apply_ite State.firm, firm_foldl]; done)

@[simp] theorem firm_encStart (s : State) (sl : Sleeve) : (State.encStart s sl).firm = s.firm := by
  simp only [State.encStart]; (repeat' split) <;> first | rfl | (simp [apply_ite State.firm, firm_foldl]; done) | (simp_all [apply_ite State.firm, firm_foldl]; done)

@[simp] theorem firm_paramDone (sl : Sleeve) (s : State) : (State.paramDone sl s).firm = s.firm := by
  simp only [State.paramDone]; (repeat' split) <;> first | rfl | (simp [apply_ite State.firm, firm_foldl]; done) | (simp_all [apply_ite State.firm, firm_foldl]; done)

@[simp] theorem firm_stageExpired (sl : Sleeve) (s : State) : (State.stageExpired sl s).firm = s.firm := by
  simp only [State.stageExpired]; (repeat' split) <;> first | rfl | (simp [apply_ite State.firm, firm_foldl]; done) | (simp_all [apply_ite State.firm, firm_foldl]; done)

@[simp] theorem firm_detectAgain (sl : Sleeve) (s : State) : (State.detectAgain sl s).firm = s.firm := by
  simp only [State.detectAgain]; (repeat' split) <;> first | rfl | (simp [apply_ite State.firm, firm_foldl]; done) | (simp_all [apply_ite State.firm, firm_foldl]; done)

@[simp] theorem firm_spdmNext (s : State) (sl : Sleeve) : (State.spdmNext s sl).firm = s.firm := by
  simp only [State.spdmNext]; (repeat' split) <;> first | rfl | (simp [apply_ite State.firm, firm_foldl]; done) | (simp_all [apply_ite State.firm, firm_foldl]; done)

@[simp] theorem firm_helloIn (sl : Sleeve) (version cap : Byte) (depth : Nat) (s : State) : (State.helloIn sl version cap depth s).firm = s.firm := by
  simp only [State.helloIn]; (repeat' split) <;> first | rfl | (simp [apply_ite State.firm, firm_foldl]; done) | (simp_all [apply_ite State.firm, firm_foldl]; done)

@[simp] theorem firm_slvProto (s : State) (sl : Sleeve) : (State.slvProto s sl).firm = s.firm := by
  simp only [State.slvProto]; (repeat' split) <;> first | rfl | (simp [apply_ite State.firm, firm_foldl]; done) | (simp_all [apply_ite State.firm, firm_foldl]; done)

@[simp] theorem firm_assignNode (sl : Sleeve) (node : Nat) (s : State) : (State.assignNode sl node s).firm = s.firm := by
  simp only [State.assignNode]; (repeat' split) <;> first | rfl | (simp [apply_ite State.firm, firm_foldl]; done) | (simp_all [apply_ite State.firm, firm_foldl]; done)

@[simp] theorem firm_linkAck (s : State) (sl : Sleeve) (a : BitVec 12) : (State.linkAck s sl a).firm = s.firm := by
  simp only [State.linkAck]; (repeat' split) <;> first | rfl | (simp [apply_ite State.firm, firm_foldl]; done) | (simp_all [apply_ite State.firm, firm_foldl]; done)

@[simp] theorem firm_linkHeader (s : State) (sl : Sleeve) (a : BitVec 12) (nak : Bool) : (State.linkHeader s sl a nak).firm = s.firm := by
  simp only [State.linkHeader]; (repeat' split) <;> first | rfl | (simp [apply_ite State.firm, firm_foldl]; done) | (simp_all [apply_ite State.firm, firm_foldl]; done)

@[simp] theorem firm_flitBad (s : State) (sl : Sleeve) (uncorrectable : Bool) : (State.flitBad s sl uncorrectable).firm = s.firm := by
  simp only [State.flitBad]; (repeat' split) <;> first | rfl | (simp [apply_ite State.firm, firm_foldl]; done) | (simp_all [apply_ite State.firm, firm_foldl]; done)

@[simp] theorem firm_replayExpired (sl : Sleeve) (s : State) : (State.replayExpired sl s).firm = s.firm := by
  simp only [State.replayExpired]; (repeat' split) <;> first | rfl | (simp [apply_ite State.firm, firm_foldl]; done) | (simp_all [apply_ite State.firm, firm_foldl]; done)

@[simp] theorem firm_retrainWord (sl : Sleeve) (ackSeq : BitVec 12) (s : State) : (State.retrainWord sl ackSeq s).firm = s.firm := by
  simp only [State.retrainWord]; (repeat' split) <;> first | rfl | (simp [apply_ite State.firm, firm_foldl]; done) | (simp_all [apply_ite State.firm, firm_foldl]; done)

@[simp] theorem firm_retrainDone (sl : Sleeve) (t : Trained) (s : State) : (State.retrainDone sl t s).firm = s.firm := by
  simp only [State.retrainDone]; (repeat' split) <;> first | rfl | (simp [apply_ite State.firm, firm_foldl]; done) | (simp_all [apply_ite State.firm, firm_foldl]; done)

@[simp] theorem firm_frayIn (sl : Sleeve) (s : State) : (State.frayIn sl s).firm = s.firm := by
  simp only [State.frayIn]; (repeat' split) <;> first | rfl | (simp [apply_ite State.firm, firm_foldl]; done) | (simp_all [apply_ite State.firm, firm_foldl]; done)

@[simp] theorem firm_downIn (sl : Sleeve) (s : State) : (State.downIn sl s).firm = s.firm := by
  simp only [State.downIn]; (repeat' split) <;> first | rfl | (simp [apply_ite State.firm, firm_foldl]; done) | (simp_all [apply_ite State.firm, firm_foldl]; done)

@[simp] theorem firm_shedAsked (sl : Sleeve) (mask : Byte) (s : State) : (State.shedAsked sl mask s).firm = s.firm := by
  simp only [State.shedAsked]; (repeat' split) <;> first | rfl | (simp [apply_ite State.firm, firm_foldl]; done) | (simp_all [apply_ite State.firm, firm_foldl]; done)

@[simp] theorem firm_shedReadyIn (sl : Sleeve) (mask : Byte) (s : State) : (State.shedReadyIn sl mask s).firm = s.firm := by
  simp only [State.shedReadyIn]; (repeat' split) <;> first | rfl | (simp [apply_ite State.firm, firm_foldl]; done) | (simp_all [apply_ite State.firm, firm_foldl]; done)

@[simp] theorem firm_shedSwitched (sl : Sleeve) (mask : Byte) (s : State) : (State.shedSwitched sl mask s).firm = s.firm := by
  simp only [State.shedSwitched]; (repeat' split) <;> first | rfl | (simp [apply_ite State.firm, firm_foldl]; done) | (simp_all [apply_ite State.firm, firm_foldl]; done)

@[simp] theorem firm_shedRefused (sl : Sleeve) (s : State) : (State.shedRefused sl s).firm = s.firm := by
  simp only [State.shedRefused]; (repeat' split) <;> first | rfl | (simp [apply_ite State.firm, firm_foldl]; done) | (simp_all [apply_ite State.firm, firm_foldl]; done)

@[simp] theorem firm_lanesLocked (sl : Sleeve) (mask : Byte) (s : State) : (State.lanesLocked sl mask s).firm = s.firm := by
  simp only [State.lanesLocked]; (repeat' split) <;> first | rfl | (simp [apply_ite State.firm, firm_foldl]; done) | (simp_all [apply_ite State.firm, firm_foldl]; done)

@[simp] theorem firm_slvQuiet (s : State) (sl : Sleeve) : (State.slvQuiet s sl).firm = s.firm := by
  simp only [State.slvQuiet]; (repeat' split) <;> first | rfl | (simp [apply_ite State.firm, firm_foldl]; done) | (simp_all [apply_ite State.firm, firm_foldl]; done)

@[simp] theorem firm_quietAsk (sl : Sleeve) (s : State) : (State.quietAsk sl s).firm = s.firm := by
  simp only [State.quietAsk]; (repeat' split) <;> first | rfl | (simp [apply_ite State.firm, firm_foldl]; done) | (simp_all [apply_ite State.firm, firm_foldl]; done)

@[simp] theorem firm_quietYes (sl : Sleeve) (s : State) : (State.quietYes sl s).firm = s.firm := by
  simp only [State.quietYes]; (repeat' split) <;> first | rfl | (simp [apply_ite State.firm, firm_foldl]; done) | (simp_all [apply_ite State.firm, firm_foldl]; done)

@[simp] theorem firm_quietNo (sl : Sleeve) (s : State) : (State.quietNo sl s).firm = s.firm := by
  simp only [State.quietNo]; (repeat' split) <;> first | rfl | (simp [apply_ite State.firm, firm_foldl]; done) | (simp_all [apply_ite State.firm, firm_foldl]; done)

@[simp] theorem firm_wakePattern (sl : Sleeve) (s : State) : (State.wakePattern sl s).firm = s.firm := by
  simp only [State.wakePattern]; (repeat' split) <;> first | rfl | (simp [apply_ite State.firm, firm_foldl]; done) | (simp_all [apply_ite State.firm, firm_foldl]; done)

@[simp] theorem firm_keyIn (sl : Sleeve) (keyId : Byte) (counter : W64) (s : State) : (State.keyIn sl keyId counter s).firm = s.firm := by
  simp only [State.keyIn]; (repeat' split) <;> first | rfl | (simp [apply_ite State.firm, firm_foldl]; done) | (simp_all [apply_ite State.firm, firm_foldl]; done)

@[simp] theorem firm_macFailed (s : State) (sl : Sleeve) : (State.macFailed s sl).firm = s.firm := by
  simp only [State.macFailed]; (repeat' split) <;> first | rfl | (simp [apply_ite State.firm, firm_foldl]; done) | (simp_all [apply_ite State.firm, firm_foldl]; done)

@[simp] theorem firm_mgmtIn (sl : Sleeve) (ctl len : Byte) (frag : Bytes) (s : State) : (State.mgmtIn sl ctl len frag s).firm = s.firm := by
  simp only [State.mgmtIn]; (repeat' split) <;> first | rfl | (simp [apply_ite State.firm, firm_foldl]; done) | (simp_all [apply_ite State.firm, firm_foldl]; done)

@[simp] theorem firm_linkRekey (sl : Sleeve) (s : State) : (State.linkRekey sl s).firm = s.firm := by
  simp only [State.linkRekey]; (repeat' split) <;> first | rfl | (simp [apply_ite State.firm, firm_foldl]; done) | (simp_all [apply_ite State.firm, firm_foldl]; done)

@[simp] theorem firm_slvOff (sl : Sleeve) (s : State) : (State.slvOff sl s).firm = s.firm := by
  simp only [State.slvOff]; (repeat' split) <;> first | rfl | (simp [apply_ite State.firm, firm_foldl]; done) | (simp_all [apply_ite State.firm, firm_foldl]; done)

@[simp] theorem firm_slvOn (sl : Sleeve) (s : State) : (State.slvOn sl s).firm = s.firm := by
  simp only [State.slvOn]; (repeat' split) <;> first | rfl | (simp [apply_ite State.firm, firm_foldl]; done) | (simp_all [apply_ite State.firm, firm_foldl]; done)

@[simp] theorem firm_slvRate (sl : Sleeve) (rate : BitVec 2) (s : State) : (State.slvRate sl rate s).firm = s.firm := by
  simp only [State.slvRate]; (repeat' split) <;> first | rfl | (simp [apply_ite State.firm, firm_foldl]; done) | (simp_all [apply_ite State.firm, firm_foldl]; done)

@[simp] theorem firm_slvUnretire (sl : Sleeve) (s : State) : (State.slvUnretire sl s).firm = s.firm := by
  simp only [State.slvUnretire]; (repeat' split) <;> first | rfl | (simp [apply_ite State.firm, firm_foldl]; done) | (simp_all [apply_ite State.firm, firm_foldl]; done)

@[simp] theorem firm_sensed (s : State) (r : Readings) : (State.sensed s r).firm = s.firm := by
  simp only [State.sensed]; (repeat' split) <;> first | rfl | (simp [apply_ite State.firm, firm_foldl]; done) | (simp_all [apply_ite State.firm, firm_foldl]; done)

@[simp] theorem firm_sample (r : Readings) (s : State) : (State.sample r s).firm = s.firm := by
  simp only [State.sample]; (repeat' split) <;> first | rfl | (simp [apply_ite State.firm, firm_foldl]; done) | (simp_all [apply_ite State.firm, firm_foldl]; done)

@[simp] theorem firm_busFix (s : State) (b : Binding) : (State.busFix s b).firm = s.firm := by
  simp only [State.busFix]; (repeat' split) <;> first | rfl | (simp [apply_ite State.firm, firm_foldl]; done) | (simp_all [apply_ite State.firm, firm_foldl]; done)

@[simp] theorem firm_araRead (s : State) : (State.araRead s).firm = s.firm := by
  simp only [State.araRead]; (repeat' split) <;> first | rfl | (simp [apply_ite State.firm, firm_foldl]; done) | (simp_all [apply_ite State.firm, firm_foldl]; done)

@[simp] theorem firm_daaSet (addr : BitVec 7) (s : State) : (State.daaSet addr s).firm = s.firm := by
  simp only [State.daaSet]; (repeat' split) <;> first | rfl | (simp [apply_ite State.firm, firm_foldl]; done) | (simp_all [apply_ite State.firm, firm_foldl]; done)

@[simp] theorem firm_modLin (s : State) (f : Lin → Lin) : (State.modLin s f).firm = s.firm := by
  simp only [State.modLin]; (repeat' split) <;> first | rfl | (simp [apply_ite State.firm, firm_foldl]; done) | (simp_all [apply_ite State.firm, firm_foldl]; done)

@[simp] theorem firm_stressMinute (t : Int) (s : State) : (State.stressMinute t s).firm = s.firm := by
  simp only [State.stressMinute]; (repeat' split) <;> first | rfl | (simp [apply_ite State.firm, firm_foldl]; done) | (simp_all [apply_ite State.firm, firm_foldl]; done)

@[simp] theorem firm_margin (s : State) (action lane which measured setting : Nat) (taken : Bool) : (State.margin s action lane which measured setting taken).firm = s.firm := by
  simp only [State.margin]; (repeat' split) <;> first | rfl | (simp [apply_ite State.firm, firm_foldl]; done) | (simp_all [apply_ite State.firm, firm_foldl]; done)

@[simp] theorem firm_forecast (s : State) (days : Nat) (limiter : Byte) : (State.forecast s days limiter).firm = s.firm := by
  simp only [State.forecast]; (repeat' split) <;> first | rfl | (simp [apply_ite State.firm, firm_foldl]; done) | (simp_all [apply_ite State.firm, firm_foldl]; done)

@[simp] theorem firm_raiseVdd (s : State) (pair : Nat) (drift : Nat) : (State.raiseVdd s pair drift).firm = s.firm := by
  simp only [State.raiseVdd]; (repeat' split) <;> first | rfl | (simp [apply_ite State.firm, firm_foldl]; done) | (simp_all [apply_ite State.firm, firm_foldl]; done)

@[simp] theorem firm_storeCoef (s : State) (port lane rate measured : Nat) : (State.storeCoef s port lane rate measured).firm = s.firm := by
  simp only [State.storeCoef]; (repeat' split) <;> first | rfl | (simp [apply_ite State.firm, firm_foldl]; done) | (simp_all [apply_ite State.firm, firm_foldl]; done)

@[simp] theorem firm_storeSleeve (s : State) (sl : Sleeve) (lane measured : Nat) : (State.storeSleeve s sl lane measured).firm = s.firm := by
  simp only [State.storeSleeve]; (repeat' split) <;> first | rfl | (simp [apply_ite State.firm, firm_foldl]; done) | (simp_all [apply_ite State.firm, firm_foldl]; done)

@[simp] theorem firm_marginTake (s : State) (sl : Sleeve) (a : Nat × Nat) (measured : Nat) : (State.marginTake s sl a measured).firm = s.firm := by
  simp only [State.marginTake]; (repeat' split) <;> first | rfl | (simp [apply_ite State.firm, firm_foldl]; done) | (simp_all [apply_ite State.firm, firm_foldl]; done)

@[simp] theorem firm_marginTrigger (s : State) (sl : Sleeve) (a : Nat × Nat) (measured : Nat) : (State.marginTrigger s sl a measured).firm = s.firm := by
  simp only [State.marginTrigger]; (repeat' split) <;> first | rfl | (simp [apply_ite State.firm, firm_foldl]; done) | (simp_all [apply_ite State.firm, firm_foldl]; done)

@[simp] theorem firm_deferEnd (sl : Sleeve) (s : State) : (State.deferEnd sl s).firm = s.firm := by
  simp only [State.deferEnd]; (repeat' split) <;> first | rfl | (simp [apply_ite State.firm, firm_foldl]; done) | (simp_all [apply_ite State.firm, firm_foldl]; done)

@[simp] theorem firm_pairCrossed (s : State) (i drift : Nat) : (State.pairCrossed s i drift).firm = s.firm := by
  simp only [State.pairCrossed]; (repeat' split) <;> first | rfl | (simp [apply_ite State.firm, firm_foldl]; done) | (simp_all [apply_ite State.firm, firm_foldl]; done)

@[simp] theorem firm_pairMeasured (drifts : List Nat) (i : Nat) (s : State) : (State.pairMeasured drifts i s).firm = s.firm := by
  simp only [State.pairMeasured]; (repeat' split) <;> first | rfl | (simp [apply_ite State.firm, firm_foldl]; done) | (simp_all [apply_ite State.firm, firm_foldl]; done)

@[simp] theorem firm_measure (drifts : List Nat) (s : State) : (State.measure drifts s).firm = s.firm := by
  simp only [State.measure]; (repeat' split) <;> first | rfl | (simp [apply_ite State.firm, firm_foldl]; done) | (simp_all [apply_ite State.firm, firm_foldl]; done)

@[simp] theorem firm_measureAll (s : State) : (State.measureAll s).firm = s.firm := by
  simp only [State.measureAll]; (repeat' split) <;> first | rfl | (simp [apply_ite State.firm, firm_foldl]; done) | (simp_all [apply_ite State.firm, firm_foldl]; done)

@[simp] theorem firm_derateClear (s : State) : (State.derateClear s).firm = s.firm := by
  simp only [State.derateClear]; (repeat' split) <;> first | rfl | (simp [apply_ite State.firm, firm_foldl]; done) | (simp_all [apply_ite State.firm, firm_foldl]; done)

@[simp] theorem firm_eyesIn (sl : Sleeve) (eyes : List Nat) (s : State) : (State.eyesIn sl eyes s).firm = s.firm := by
  simp only [State.eyesIn]; (repeat' split) <;> first | rfl | (simp [apply_ite State.firm, firm_foldl]; done) | (simp_all [apply_ite State.firm, firm_foldl]; done)

@[simp] theorem firm_eyeDaily (sl : Sleeve) (lane : Nat) (s : State) : (State.eyeDaily sl lane s).firm = s.firm := by
  simp only [State.eyeDaily]; (repeat' split) <;> first | rfl | (simp [apply_ite State.firm, firm_foldl]; done) | (simp_all [apply_ite State.firm, firm_foldl]; done)

@[simp] theorem firm_sleeveDaily (sl : Sleeve) (s : State) : (State.sleeveDaily sl s).firm = s.firm := by
  simp only [State.sleeveDaily]; (repeat' split) <;> first | rfl | (simp [apply_ite State.firm, firm_foldl]; done) | (simp_all [apply_ite State.firm, firm_foldl]; done)

@[simp] theorem firm_ledgerWrite (s : State) : (State.ledgerWrite s).firm = s.firm := by
  simp only [State.ledgerWrite]; (repeat' split) <;> first | rfl | (simp [apply_ite State.firm, firm_foldl]; done) | (simp_all [apply_ite State.firm, firm_foldl]; done)

@[simp] theorem firm_lifeDaily (s : State) : (State.lifeDaily s).firm = s.firm := by
  unfold State.lifeDaily
  dsimp only
  (repeat' split) <;> exact firm_forecast ..

@[simp] theorem firm_refit (residualBelow : Bool) (s : State) : (State.refit residualBelow s).firm = s.firm := by
  simp only [State.refit]; (repeat' split) <;> first | rfl | (simp [apply_ite State.firm, firm_foldl]; done) | (simp_all [apply_ite State.firm, firm_foldl]; done)

@[simp] theorem firm_hostDaily (m : Option Nat) (s : State) : (State.hostDaily m s).firm = s.firm := by
  simp only [State.hostDaily]; (repeat' split) <;> first | rfl | (simp [apply_ite State.firm, firm_foldl]; done) | (simp_all [apply_ite State.firm, firm_foldl]; done)

@[simp] theorem firm_storeAll (s : State) : (State.storeAll s).firm = s.firm := by
  unfold State.storeAll
  extract_lets s1 s2
  have e1 : s1.firm = s.firm := by simp only [s1]; split <;> simp
  have e2 : s2.firm = s.firm := by simp only [s2]; split <;> simp [e1]
  split <;> simp [e2]

@[simp] theorem firm_thirtyDays (d : DayFigures) (s : State) : (State.thirtyDays d s).firm = s.firm := by
  simp only [State.thirtyDays]; (repeat' split) <;> first | rfl | (simp [apply_ite State.firm, firm_foldl]; done) | (simp_all [apply_ite State.firm, firm_foldl]; done)

@[simp] theorem firm_dayEnd (d : DayFigures) (s : State) : (State.dayEnd d s).firm = s.firm := by
  simp only [State.dayEnd]; (repeat' split) <;> first | rfl | (simp [apply_ite State.firm, firm_foldl]; done) | (simp_all [apply_ite State.firm, firm_foldl]; done)

@[simp] theorem firm_nonce (s : State) : s.nonce.2.firm = s.firm := rfl
@[simp] theorem firm_spdmDo (f : State → State) (s : State) (h : ∀ s, (f s).firm = s.firm) : (State.spdmDo f s).firm = s.firm := by
  unfold State.spdmDo; split <;> simp [h]

@[simp] theorem firm_spdmError (s : State) (code : Nat) : (State.spdmError s code).firm = s.firm := by
  simp only [State.spdmError]; (repeat' split) <;> first | rfl | (simp [apply_ite State.firm, firm_foldl]; done) | (simp_all [apply_ite State.firm, firm_foldl]; done)

@[simp] theorem firm_certificate (slot off len : Nat) (s : State) : (State.certificate slot off len s).firm = s.firm := by
  simp only [State.certificate]; (repeat' split) <;> first | rfl | (simp [apply_ite State.firm, firm_foldl]; done) | (simp_all [apply_ite State.firm, firm_foldl]; done)

@[simp] theorem firm_challenge (slot : Nat) (nonce : Bytes) (s : State) : (State.challenge slot nonce s).firm = s.firm := by
  simp only [State.challenge]; (repeat' split) <;> first | rfl | (simp [apply_ite State.firm, firm_foldl]; done) | (simp_all [apply_ite State.firm, firm_foldl]; done)

@[simp] theorem firm_measurements (index : Nat) (s : State) : (State.measurements index s).firm = s.firm := by
  simp only [State.measurements]; (repeat' split) <;> first | rfl | (simp [apply_ite State.firm, firm_foldl]; done) | (simp_all [apply_ite State.firm, firm_foldl]; done)

@[simp] theorem firm_keyExchange (s : State) : (State.keyExchange s).firm = s.firm := by
  simp only [State.keyExchange]; (repeat' split) <;> first | rfl | (simp [apply_ite State.firm, firm_foldl]; done) | (simp_all [apply_ite State.firm, firm_foldl]; done)

@[simp] theorem firm_sessionEnd (sess : Nat) (s : State) : (State.sessionEnd sess s).firm = s.firm := by
  simp only [State.sessionEnd]; (repeat' split) <;> first | rfl | (simp [apply_ite State.firm, firm_foldl]; done) | (simp_all [apply_ite State.firm, firm_foldl]; done)

theorem firm_tpAccept (s : State) (m : TMsg) (d : Bool) (t : State) (h : s.tpAccept m d = some t) : t.firm = s.firm := by
  unfold State.tpAccept at h
  split at h
  · cases h
  · cases h; simp
@[simp] theorem firm_onMessage (s : State) (sl : Sleeve) (m : TMsg) (d : Bool) (f : State → State)
    (h : ∀ s, (f s).firm = s.firm) : (State.onMessage s sl m d f).firm = s.firm := by
  unfold State.onMessage
  split
  · rfl
  · dsimp only
    split
    · simp
    · rename_i t e; rw [h, firm_tpAccept _ _ _ _ e, firm_crossed]

@[simp] theorem firm_grantIn (s : State) (k : Nat) (limit : W32) : (State.grantIn s k limit).firm = s.firm := by
  simp only [State.grantIn]; (repeat' split) <;> first | rfl | (simp [apply_ite State.firm, firm_foldl]; done) | (simp_all [apply_ite State.firm, firm_foldl]; done)

@[simp] theorem firm_onGrant (sl : Sleeve) (m : TMsg) (limit : W32) (s : State) : (State.onGrant sl m limit s).firm = s.firm := by
  simp only [State.onGrant]; (repeat' split) <;> first | rfl | (simp [apply_ite State.firm, firm_foldl]; done) | (simp_all [apply_ite State.firm, firm_foldl]; done)

@[simp] theorem firm_newRx (s : State) (sl : Sleeve) (k : Nat) : (State.newRx s sl k).firm = s.firm := by
  simp only [State.newRx]; (repeat' split) <;> first | rfl | (simp [apply_ite State.firm, firm_foldl]; done) | (simp_all [apply_ite State.firm, firm_foldl]; done)

@[simp] theorem firm_announceRetire (s : State) (k : Nat) (r : RxFlow) : (State.announceRetire s k r).firm = s.firm := by
  simp only [State.announceRetire]; (repeat' split) <;> first | rfl | (simp [apply_ite State.firm, firm_foldl]; done) | (simp_all [apply_ite State.firm, firm_foldl]; done)

@[simp] theorem firm_wantIn (s : State) (sl : Sleeve) (k : Nat) : (State.wantIn s sl k).firm = s.firm := by
  simp only [State.wantIn]; (repeat' split) <;> first | rfl | (simp [apply_ite State.firm, firm_foldl]; done) | (simp_all [apply_ite State.firm, firm_foldl]; done)

@[simp] theorem firm_onWant (sl : Sleeve) (m : TMsg) (s : State) : (State.onWant sl m s).firm = s.firm := by
  simp only [State.onWant]; (repeat' split) <;> first | rfl | (simp [apply_ite State.firm, firm_foldl]; done) | (simp_all [apply_ite State.firm, firm_foldl]; done)

@[simp] theorem firm_onAnswer (s : State) (k : Nat) (seq : BitVec 24) (f : State → State) (h : ∀ s, (f s).firm = s.firm) :
    (State.onAnswer s k seq f).firm = s.firm := by
  unfold State.onAnswer
  (repeat' split) <;> simp [h]

@[simp] theorem firm_onAck (sl : Sleeve) (m : TMsg) (seq : BitVec 24) (s : State) : (State.onAck sl m seq s).firm = s.firm := by
  simp only [State.onAck]; (repeat' split) <;> first | rfl | (simp [apply_ite State.firm, firm_foldl]; done) | (simp_all [apply_ite State.firm, firm_foldl]; done)

@[simp] theorem firm_onNak (sl : Sleeve) (m : TMsg) (seq : BitVec 24) (status : Byte) (s : State) : (State.onNak sl m seq status s).firm = s.firm := by
  simp only [State.onNak]; (repeat' split) <;> first | rfl | (simp [apply_ite State.firm, firm_foldl]; done) | (simp_all [apply_ite State.firm, firm_foldl]; done)

@[simp] theorem firm_epochIn (src : Nat) (epoch : W16) (s : State) : (State.epochIn src epoch s).firm = s.firm := by
  simp only [State.epochIn]; (repeat' split) <;> first | rfl | (simp [apply_ite State.firm, firm_foldl]; done) | (simp_all [apply_ite State.firm, firm_foldl]; done)

@[simp] theorem firm_dropFlow (s : State) (k : Nat) : (State.dropFlow s k).firm = s.firm := by
  simp only [State.dropFlow]; (repeat' split) <;> first | rfl | (simp [apply_ite State.firm, firm_foldl]; done) | (simp_all [apply_ite State.firm, firm_foldl]; done)

@[simp] theorem firm_restage (s : State) (n : Nat) : (State.restage s n).firm = s.firm := by
  simp only [State.restage]; (repeat' split) <;> first | rfl | (simp [apply_ite State.firm, firm_foldl]; done) | (simp_all [apply_ite State.firm, firm_foldl]; done)

@[simp] theorem firm_retireIn (s : State) (k : Nat) (e : BitVec 24) : (State.retireIn s k e).firm = s.firm := by
  simp only [State.retireIn]; (repeat' split) <;> first | rfl | (simp [apply_ite State.firm, firm_foldl]; done) | (simp_all [apply_ite State.firm, firm_foldl]; done)

@[simp] theorem firm_onRetire (sl : Sleeve) (m : TMsg) (e : BitVec 24) (s : State) : (State.onRetire sl m e s).firm = s.firm := by
  simp only [State.onRetire]; (repeat' split) <;> first | rfl | (simp [apply_ite State.firm, firm_foldl]; done) | (simp_all [apply_ite State.firm, firm_foldl]; done)

@[simp] theorem firm_resendExpired (k : Nat) (s : State) : (State.resendExpired k s).firm = s.firm := by
  simp only [State.resendExpired]; (repeat' split) <;> first | rfl | (simp [apply_ite State.firm, firm_foldl]; done) | (simp_all [apply_ite State.firm, firm_foldl]; done)

@[simp] theorem firm_getExpired (s : State) (k : Nat) : (State.getExpired s k).firm = s.firm := by
  simp only [State.getExpired]; (repeat' split) <;> first | rfl | (simp [apply_ite State.firm, firm_foldl]; done) | (simp_all [apply_ite State.firm, firm_foldl]; done)

@[simp] theorem firm_flowExpired (s : State) (k : Nat) (f : TxFlow) : (State.flowExpired s k f).firm = s.firm := by
  simp only [State.flowExpired]; (repeat' split) <;> first | rfl | (simp [apply_ite State.firm, firm_foldl]; done) | (simp_all [apply_ite State.firm, firm_foldl]; done)

@[simp] theorem firm_writeExpired (k : Nat) (s : State) : (State.writeExpired k s).firm = s.firm := by
  simp only [State.writeExpired]; (repeat' split) <;> first | rfl | (simp [apply_ite State.firm, firm_foldl]; done) | (simp_all [apply_ite State.firm, firm_foldl]; done)

@[simp] theorem firm_flowlet (k : Nat) (s : State) : (State.flowlet k s).firm = s.firm := by
  simp only [State.flowlet]; (repeat' split) <;> first | rfl | (simp [apply_ite State.firm, firm_foldl]; done) | (simp_all [apply_ite State.firm, firm_foldl]; done)

@[simp] theorem firm_modBelt (s : State) (g : Belt → Belt) : (State.modBelt s g).firm = s.firm := by
  simp only [State.modBelt]; (repeat' split) <;> first | rfl | (simp [apply_ite State.firm, firm_foldl]; done) | (simp_all [apply_ite State.firm, firm_foldl]; done)

@[simp] theorem firm_beltLocked (s : State) : (State.beltLocked s).firm = s.firm := by
  simp only [State.beltLocked]; (repeat' split) <;> first | rfl | (simp [apply_ite State.firm, firm_foldl]; done) | (simp_all [apply_ite State.firm, firm_foldl]; done)

@[simp] theorem firm_beltLost (s : State) : (State.beltLost s).firm = s.firm := by
  simp only [State.beltLost]; (repeat' split) <;> first | rfl | (simp [apply_ite State.firm, firm_foldl]; done) | (simp_all [apply_ite State.firm, firm_foldl]; done)

@[simp] theorem firm_beltIdle (s : State) : (State.beltIdle s).firm = s.firm := by
  simp only [State.beltIdle]; (repeat' split) <;> first | rfl | (simp [apply_ite State.firm, firm_foldl]; done) | (simp_all [apply_ite State.firm, firm_foldl]; done)

@[simp] theorem firm_beltInsert (s : State) : (State.beltInsert s).firm = s.firm := by
  simp only [State.beltInsert]; (repeat' split) <;> first | rfl | (simp [apply_ite State.firm, firm_foldl]; done) | (simp_all [apply_ite State.firm, firm_foldl]; done)

@[simp] theorem firm_beltPass (s : State) (flit : Bytes) (f : BeltFlit) : (State.beltPass s flit f).firm = s.firm := by
  simp only [State.beltPass]; (repeat' split) <;> first | rfl | (simp [apply_ite State.firm, firm_foldl]; done) | (simp_all [apply_ite State.firm, firm_foldl]; done)

@[simp] theorem firm_routeTake (m : RouteMsg) (payload : Bytes) (s : State) : (State.routeTake m payload s).firm = s.firm := by
  simp only [State.routeTake]; (repeat' split) <;> first | rfl | (simp [apply_ite State.firm, firm_foldl]; done) | (simp_all [apply_ite State.firm, firm_foldl]; done)

@[simp] theorem firm_dropSamples (s : State) : (State.dropSamples s).firm = s.firm := by
  simp only [State.dropSamples]; (repeat' split) <;> first | rfl | (simp [apply_ite State.firm, firm_foldl]; done) | (simp_all [apply_ite State.firm, firm_foldl]; done)

@[simp] theorem firm_stepTime (s : State) (off : Int) : (State.stepTime s off).firm = s.firm := by
  simp only [State.stepTime]; (repeat' split) <;> first | rfl | (simp [apply_ite State.firm, firm_foldl]; done) | (simp_all [apply_ite State.firm, firm_foldl]; done)

@[simp] theorem firm_setTime (s : State) (off : Int) : (State.setTime s off).firm = s.firm := by
  simp only [State.setTime]; (repeat' split) <;> first | rfl | (simp [apply_ite State.firm, firm_foldl]; done) | (simp_all [apply_ite State.firm, firm_foldl]; done)

@[simp] theorem firm_adjustRate (s : State) (off : Int) : (State.adjustRate s off).firm = s.firm := by
  simp only [State.adjustRate]; (repeat' split) <;> first | rfl | (simp [apply_ite State.firm, firm_foldl]; done) | (simp_all [apply_ite State.firm, firm_foldl]; done)

@[simp] theorem firm_discipline (s : State) (off : Int) : (State.discipline s off).firm = s.firm := by
  simp only [State.discipline]; (repeat' split) <;> first | rfl | (simp [apply_ite State.firm, firm_foldl]; done) | (simp_all [apply_ite State.firm, firm_foldl]; done)

@[simp] theorem firm_timeIn (m : TimeMsg) (s : State) : (State.timeIn m s).firm = s.firm := by
  simp only [State.timeIn]; (repeat' split) <;> first | rfl | (simp [apply_ite State.firm, firm_foldl]; done) | (simp_all [apply_ite State.firm, firm_foldl]; done)

@[simp] theorem firm_enumIn (hops nextPos : Byte) (enumId : W16) (s : State) : (State.enumIn hops nextPos enumId s).firm = s.firm := by
  simp only [State.enumIn]; (repeat' split) <;> first | rfl | (simp [apply_ite State.firm, firm_foldl]; done) | (simp_all [apply_ite State.firm, firm_foldl]; done)

@[simp] theorem firm_beltMessage (s : State) (flit : Bytes) (f : BeltFlit) : (State.beltMessage s flit f).firm = s.firm := by
  simp only [State.beltMessage]; (repeat' split) <;> first | rfl | (simp [apply_ite State.firm, firm_foldl]; done) | (simp_all [apply_ite State.firm, firm_foldl]; done)

@[simp] theorem firm_routeIn (m : RouteMsg) (payload : Bytes) (s : State) : (State.routeIn m payload s).firm = s.firm := by
  simp only [State.routeIn]; (repeat' split) <;> first | rfl | (simp [apply_ite State.firm, firm_foldl]; done) | (simp_all [apply_ite State.firm, firm_foldl]; done)

@[simp] theorem firm_beltBad (s : State) (crc : Bool) : (State.beltBad s crc).firm = s.firm := by
  simp only [State.beltBad]; (repeat' split) <;> first | rfl | (simp [apply_ite State.firm, firm_foldl]; done) | (simp_all [apply_ite State.firm, firm_foldl]; done)

@[simp] theorem firm_beltFlit (flit : Bytes) (s : State) : (State.beltFlit flit s).firm = s.firm := by
  simp only [State.beltFlit]; (repeat' split) <;> first | rfl | (simp [apply_ite State.firm, firm_foldl]; done) | (simp_all [apply_ite State.firm, firm_foldl]; done)

@[simp] theorem firm_beltWake (s : State) : (State.beltWake s).firm = s.firm := by
  simp only [State.beltWake]; (repeat' split) <;> first | rfl | (simp [apply_ite State.firm, firm_foldl]; done) | (simp_all [apply_ite State.firm, firm_foldl]; done)

@[simp] theorem firm_beltOff (s : State) : (State.beltOff s).firm = s.firm := by
  simp only [State.beltOff]; (repeat' split) <;> first | rfl | (simp [apply_ite State.firm, firm_foldl]; done) | (simp_all [apply_ite State.firm, firm_foldl]; done)

@[simp] theorem firm_beltFloor (s : State) : (State.beltFloor s).firm = s.firm := by
  simp only [State.beltFloor]; (repeat' split) <;> first | rfl | (simp [apply_ite State.firm, firm_foldl]; done) | (simp_all [apply_ite State.firm, firm_foldl]; done)

@[simp] theorem firm_beltOn (s : State) : (State.beltOn s).firm = s.firm := by
  simp only [State.beltOn]; (repeat' split) <;> first | rfl | (simp [apply_ite State.firm, firm_foldl]; done) | (simp_all [apply_ite State.firm, firm_foldl]; done)

@[simp] theorem firm_summary (s : State) : (State.summary s).firm = s.firm := by
  simp only [State.summary]; (repeat' split) <;> first | rfl | (simp [apply_ite State.firm, firm_foldl]; done) | (simp_all [apply_ite State.firm, firm_foldl]; done)

@[simp] theorem firm_faultIn (src : Nat) (rec' : FaultRec) (s : State) : (State.faultIn src rec' s).firm = s.firm := by
  simp only [State.faultIn]; (repeat' split) <;> first | rfl | (simp [apply_ite State.firm, firm_foldl]; done) | (simp_all [apply_ite State.firm, firm_foldl]; done)

@[simp] theorem firm_trapLate (s : State) : (State.trapLate s).firm = s.firm := by
  simp only [State.trapLate]; (repeat' split) <;> first | rfl | (simp [apply_ite State.firm, firm_foldl]; done) | (simp_all [apply_ite State.firm, firm_foldl]; done)

@[simp] theorem firm_errUp (s : State) : (State.errUp s).firm = s.firm := by
  simp only [State.errUp]; (repeat' split) <;> first | rfl | (simp [apply_ite State.firm, firm_foldl]; done) | (simp_all [apply_ite State.firm, firm_foldl]; done)

@[simp] theorem firm_pulseEnd (s : State) : (State.pulseEnd s).firm = s.firm := by
  simp only [State.pulseEnd]; (repeat' split) <;> first | rfl | (simp [apply_ite State.firm, firm_foldl]; done) | (simp_all [apply_ite State.firm, firm_foldl]; done)

@[simp] theorem firm_errRelease_ (s : State) : (State.errRelease_ s).firm = s.firm := by
  simp only [State.errRelease_]; (repeat' split) <;> first | rfl | (simp [apply_ite State.firm, firm_foldl]; done) | (simp_all [apply_ite State.firm, firm_foldl]; done)

@[simp] theorem firm_lockReact (s : State) : (State.lockReact s).firm = s.firm := by
  simp only [State.lockReact]; (repeat' split) <;> first | rfl | (simp [apply_ite State.firm, firm_foldl]; done) | (simp_all [apply_ite State.firm, firm_foldl]; done)

@[simp] theorem firm_scrub (badStatus badReact : Bool) (s : State) : (State.scrub badStatus badReact s).firm = s.firm := by
  simp only [State.scrub]; (repeat' split) <;> first | rfl | (simp [apply_ite State.firm, firm_foldl]; done) | (simp_all [apply_ite State.firm, firm_foldl]; done)

@[simp] theorem firm_lining (b : Binding) (f : State → State) (s : State) (h : ∀ s, (f s).firm = s.firm) :
    (State.lining b f s).firm = s.firm := by
  unfold State.lining
  (repeat' split) <;> simp [h]

@[simp] theorem firm_control (b : Binding) (f : State → State) (s : State) (h : ∀ s, (f s).firm = s.firm) :
    (State.control b f s).firm = s.firm := by
  unfold State.control
  (repeat' split) <;> simp [h]
@[simp] theorem firm_freeBytes (n : Nat) (s : State) : (State.freeBytes n s).2.firm = s.firm := by
  induction n generalizing s with
  | zero => rfl
  | succ n ih => simp [State.freeBytes, ih]

@[simp] theorem firm_mctpSay (s : State) (b : Binding) (m : Bytes) : (State.mctpSay s b m).firm = s.firm := by
  simp only [State.mctpSay]
  split
  · rw [firm_foldl fun s p => firm_beltSend s _ p]; rfl
  · rfl

@[simp] theorem firm_ctlSay (s : State) (b : Binding) (cmd cc : Nat) (data : Bytes) : (State.ctlSay s b cmd cc data).firm = s.firm := by
  simp only [State.ctlSay]; (repeat' split) <;> first | rfl | (simp [apply_ite State.firm, firm_foldl]; done) | (simp_all [apply_ite State.firm, firm_foldl]; done)

@[simp] theorem firm_pldmSay (s : State) (b : Binding) (type cmd cc : Nat) (data : Bytes) : (State.pldmSay s b type cmd cc data).firm = s.firm := by
  simp only [State.pldmSay]; (repeat' split) <;> first | rfl | (simp [apply_ite State.firm, firm_foldl]; done) | (simp_all [apply_ite State.firm, firm_foldl]; done)

@[simp] theorem firm_eidSet (b : Binding) (eid : Byte) (s : State) : (State.eidSet b eid s).firm = s.firm := by
  simp only [State.eidSet]; (repeat' split) <;> first | rfl | (simp [apply_ite State.firm, firm_foldl]; done) | (simp_all [apply_ite State.firm, firm_foldl]; done)

@[simp] theorem firm_versionSay (b : Binding) (t : Byte) (s : State) : (State.versionSay b t s).firm = s.firm := by
  simp only [State.versionSay]; (repeat' split) <;> first | rfl | (simp [apply_ite State.firm, firm_foldl]; done) | (simp_all [apply_ite State.firm, firm_foldl]; done)

@[simp] theorem firm_logSay (b : Binding) (d : Bytes) (s : State) : (State.logSay b d s).firm = s.firm := by
  simp only [State.logSay]; (repeat' split) <;> first | rfl | (simp [apply_ite State.firm, firm_foldl]; done) | (simp_all [apply_ite State.firm, firm_foldl]; done)

@[simp] theorem firm_readingSay (s : State) (b : Binding) (r : Reading) (op present : Nat) : (State.readingSay s b r op present).firm = s.firm := by
  simp only [State.readingSay]; (repeat' split) <;> first | rfl | (simp [apply_ite State.firm, firm_foldl]; done) | (simp_all [apply_ite State.firm, firm_foldl]; done)

@[simp] theorem firm_sensorSay (b : Binding) (id : Nat) (s : State) : (State.sensorSay b id s).firm = s.firm := by
  simp only [State.sensorSay]; (repeat' split) <;> first | rfl | (simp [apply_ite State.firm, firm_foldl]; done) | (simp_all [apply_ite State.firm, firm_foldl]; done)

@[simp] theorem firm_thresholdSay (b : Binding) (id : Nat) (s : State) : (State.thresholdSay b id s).firm = s.firm := by
  unfold State.thresholdSay
  split <;> simp

@[simp] theorem firm_repositorySay (b : Binding) (s : State) : (State.repositorySay b s).firm = s.firm := by
  simp only [State.repositorySay]; (repeat' split) <;> first | rfl | (simp [apply_ite State.firm, firm_foldl]; done) | (simp_all [apply_ite State.firm, firm_foldl]; done)

@[simp] theorem firm_pdrSay (b : Binding) (handle : Nat) (s : State) : (State.pdrSay b handle s).firm = s.firm := by
  simp only [State.pdrSay]; (repeat' split) <;> first | rfl | (simp [apply_ite State.firm, firm_foldl]; done) | (simp_all [apply_ite State.firm, firm_foldl]; done)

@[simp] theorem firm_effecterSay (b : Binding) (id : Nat) (s : State) : (State.effecterSay b id s).firm = s.firm := by
  simp only [State.effecterSay]; (repeat' split) <;> first | rfl | (simp [apply_ite State.firm, firm_foldl]; done) | (simp_all [apply_ite State.firm, firm_foldl]; done)

@[simp] theorem firm_effect_ (b : Binding) (ok : Bool) (f : State → State) (s : State) (h : ∀ s, (f s).firm = s.firm) :
    (State.effect_ b ok f s).firm = s.firm := by
  unfold State.effect_
  split <;> simp [h]

@[simp] theorem firm_capTake (v : Nat) (s : State) : (State.capTake v s).firm = s.firm := by
  simp only [State.capTake]; (repeat' split) <;> first | rfl | (simp [apply_ite State.firm, firm_foldl]; done) | (simp_all [apply_ite State.firm, firm_foldl]; done)

@[simp] theorem firm_windowTake (v : Nat) (s : State) : (State.windowTake v s).firm = s.firm := by
  simp only [State.windowTake]; (repeat' split) <;> first | rfl | (simp [apply_ite State.firm, firm_foldl]; done) | (simp_all [apply_ite State.firm, firm_foldl]; done)

@[simp] theorem firm_counterSay (flags : Byte) (first count : Nat) (s : State) : (State.counterSay flags first count s).firm = s.firm := by
  simp only [State.counterSay]; (repeat' split) <;> first | rfl | (simp [apply_ite State.firm, firm_foldl]; done) | (simp_all [apply_ite State.firm, firm_foldl]; done)

@[simp] theorem firm_regWrite1 (s : State) (f : State → State) (h : ∀ s, (f s).firm = s.firm) :
    (s.regWrite1 f).firm = s.firm := by unfold State.regWrite1; split <;> simp [h]

@[simp] theorem firm_traceOn (s : State) : (State.traceOn s).firm = s.firm := by
  simp only [State.traceOn]; (repeat' split) <;> first | rfl | (simp [apply_ite State.firm, firm_foldl]; done) | (simp_all [apply_ite State.firm, firm_foldl]; done)

@[simp] theorem firm_traceOff (s : State) : (State.traceOff s).firm = s.firm := by
  simp only [State.traceOff]; (repeat' split) <;> first | rfl | (simp [apply_ite State.firm, firm_foldl]; done) | (simp_all [apply_ite State.firm, firm_foldl]; done)

@[simp] theorem firm_traceMark (s : State) : (State.traceMark s).firm = s.firm := by
  simp only [State.traceMark]; (repeat' split) <;> first | rfl | (simp [apply_ite State.firm, firm_foldl]; done) | (simp_all [apply_ite State.firm, firm_foldl]; done)

@[simp] theorem firm_traceCounter (c : Nat) (s : State) : (State.traceCounter c s).firm = s.firm := by
  simp only [State.traceCounter]; (repeat' split) <;> first | rfl | (simp [apply_ite State.firm, firm_foldl]; done) | (simp_all [apply_ite State.firm, firm_foldl]; done)

@[simp] theorem firm_traceCounters (s : State) : (State.traceCounters s).firm = s.firm := by
  simp only [State.traceCounters]; (repeat' split) <;> first | rfl | (simp [apply_ite State.firm, firm_foldl]; done) | (simp_all [apply_ite State.firm, firm_foldl]; done)

@[simp] theorem firm_modPlc (s : State) (g : Plc → Plc) : (State.modPlc s g).firm = s.firm := by
  simp only [State.modPlc]; (repeat' split) <;> first | rfl | (simp [apply_ite State.firm, firm_foldl]; done) | (simp_all [apply_ite State.firm, firm_foldl]; done)

@[simp] theorem firm_startMove (s : State) (q : Nat) (mv : Move) (phase2 : Bool) : (State.startMove s q mv phase2).firm = s.firm := by
  simp only [State.startMove]; (repeat' split) <;> first | rfl | (simp [apply_ite State.firm, firm_foldl]; done) | (simp_all [apply_ite State.firm, firm_foldl]; done)

@[simp] theorem firm_sampleEpoch (s : State) : (State.sampleEpoch s).firm = s.firm := by
  simp only [State.sampleEpoch]; (repeat' split) <;> first | rfl | (simp [apply_ite State.firm, firm_foldl]; done) | (simp_all [apply_ite State.firm, firm_foldl]; done)

@[simp] theorem firm_shareOut (s : State) : (State.shareOut s).firm = s.firm := by
  simp only [State.shareOut]; (repeat' split) <;> first | rfl | (simp [apply_ite State.firm, firm_foldl]; done) | (simp_all [apply_ite State.firm, firm_foldl]; done)

@[simp] theorem firm_spillRetry (q : Nat) (s : State) : (State.spillRetry q s).firm = s.firm := by
  simp only [State.spillRetry]; (repeat' split) <;> first | rfl | (simp [apply_ite State.firm, firm_foldl]; done) | (simp_all [apply_ite State.firm, firm_foldl]; done)

@[simp] theorem firm_spillRetries (s : State) : (State.spillRetries s).firm = s.firm := by
  simp only [State.spillRetries]; (repeat' split) <;> first | rfl | (simp [apply_ite State.firm, firm_foldl]; done) | (simp_all [apply_ite State.firm, firm_foldl]; done)

@[simp] theorem firm_evacuate (s : State) : (State.evacuate s).firm = s.firm := by
  unfold State.evacuate
  refine firm_foldl (fun s x => ?_) _ _
  (repeat' split) <;> simp

@[simp] theorem firm_startPromote (s : State) (q : Nat) (p : Qp) : (State.startPromote s q p).firm = s.firm := by
  simp only [State.startPromote]; (repeat' split) <;> first | rfl | (simp [apply_ite State.firm, firm_foldl]; done) | (simp_all [apply_ite State.firm, firm_foldl]; done)

@[simp] theorem firm_startDemote (s : State) (q : Nat) : (State.startDemote s q).firm = s.firm := by
  simp only [State.startDemote]; (repeat' split) <;> first | rfl | (simp [apply_ite State.firm, firm_foldl]; done) | (simp_all [apply_ite State.firm, firm_foldl]; done)

@[simp] theorem firm_moveFlow (s : State) (k : Nat) (f : TxFlow) (sl : Sleeve) : (State.moveFlow s k f sl).firm = s.firm := by
  simp only [State.moveFlow]; (repeat' split) <;> first | rfl | (simp [apply_ite State.firm, firm_foldl]; done) | (simp_all [apply_ite State.firm, firm_foldl]; done)

@[simp] theorem firm_endHolds (s : State) : (State.endHolds s).firm = s.firm := by
  simp only [State.endHolds]; (repeat' split) <;> first | rfl | (simp [apply_ite State.firm, firm_foldl]; done) | (simp_all [apply_ite State.firm, firm_foldl]; done)

@[simp] theorem firm_planStep (n : Nat) (s : State) : (State.planStep n s).firm = s.firm := by
  induction n generalizing s with
  | zero => rfl
  | succ n ih => simp only [State.planStep]; (repeat' split) <;> simp [ih]
@[simp] theorem firm_planOn (s : State) : (State.planOn s).firm = s.firm := by
  unfold State.planOn; split <;> simp
@[simp] theorem firm_balance (n : Nat) (s : State) : (State.balance n s).firm = s.firm := by
  induction n generalizing s with
  | zero => rfl
  | succ n ih => simp only [State.balance]; (repeat' split) <;> simp [ih]
@[simp] theorem firm_flowMoves (l : List (Nat × TxFlow)) (n : Nat) (s : State) : (State.flowMoves l n s).firm = s.firm := by
  induction l generalizing n s with
  | nil => rfl
  | cons p r ih => simp only [State.flowMoves]; (repeat' split) <;> simp [ih]
@[simp] theorem firm_residence (l : List (Nat × Qp)) (k n : Nat) (s : State) : (State.residence l k n s).2.firm = s.firm := by
  induction l generalizing k n s with
  | nil => rfl
  | cons p r ih =>
    cases n with
    | zero => rfl
    | succ n => simp only [State.residence]; (repeat' split) <;> simp [ih]

@[simp] theorem firm_ltrLow (s : State) : (State.ltrLow s).firm = s.firm := by
  simp only [State.ltrLow]; (repeat' split) <;> first | rfl | (simp [apply_ite State.firm, firm_foldl]; done) | (simp_all [apply_ite State.firm, firm_foldl]; done)

@[simp] theorem firm_placeEpoch (s : State) : (State.placeEpoch s).firm = s.firm := by
  unfold State.placeEpoch
  split
  · rfl
  · extract_lets s1 n x before s2 left s3 s4
    have e1 : s1.firm = s.firm := by simp [s1]
    have ex : x.2.firm = s.firm := by simp only [x]; split <;> simp [e1]
    have e3 : s3.firm = s.firm := by simp [s3, s2, ex]
    have e4 : s4.firm = s.firm := by
      refine (firm_foldl (fun s g => ?_) _ _).trans e3
      rw [firm_kickGroup]
      exact firm_foldl (fun s a => by simp) _ _
    simp [e4]

@[simp] theorem firm_abandon (q : Nat) (s : State) : (State.abandon q s).firm = s.firm := by
  simp only [State.abandon]; (repeat' split) <;> first | rfl | (simp [apply_ite State.firm, firm_foldl]; done) | (simp_all [apply_ite State.firm, firm_foldl]; done)

@[simp] theorem firm_migrate (q ns : Nat) (s : State) : (State.migrate q ns s).firm = s.firm := by
  simp only [State.migrate]; (repeat' split) <;> first | rfl | (simp [apply_ite State.firm, firm_foldl]; done) | (simp_all [apply_ite State.firm, firm_foldl]; done)

@[simp] theorem firm_readGone (s : State) (q : Nat) : (State.readGone s q).firm = s.firm := by
  simp only [State.readGone]; (repeat' split) <;> first | rfl | (simp [apply_ite State.firm, firm_foldl]; done) | (simp_all [apply_ite State.firm, firm_foldl]; done)

@[simp] theorem firm_recordLost (s : State) (q : Nat) (p : Qp) : (State.recordLost s q p).firm = s.firm := by
  simp only [State.recordLost]; (repeat' split) <;> first | rfl | (simp [apply_ite State.firm, firm_foldl]; done) | (simp_all [apply_ite State.firm, firm_foldl]; done)

@[simp] theorem firm_spillLoaded (q : Nat) (o : SpillOutcome) (s : State) : (State.spillLoaded q o s).firm = s.firm := by
  unfold State.spillLoaded
  split
  · rfl
  · split
    · rfl
    · split
      · split
        · rfl
        · split
          · rw [firm_modQp, firm_modPlc, firm_spillCharge]
          · rw [firm_startUnits, firm_fetch, firm_deliverHeld, firm_applyKept, firm_modQp, firm_spillCharge]
      · split <;> simp
      · simp
      · simp

@[simp] theorem firm_writeBack (q : Nat) (s : State) : (State.writeBack q s).firm = s.firm := by
  simp only [State.writeBack]; (repeat' split) <;> first | rfl | (simp [apply_ite State.firm, firm_foldl]; done) | (simp_all [apply_ite State.firm, firm_foldl]; done)

@[simp] theorem firm_modEl (s : State) (g : El → El) : (State.modEl s g).firm = s.firm := by
  simp only [State.modEl]; (repeat' split) <;> first | rfl | (simp [apply_ite State.firm, firm_foldl]; done) | (simp_all [apply_ite State.firm, firm_foldl]; done)

@[simp] theorem firm_thresholdFn (s : State) (fn : Nat) : (State.thresholdFn s fn).firm = s.firm := by
  simp only [State.thresholdFn]; (repeat' split) <;> first | rfl | (simp [apply_ite State.firm, firm_foldl]; done) | (simp_all [apply_ite State.firm, firm_foldl]; done)

@[simp] theorem firm_pauseFn (s : State) (fn : Nat) : (State.pauseFn s fn).firm = s.firm := by
  simp only [State.pauseFn]; (repeat' split) <;> first | rfl | (simp [apply_ite State.firm, firm_foldl]; done) | (simp_all [apply_ite State.firm, firm_foldl]; done)

@[simp] theorem firm_thresholdSet (s : State) (fn q : Nat) : (State.thresholdSet s fn q).firm = s.firm := by
  simp only [State.thresholdSet]; (repeat' split) <;> first | rfl | (simp [apply_ite State.firm, firm_foldl]; done) | (simp_all [apply_ite State.firm, firm_foldl]; done)

@[simp] theorem firm_pauseSet (s : State) (fn q : Nat) : (State.pauseSet s fn q).firm = s.firm := by
  simp only [State.pauseSet]; (repeat' split) <;> first | rfl | (simp [apply_ite State.firm, firm_foldl]; done) | (simp_all [apply_ite State.firm, firm_foldl]; done)

@[simp] theorem firm_comparePause (fn : Nat) (qset : Option Nat) (s : State) : (State.comparePause fn qset s).firm = s.firm := by
  simp only [State.comparePause]; (repeat' split) <;> first | rfl | (simp [apply_ite State.firm, firm_foldl]; done) | (simp_all [apply_ite State.firm, firm_foldl]; done)

@[simp] theorem firm_resumeAll (s : State) : (State.resumeAll s).firm = s.firm := by
  simp only [State.resumeAll]; (repeat' split) <;> first | rfl | (simp [apply_ite State.firm, firm_foldl]; done) | (simp_all [apply_ite State.firm, firm_foldl]; done)

@[simp] theorem firm_windowTurn (s : State) : (State.windowTurn s).firm = s.firm := by
  simp only [State.windowTurn]; (repeat' split) <;> first | rfl | (simp [apply_ite State.firm, firm_foldl]; done) | (simp_all [apply_ite State.firm, firm_foldl]; done)

@[simp] theorem firm_shareRail (l : List Nat) (e : Nat) (s : State) : (s.shareRail l e).firm = s.firm := by
  induction l generalizing e s with
  | nil => rfl
  | cons d r ih =>
    cases r with
    | nil => simp [State.shareRail]
    | cons d' r => simp only [State.shareRail, ih]; simp
@[simp] theorem firm_closeRail (rails : List Nat) (s : State) (r : Nat) : (State.closeRail rails s r).firm = s.firm := by
  simp only [State.closeRail, firm_shareRail]
  rfl

@[simp] theorem firm_closeUnsampled (s : State) : (State.closeUnsampled s).firm = s.firm := by
  simp only [State.closeUnsampled]; (repeat' split) <;> first | rfl | (simp [apply_ite State.firm, firm_foldl]; done) | (simp_all [apply_ite State.firm, firm_foldl]; done)

@[simp] theorem firm_closeDevice (s : State) (e : Nat) : (State.closeDevice s e).firm = s.firm := by
  simp only [State.closeDevice]; (repeat' split) <;> first | rfl | (simp [apply_ite State.firm, firm_foldl]; done) | (simp_all [apply_ite State.firm, firm_foldl]; done)

@[simp] theorem firm_applyCoef (s : State) : (State.applyCoef s).firm = s.firm := by
  simp only [State.applyCoef]; (repeat' split) <;> first | rfl | (simp [apply_ite State.firm, firm_foldl]; done) | (simp_all [apply_ite State.firm, firm_foldl]; done)

@[simp] theorem firm_leadSleeve (s : State) (sl : Sleeve) (n : Nat) : (State.leadSleeve s sl n).firm = s.firm := by
  simp only [State.leadSleeve]; (repeat' split) <;> first | rfl | (simp [apply_ite State.firm, firm_foldl]; done) | (simp_all [apply_ite State.firm, firm_foldl]; done)

@[simp] theorem firm_leadHost (s : State) (n : Nat) : (State.leadHost s n).firm = s.firm := by
  simp only [State.leadHost]; (repeat' split) <;> first | rfl | (simp [apply_ite State.firm, firm_foldl]; done) | (simp_all [apply_ite State.firm, firm_foldl]; done)

@[simp] theorem firm_setLevers (s : State) (l : Levers) : (State.setLevers s l).firm = s.firm := by
  simp only [State.setLevers]; (repeat' split) <;> first | rfl | (simp [apply_ite State.firm, firm_foldl]; done) | (simp_all [apply_ite State.firm, firm_foldl]; done)

@[simp] theorem firm_plan (s : State) : (State.plan s).firm = s.firm := by
  simp only [State.plan]; (repeat' split) <;> first | rfl | (simp [apply_ite State.firm, firm_foldl]; done) | (simp_all [apply_ite State.firm, firm_foldl]; done)

@[simp] theorem firm_closeRails (rails : List Nat) (s : State) : (State.closeRails rails s).firm = s.firm := by
  unfold State.closeRails
  split
  · exact firm_foldl (fun s r => firm_closeRail rails s r) _ _
  · exact Eq.refl _

@[simp] theorem firm_planEpoch (rails : List Nat) (s : State) : (State.planEpoch rails s).firm = s.firm := by
  simp only [State.planEpoch]; (repeat' split) <;> first | rfl | (simp [apply_ite State.firm, firm_foldl]; done) | (simp_all [apply_ite State.firm, firm_foldl]; done)

@[simp] theorem firm_shedIn (sl : Sleeve) (sub : Nat) (mask : Byte) (s : State) : (State.shedIn sl sub mask s).firm = s.firm := by
  simp only [State.shedIn]; (repeat' split) <;> first | rfl | (simp [apply_ite State.firm, firm_foldl]; done) | (simp_all [apply_ite State.firm, firm_foldl]; done)

@[simp] theorem firm_quietIn (sl : Sleeve) (sub : Nat) (s : State) : (State.quietIn sl sub s).firm = s.firm := by
  simp only [State.quietIn]; (repeat' split) <;> first | rfl | (simp [apply_ite State.firm, firm_foldl]; done) | (simp_all [apply_ite State.firm, firm_foldl]; done)

@[simp] theorem firm_bypassIn (sl : Sleeve) (b : Bytes) (s : State) : (State.bypassIn sl b s).firm = s.firm := by
  simp only [State.bypassIn]; (repeat' split) <;> first | rfl | (simp [apply_ite State.firm, firm_foldl]; done) | (simp_all [apply_ite State.firm, firm_foldl]; done)

@[simp] theorem firm_payloadIn (sl : Sleeve) (kind : Nat) (d : Bytes) (s : State) : (State.payloadIn sl kind d s).firm = s.firm := by
  simp only [State.payloadIn]; (repeat' split) <;> first | rfl | (simp [apply_ite State.firm, firm_foldl]; done) | (simp_all [apply_ite State.firm, firm_foldl]; done)

@[simp] theorem firm_deliverFlit (sl : Sleeve) (flit payload : Bytes) (s : State) : (State.deliverFlit sl flit payload s).firm = s.firm := by
  simp only [State.deliverFlit]; (repeat' split) <;> first | rfl | (simp [apply_ite State.firm, firm_foldl]; done) | (simp_all [apply_ite State.firm, firm_foldl]; done)

@[simp] theorem firm_deliverGroup (sl : Sleeve) (ss : List Bytes) (k c : Nat) (l : List Bytes) (s : State) :
    (State.deliverGroup sl ss k c l s).firm = s.firm := by
  induction l generalizing c s with
  | nil => rfl
  | cons f r ih => simp [State.deliverGroup, ih]
@[simp] theorem firm_groupIn (sl : Sleeve) (s : State) : (State.groupIn sl s).firm = s.firm := by
  simp [State.groupIn]

@[simp] theorem firm_flitTake (sl : Sleeve) (flit : Bytes) (s : State) : (State.flitTake sl flit s).firm = s.firm := by
  simp only [State.flitTake]; (repeat' split) <;> first | rfl | (simp [apply_ite State.firm, firm_foldl]; done) | (simp_all [apply_ite State.firm, firm_foldl]; done)

@[simp] theorem firm_flitSeq (sl : Sleeve) (flit : Bytes) (s : State) : (State.flitSeq sl flit s).firm = s.firm := by
  simp only [State.flitSeq]; (repeat' split) <;> first | rfl | (simp [apply_ite State.firm, firm_foldl]; done) | (simp_all [apply_ite State.firm, firm_foldl]; done)

@[simp] theorem firm_fecIn (sl : Sleeve) (corrected : List Nat) (s : State) : (State.fecIn sl corrected s).firm = s.firm := by
  simp only [State.fecIn]; (repeat' split) <;> first | rfl | (simp [apply_ite State.firm, firm_foldl]; done) | (simp_all [apply_ite State.firm, firm_foldl]; done)

@[simp] theorem firm_idleIn (sl : Sleeve) (body : Bytes) (s : State) : (State.idleIn sl body s).firm = s.firm := by
  simp only [State.idleIn]; (repeat' split) <;> first | rfl | (simp [apply_ite State.firm, firm_foldl]; done) | (simp_all [apply_ite State.firm, firm_foldl]; done)

@[simp] theorem firm_flitAnswer (sl : Sleeve) (before : Slv) (s : State) : (State.flitAnswer sl before s).firm = s.firm := by
  simp only [State.flitAnswer]; (repeat' split) <;> first | rfl | (simp [apply_ite State.firm, firm_foldl]; done) | (simp_all [apply_ite State.firm, firm_foldl]; done)

@[simp] theorem firm_flitIn (sl : Sleeve) (fec : FecResult) (flit : Bytes) (s : State) : (State.flitIn sl fec flit s).firm = s.firm := by
  simp only [State.flitIn]; (repeat' split) <;> first | rfl | (simp [apply_ite State.firm, firm_foldl]; done) | (simp_all [apply_ite State.firm, firm_foldl]; done)

@[simp] theorem firm_macIn (sl : Sleeve) (verified : Bool) (s : State) : (State.macIn sl verified s).firm = s.firm := by
  simp only [State.macIn]; (repeat' split) <;> first | rfl | (simp [apply_ite State.firm, firm_foldl]; done) | (simp_all [apply_ite State.firm, firm_foldl]; done)

@[simp] theorem firm_fwSay (s : State) (b : Binding) (cmd cc : Nat) (data : Bytes) : (State.fwSay s b cmd cc data).firm = s.firm := by
  simp only [State.fwSay]; (repeat' split) <;> first | rfl | (simp [apply_ite State.firm, firm_foldl]; done) | (simp_all [apply_ite State.firm, firm_foldl]; done)

@[simp] theorem firm_fwAsk (s : State) (cmd : Nat) (data : Bytes) : (State.fwAsk s cmd data).firm = s.firm := by
  simp only [State.fwAsk]; (repeat' split) <;> first | rfl | (simp [apply_ite State.firm, firm_foldl]; done) | (simp_all [apply_ite State.firm, firm_foldl]; done)

@[simp] theorem firm_modSession (s : State) (f : Session → Session) : (State.modSession s f).firm = s.firm := by
  simp only [State.modSession]; (repeat' split) <;> first | rfl | (simp [apply_ite State.firm, firm_foldl]; done) | (simp_all [apply_ite State.firm, firm_foldl]; done)

@[simp] theorem firm_updateAsked (b : Binding) (maxTransfer : Nat) (s : State) : (State.updateAsked b maxTransfer s).firm = s.firm := by
  simp only [State.updateAsked]; (repeat' split) <;> first | rfl | (simp [apply_ite State.firm, firm_foldl]; done) | (simp_all [apply_ite State.firm, firm_foldl]; done)

@[simp] theorem firm_tablePassed (b : Binding) (comp : Nat) (s : State) : (State.tablePassed b comp s).firm = s.firm := by
  simp only [State.tablePassed]; (repeat' split) <;> first | rfl | (simp [apply_ite State.firm, firm_foldl]; done) | (simp_all [apply_ite State.firm, firm_foldl]; done)

@[simp] theorem firm_pullNext (s : State) : (State.pullNext s).firm = s.firm := by
  simp only [State.pullNext]; (repeat' split) <;> first | rfl | (simp [apply_ite State.firm, firm_foldl]; done) | (simp_all [apply_ite State.firm, firm_foldl]; done)

@[simp] theorem firm_componentNamed (b : Binding) (comp size : Nat) (s : State) :
    (State.componentNamed b comp size s).firm = s.firm := by
  unfold State.componentNamed
  repeat' split
  all_goals (simp; try rfl)

@[simp] theorem firm_imagePiece (off : Nat) (data : Bytes) (flashOk : Bool) (s : State) : (State.imagePiece off data flashOk s).firm = s.firm := by
  simp only [State.imagePiece]; (repeat' split) <;> first | rfl | (simp [apply_ite State.firm, firm_foldl]; done) | (simp_all [apply_ite State.firm, firm_foldl]; done)

@[simp] theorem firm_transferEnd (s : State) : (State.transferEnd s).firm = s.firm := by
  simp only [State.transferEnd]; (repeat' split) <;> first | rfl | (simp [apply_ite State.firm, firm_foldl]; done) | (simp_all [apply_ite State.firm, firm_foldl]; done)

@[simp] theorem firm_activateAsked (b : Binding) (s : State) : (State.activateAsked b s).firm = s.firm := by
  simp only [State.activateAsked]; (repeat' split) <;> first | rfl | (simp [apply_ite State.firm, firm_foldl]; done) | (simp_all [apply_ite State.firm, firm_foldl]; done)

@[simp] theorem firm_sessionCancel (s : State) : (State.sessionCancel s).firm = s.firm := by
  simp only [State.sessionCancel]; (repeat' split) <;> first | rfl | (simp [apply_ite State.firm, firm_foldl]; done) | (simp_all [apply_ite State.firm, firm_foldl]; done)

@[simp] theorem firm_cancelAsked (b : Binding) (cmd : Nat) (data : Bytes) (s : State) : (State.cancelAsked b cmd data s).firm = s.firm := by
  simp only [State.cancelAsked]; (repeat' split) <;> first | rfl | (simp [apply_ite State.firm, firm_foldl]; done) | (simp_all [apply_ite State.firm, firm_foldl]; done)

@[simp] theorem firm_unknownOp (s : State) (fn code : Nat) (r : Request) : (State.unknownOp s fn code r).firm = s.firm := by
  simp only [State.unknownOp]; (repeat' split) <;> first | rfl | (simp [apply_ite State.firm, firm_foldl]; done) | (simp_all [apply_ite State.firm, firm_foldl]; done)

@[simp] theorem firm_reqWrite (s : State) (fn i : Nat) (d : Bytes) : (State.reqWrite s fn i d).firm = s.firm := by
  simp only [State.reqWrite]; (repeat' split) <;> first | rfl | (simp [apply_ite State.firm, firm_foldl]; done) | (simp_all [apply_ite State.firm, firm_foldl]; done)

@[simp] theorem firm_evqBase (s : State) (fn : Nat) (v : W64) : (State.evqBase s fn v).firm = s.firm := by
  simp only [State.evqBase]; (repeat' split) <;> first | rfl | (simp [apply_ite State.firm, firm_foldl]; done) | (simp_all [apply_ite State.firm, firm_foldl]; done)

@[simp] theorem firm_entryWrite (s : State) (a : Arb) (i : Nat) (v : W32) : (State.entryWrite s a i v).firm = s.firm := by
  simp only [State.entryWrite]; (repeat' split) <;> first | rfl | (simp [apply_ite State.firm, firm_foldl]; done) | (simp_all [apply_ite State.firm, firm_foldl]; done)

@[simp] theorem firm_starvedClear (s : State) (v : W32) : (State.starvedClear s v).firm = s.firm := by
  simp only [State.starvedClear]; (repeat' split) <;> first | rfl | (simp [apply_ite State.firm, firm_foldl]; done) | (simp_all [apply_ite State.firm, firm_foldl]; done)

@[simp] theorem firm_stickyClear (s : State) (w : Nat) (v : W32) : (State.stickyClear s w v).firm = s.firm := by
  simp only [State.stickyClear]; (repeat' split) <;> first | rfl | (simp [apply_ite State.firm, firm_foldl]; done) | (simp_all [apply_ite State.firm, firm_foldl]; done)

@[simp] theorem firm_errCtrl (s : State) (v : W32) : (State.errCtrl s v).firm = s.firm := by
  simp only [State.errCtrl]; (repeat' split) <;> first | rfl | (simp [apply_ite State.firm, firm_foldl]; done) | (simp_all [apply_ite State.firm, firm_foldl]; done)

@[simp] theorem firm_delays (s : State) (v : W32) : (State.delays s v).firm = s.firm := by
  simp only [State.delays]; (repeat' split) <;> first | rfl | (simp [apply_ite State.firm, firm_foldl]; done) | (simp_all [apply_ite State.firm, firm_foldl]; done)

@[simp] theorem firm_tpCtrl (s : State) (v : W32) : (State.tpCtrl s v).firm = s.firm := by
  simp only [State.tpCtrl]; (repeat' split) <;> first | rfl | (simp [apply_ite State.firm, firm_foldl]; done) | (simp_all [apply_ite State.firm, firm_foldl]; done)

@[simp] theorem firm_slvCtrl (s : State) (sl : Sleeve) (v : W32) : (State.slvCtrl s sl v).firm = s.firm := by
  simp only [State.slvCtrl]; (repeat' split) <;> first | rfl | (simp [apply_ite State.firm, firm_foldl]; done) | (simp_all [apply_ite State.firm, firm_foldl]; done)

@[simp] theorem firm_slvReg (s : State) (sl : Sleeve) (off : Nat) (v : W32) : (State.slvReg s sl off v).firm = s.firm := by
  simp only [State.slvReg]; (repeat' split) <;> first | rfl | (simp [apply_ite State.firm, firm_foldl]; done) | (simp_all [apply_ite State.firm, firm_foldl]; done)

@[simp] theorem firm_bltCtrl (s : State) (v : W32) : (State.bltCtrl s v).firm = s.firm := by
  simp only [State.bltCtrl]; (repeat' split) <;> first | rfl | (simp [apply_ite State.firm, firm_foldl]; done) | (simp_all [apply_ite State.firm, firm_foldl]; done)

@[simp] theorem firm_ageCtrl (s : State) (v : W32) : (State.ageCtrl s v).firm = s.firm := by
  simp only [State.ageCtrl]; (repeat' split) <;> first | rfl | (simp [apply_ite State.firm, firm_foldl]; done) | (simp_all [apply_ite State.firm, firm_foldl]; done)

@[simp] theorem firm_regHigh (s : State) (off : Nat) (v : W32) : (State.regHigh s off v).firm = s.firm := by
  unfold State.regHigh
  dsimp only
  split
  case h_3 => simp only [firm_tpCtrl]
  case h_5 => simp only [firm_bltCtrl]
  case h_6 => simp only [firm_modBelt]
  case h_9 => simp only [firm_ageCtrl]
  case h_10 =>
    split
    · exact firm_slvReg ..
    · split
      · exact firm_slvReg ..
      · exact Eq.refl _
  case h_8 =>
    split
    · simp only [firm_modLin]
    · exact Eq.refl _
  all_goals
    split
    · exact firm_mk ..
    · exact Eq.refl _

@[simp] theorem firm_bhCtrl (s : State) (v : W32) : (State.bhCtrl s v).firm = s.firm := by
  simp only [State.bhCtrl]; (repeat' split) <;> first | rfl | (simp [apply_ite State.firm, firm_foldl]; done) | (simp_all [apply_ite State.firm, firm_foldl]; done)

@[simp] theorem firm_regPf1 (s : State) (off : Nat) (v : W32) : (State.regPf1 s off v).firm = s.firm := by
  simp only [State.regPf1]; (repeat' split) <;> first | rfl | (simp [apply_ite State.firm, firm_foldl]; done) | (simp_all [apply_ite State.firm, firm_foldl]; done)

@[simp] theorem firm_regVf (s : State) (fn off : Nat) (v : W32) : (State.regVf s fn off v).firm = s.firm := by
  simp only [State.regVf]; (repeat' split) <;> first | rfl | (simp [apply_ite State.firm, firm_foldl]; done) | (simp_all [apply_ite State.firm, firm_foldl]; done)

@[simp] theorem firm_bellWrite (s : State) (fn off size : Nat) (v : W64) : (State.bellWrite s fn off size v).firm = s.firm := by
  simp only [State.bellWrite]; (repeat' split) <;> first | rfl | (simp [apply_ite State.firm, firm_foldl]; done) | (simp_all [apply_ite State.firm, firm_foldl]; done)

@[simp] theorem firm_bar2Write (fn off size : Nat) (v : W64) (s : State) : (State.bar2Write fn off size v s).firm = s.firm := by
  simp only [State.bar2Write]; (repeat' split) <;> first | rfl | (simp [apply_ite State.firm, firm_foldl]; done) | (simp_all [apply_ite State.firm, firm_foldl]; done)

@[simp] theorem firm_withFetchWord (s : State) (nbits w : Nat) : (State.withFetchWord s nbits w).firm = s.firm := by
  simp only [State.withFetchWord]; (repeat' split) <;> first | rfl | (simp [apply_ite State.firm, firm_foldl]; done) | (simp_all [apply_ite State.firm, firm_foldl]; done)

@[simp] theorem firm_after (was own : State) : (was.after own).firm = own.firm := firm_of_lasting (lasts_after was own)

@[simp] theorem firm_registerRead (fn off len : Nat) (s : State) : (State.registerRead fn off len s).firm = s.firm := by
  simp only [State.registerRead]; (repeat' split) <;> first | rfl | (simp [apply_ite State.firm, firm_foldl]; done) | (simp_all [apply_ite State.firm, firm_foldl]; done)

@[simp] theorem firm_romRead (off len : Nat) (s : State) : (State.romRead off len s).firm = s.firm := by
  simp only [State.romRead]; (repeat' split) <;> first | rfl | (simp [apply_ite State.firm, firm_foldl]; done) | (simp_all [apply_ite State.firm, firm_foldl]; done)


end Sys2Proof.Machine
end

