-- ==== Sys2Proof/Laws/Outcome.lean ====
section
/-! SUPPORT. How a command comes to a next state, a request at a Pocket, its response, and what both
leave unchanged. -/
namespace Sys2Proof.Machine

/-! ## Commands -/

/-- A command answers the state after its effect. -/
theorem command_next (s : State) (f : State → State) : command f s = .next (s.after (f s)) := rfl

theorem completes_command {c : Instr} {s : State} {f : State → State} {P : State → Prop} (hc : exec c s = command f s)
    (h : P (f s)) : Completes c s P := ⟨f s, by rw [hc, command_next], h⟩

theorem answers_command {c : Instr} {s : State} {f : State → State} {P : State → Prop} (hc : exec c s = command f s)
    (h : P (s.after (f s))) : Answers c s P := ⟨_, by rw [hc, command_next], h⟩

/-! ## Reading functions back -/

@[simp] theorem fn_setFn (s : State) (n k : Nat) (f : Fn) : (s.setFn n f).fn k = if k = n then f else s.fn k := by
  simp only [State.fn, State.setFn, tget_tput]
  by_cases h : k = n <;> simp [h]

@[simp] theorem fn_modFn (s : State) (n k : Nat) (g : Fn → Fn) :
    (s.modFn n g).fn k = if k = n then g (s.fn n) else s.fn k := fn_setFn s n k _

@[simp] theorem fn_modPocket (s : State) (n k : Nat) (g : Pocket → Pocket) :
    (s.modPocket n g).fn k = if k = n then { s.fn n with pocket := g (s.fn n).pocket } else s.fn k := fn_modFn s n k _

/-! ## Beside -/

theorem Beside.refl (fn : Nat) (s : State) : Beside fn s s := ⟨rfl, fun _ _ => rfl, rfl, rfl⟩

theorem Beside.trans {fn : Nat} {a b c : State} (h : Beside fn a b) (k : Beside fn b c) : Beside fn a c := by
  refine ⟨?_, fun n hn => (h.others n hn).trans (k.others n hn), ?_, ?_⟩
  · have h1 := h.rest
    rw [k.rest] at h1
    exact h1
  · have h1 := h.caller
    rw [k.caller] at h1
    exact h1
  · have h1 := h.pocket
    rw [k.pocket] at h1
    exact h1

/-- The same change of other parts of the state on both sides. -/
theorem Beside.upd {fn : Nat} {t u : State} (h : Beside fn t u) (F : State → State) (hf : ∀ x, (F x).fns = x.fns)
    (hF : ∀ (x : State) (a : Table Fn) (b : Table Nat) (c : List HItem) (d : Nat),
      F { x with fns := a, el := { x.el with epochCharge := b }, hostq := c, stamp := d } =
        { F x with fns := a, el := { (F x).el with epochCharge := b }, hostq := c, stamp := d }) :
    Beside fn (F t) (F u) := by
  have hn : ∀ (x : State) n, (F x).fn n = x.fn n := fun x n => by simp [State.fn, hf]
  have e : F t = { F u with fns := t.fns, el := { (F u).el with epochCharge := t.el.epochCharge }, hostq := t.hostq,
                            stamp := t.stamp } := (congrArg F h.rest).trans (hF u _ _ _ _)
  refine ⟨?_, fun n hk => ?_, ?_, ?_⟩
  · have h1 : (F t).fns = t.fns := hf t
    have h2 : (F t).el.epochCharge = t.el.epochCharge := by rw [e]
    have h3 : (F t).hostq = t.hostq := by rw [e]
    have h4 : (F t).stamp = t.stamp := by rw [e]
    rw [h1, h2, h3, h4]
    exact e
  · rw [hn, hn]; exact h.others n hk
  · rw [hn, hn]; exact h.caller
  · rw [hn, hn]; exact h.pocket

/-- The same change of a function on both sides. -/
theorem Beside.modFn {fn : Nat} {t u : State} (h : Beside fn t u) (k : Nat) (g : Fn → Fn)
    (hg : ∀ (f : Fn) (p : Pocket) (c d : Nat),
      g { f with pocket := p, consumed := c, total := d } = { g f with pocket := p, consumed := c, total := d })
    (hp : ∀ f, (g f).pocket = f.pocket) (hc : ∀ f, (g f).consumed = f.consumed) (hd : ∀ f, (g f).total = f.total) :
    Beside fn (t.modFn k g) (u.modFn k g) := by
  refine ⟨?_, fun n hn => ?_, ?_, ?_⟩
  · have := h.rest
    simp only [State.modFn, State.setFn]
    generalize t.fn k = a, u.fn k = b
    rw [this]
  · simp only [fn_modFn]
    by_cases e : n = k
    · subst e; simp [h.others _ hn]
    · simp [e, h.others _ hn]
  · simp only [fn_modFn]
    by_cases e : fn = k
    · subst e
      simp only [if_true, hp, hc, hd]
      exact (congrArg g h.caller).trans (hg _ _ _ _)
    · simp only [if_neg e]; exact h.caller
  · simp only [fn_modFn]
    by_cases e : fn = k
    · subst e; simp only [if_true, hp]; exact h.pocket
    · simp only [if_neg e]; exact h.pocket

/-- Changes of the Pocket that Beside allows. -/
theorem Beside.modPocket (s : State) (fn : Nat) (g : Pocket → Pocket)
    (h : g (s.fn fn).pocket = { (s.fn fn).pocket with
      state := (g (s.fn fn).pocket).state, token := (g (s.fn fn).pocket).token, drop := (g (s.fn fn).pocket).drop,
      req := (g (s.fn fn).pocket).req, rsp := (g (s.fn fn).pocket).rsp, longs := (g (s.fn fn).pocket).longs,
      held := (g (s.fn fn).pocket).held, ovf := (g (s.fn fn).pocket).ovf, lost := (g (s.fn fn).pocket).lost,
      lostNow := (g (s.fn fn).pocket).lostNow, lostTime := (g (s.fn fn).pocket).lostTime }) :
    Beside fn (s.modPocket fn g) s := by
  refine ⟨rfl, fun n hn => by simp [hn], by simp, ?_⟩
  simpa using h

theorem Beside.charge (s : State) (fn idx n : Nat) : Beside fn (s.charge fn idx n) s := by
  unfold State.charge
  split
  · refine ⟨rfl, fun k hk => ?_, ?_, ?_⟩ <;> simp only [State.fn, State.modFn, State.setFn, tget_tput]
    · simp [hk]
    all_goals simp
  · exact .refl fn s

theorem Beside.event (s : State) (fn : Nat) (e : Event) (final : Bool) : Beside fn (s.event fn e final) s := by
  have h : Beside fn (s.modPocket fn fun p => { p with held := p.held ++ [{ ev := e, final := final, stamp := s.stamp }] }) s :=
    Beside.modPocket s fn _ rfl
  simp only [State.event]
  split
  · exact .refl fn s
  split
  · exact ⟨rfl, fun _ _ => rfl, rfl, rfl⟩
  split
  · exact Beside.modPocket s fn _ rfl
  · exact ⟨rfl, fun n hn => h.others n hn, h.caller, h.pocket⟩

theorem Beside.takeRequest (s : State) (o : OpInfo) (fn : Nat) (r : Request) : Beside fn (s.takeRequest o fn r) s :=
  (Beside.charge _ _ _ _).trans (Beside.modPocket s fn _ rfl)

theorem Beside.notify (s : State) (fn : Nat) (r : Request) (b : Bool) (st : Nat) : Beside fn (s.notify fn r b st) s := by
  unfold State.notify State.cmdFinal
  split
  · exact .event ..
  · exact .refl fn s

theorem Beside.respond (s : State) (fn code : Nat) (r : Request) (st : Nat) (d : Bytes) :
    Beside fn (s.respond fn code r st d) s := Beside.modPocket s fn _ rfl

/-! ## What taking a request leaves -/

section
variable (s : State) (o : OpInfo) (fn : Nat) (r : Request)
@[simp] theorem takeRequest_boot : (s.takeRequest o fn r).boot = s.boot := by rw [(Beside.takeRequest s o fn r).rest]
@[simp] theorem takeRequest_clk : (s.takeRequest o fn r).clk = s.clk := by rw [(Beside.takeRequest s o fn r).rest]
@[simp] theorem takeRequest_link : (s.takeRequest o fn r).link = s.link := by rw [(Beside.takeRequest s o fn r).rest]
@[simp] theorem takeRequest_prov : (s.takeRequest o fn r).prov = s.prov := by rw [(Beside.takeRequest s o fn r).rest]
@[simp] theorem takeRequest_qps : (s.takeRequest o fn r).qps = s.qps := by rw [(Beside.takeRequest s o fn r).rest]
@[simp] theorem takeRequest_units : (s.takeRequest o fn r).units = s.units := by rw [(Beside.takeRequest s o fn r).rest]
@[simp] theorem takeRequest_nextUnit : (s.takeRequest o fn r).nextUnit = s.nextUnit := by rw [(Beside.takeRequest s o fn r).rest]
@[simp] theorem takeRequest_tags : (s.takeRequest o fn r).tags = s.tags := by rw [(Beside.takeRequest s o fn r).rest]
@[simp] theorem takeRequest_waits : (s.takeRequest o fn r).waits = s.waits := by rw [(Beside.takeRequest s o fn r).rest]
@[simp] theorem takeRequest_win : (s.takeRequest o fn r).win = s.win := by rw [(Beside.takeRequest s o fn r).rest]
@[simp] theorem takeRequest_sti : (s.takeRequest o fn r).sti = s.sti := by rw [(Beside.takeRequest s o fn r).rest]
@[simp] theorem takeRequest_xlt : (s.takeRequest o fn r).xlt = s.xlt := by rw [(Beside.takeRequest s o fn r).rest]
@[simp] theorem takeRequest_plt : (s.takeRequest o fn r).plt = s.plt := by rw [(Beside.takeRequest s o fn r).rest]
@[simp] theorem takeRequest_slvA : (s.takeRequest o fn r).slvA = s.slvA := by rw [(Beside.takeRequest s o fn r).rest]
@[simp] theorem takeRequest_slvB : (s.takeRequest o fn r).slvB = s.slvB := by rw [(Beside.takeRequest s o fn r).rest]
@[simp] theorem takeRequest_tp : (s.takeRequest o fn r).tp = s.tp := by rw [(Beside.takeRequest s o fn r).rest]
@[simp] theorem takeRequest_belt : (s.takeRequest o fn r).belt = s.belt := by rw [(Beside.takeRequest s o fn r).rest]
@[simp] theorem takeRequest_plc : (s.takeRequest o fn r).plc = s.plc := by rw [(Beside.takeRequest s o fn r).rest]
@[simp] theorem takeRequest_pwr : (s.takeRequest o fn r).pwr = s.pwr := by rw [(Beside.takeRequest s o fn r).rest]
@[simp] theorem takeRequest_fc : (s.takeRequest o fn r).fc = s.fc := by rw [(Beside.takeRequest s o fn r).rest]
@[simp] theorem takeRequest_lin : (s.takeRequest o fn r).lin = s.lin := by rw [(Beside.takeRequest s o fn r).rest]
@[simp] theorem takeRequest_bh : (s.takeRequest o fn r).bh = s.bh := by rw [(Beside.takeRequest s o fn r).rest]
@[simp] theorem takeRequest_out : (s.takeRequest o fn r).out = s.out := by rw [(Beside.takeRequest s o fn r).rest]
@[simp] theorem takeRequest_freeIdx : (s.takeRequest o fn r).freeIdx = s.freeIdx := by rw [(Beside.takeRequest s o fn r).rest]
@[simp] theorem takeRequest_pending : (s.takeRequest o fn r).pending = s.pending := by rw [(Beside.takeRequest s o fn r).rest]
@[simp] theorem takeRequest_el_opCap : (s.takeRequest o fn r).el.opCap = s.el.opCap := by rw [(Beside.takeRequest s o fn r).rest]
@[simp] theorem takeRequest_el_opWindow : (s.takeRequest o fn r).el.opWindow = s.el.opWindow := by rw [(Beside.takeRequest s o fn r).rest]
@[simp] theorem takeRequest_el_pfCap : (s.takeRequest o fn r).el.pfCap = s.el.pfCap := by rw [(Beside.takeRequest s o fn r).rest]
@[simp] theorem takeRequest_el_pfWindow : (s.takeRequest o fn r).el.pfWindow = s.el.pfWindow := by rw [(Beside.takeRequest s o fn r).rest]
@[simp] theorem takeRequest_el_window : (s.takeRequest o fn r).el.window = s.el.window := by rw [(Beside.takeRequest s o fn r).rest]
@[simp] theorem takeRequest_el_windowAt : (s.takeRequest o fn r).el.windowAt = s.el.windowAt := by rw [(Beside.takeRequest s o fn r).rest]
@[simp] theorem takeRequest_el_reserve : (s.takeRequest o fn r).el.reserve = s.el.reserve := by rw [(Beside.takeRequest s o fn r).rest]
@[simp] theorem takeRequest_el_reserveForce : (s.takeRequest o fn r).el.reserveForce = s.el.reserveForce := by rw [(Beside.takeRequest s o fn r).rest]
@[simp] theorem takeRequest_el_borrowMax : (s.takeRequest o fn r).el.borrowMax = s.el.borrowMax := by rw [(Beside.takeRequest s o fn r).rest]
@[simp] theorem takeRequest_el_reserveLeft : (s.takeRequest o fn r).el.reserveLeft = s.el.reserveLeft := by rw [(Beside.takeRequest s o fn r).rest]
@[simp] theorem takeRequest_el_devWindow : (s.takeRequest o fn r).el.devWindow = s.el.devWindow := by rw [(Beside.takeRequest s o fn r).rest]
@[simp] theorem takeRequest_el_devTotal : (s.takeRequest o fn r).el.devTotal = s.el.devTotal := by rw [(Beside.takeRequest s o fn r).rest]
@[simp] theorem takeRequest_hostq : (s.takeRequest o fn r).hostq = s.hostq := by
  unfold State.takeRequest State.charge
  split <;> rfl
@[simp] theorem takeRequest_stamp : (s.takeRequest o fn r).stamp = s.stamp := by
  unfold State.takeRequest State.charge
  split <;> rfl
end

/-- Of a function, taking a request changes the caller's Pocket and charge alone. -/
theorem takeRequest_fn (s : State) (o : OpInfo) (fn : Nat) (r : Request) (k : Nat) :
    (s.takeRequest o fn r).fn k = { s.fn k with
      pocket := ((s.takeRequest o fn r).fn k).pocket, consumed := ((s.takeRequest o fn r).fn k).consumed,
      total := ((s.takeRequest o fn r).fn k).total } := by
  by_cases e : k = fn
  · subst e; exact (Beside.takeRequest s o k r).caller
  · rw [(Beside.takeRequest s o fn r).others k e]

section
variable (s : State) (o : OpInfo) (fn : Nat) (r : Request) (k : Nat)
@[simp] theorem takeRequest_fn_cfg : ((s.takeRequest o fn r).fn k).cfg = (s.fn k).cfg := by rw [takeRequest_fn]
@[simp] theorem takeRequest_fn_msix : ((s.takeRequest o fn r).fn k).msix = (s.fn k).msix := by rw [takeRequest_fn]
@[simp] theorem takeRequest_fn_pba : ((s.takeRequest o fn r).fn k).pba = (s.fn k).pba := by rw [takeRequest_fn]
@[simp] theorem takeRequest_fn_flr : ((s.takeRequest o fn r).fn k).flr = (s.fn k).flr := by rw [takeRequest_fn]
@[simp] theorem takeRequest_fn_qsets : ((s.takeRequest o fn r).fn k).qsets = (s.fn k).qsets := by rw [takeRequest_fn]
@[simp] theorem takeRequest_fn_lateCpl : ((s.takeRequest o fn r).fn k).lateCpl = (s.fn k).lateCpl := by rw [takeRequest_fn]
@[simp] theorem takeRequest_fn_orphanCpl : ((s.takeRequest o fn r).fn k).orphanCpl = (s.fn k).orphanCpl := by rw [takeRequest_fn]
@[simp] theorem takeRequest_fn_xltFaults : ((s.takeRequest o fn r).fn k).xltFaults = (s.fn k).xltFaults := by rw [takeRequest_fn]
@[simp] theorem takeRequest_fn_allowSet : ((s.takeRequest o fn r).fn k).allowSet = (s.fn k).allowSet := by rw [takeRequest_fn]
@[simp] theorem takeRequest_fn_allowance : ((s.takeRequest o fn r).fn k).allowance = (s.fn k).allowance := by rw [takeRequest_fn]
@[simp] theorem takeRequest_fn_borrowed : ((s.takeRequest o fn r).fn k).borrowed = (s.fn k).borrowed := by rw [takeRequest_fn]
@[simp] theorem takeRequest_fn_exempt : ((s.takeRequest o fn r).fn k).exempt = (s.fn k).exempt := by rw [takeRequest_fn]
@[simp] theorem takeRequest_fn_paused : ((s.takeRequest o fn r).fn k).paused = (s.fn k).paused := by rw [takeRequest_fn]
@[simp] theorem takeRequest_fn_thresholdSent : ((s.takeRequest o fn r).fn k).thresholdSent = (s.fn k).thresholdSent := by rw [takeRequest_fn]
@[simp] theorem takeRequest_fn_keyGen : ((s.takeRequest o fn r).fn k).keyGen = (s.fn k).keyGen := by rw [takeRequest_fn]
@[simp] theorem takeRequest_fn_generation : ((s.takeRequest o fn r).fn k).generation = (s.fn k).generation := by rw [takeRequest_fn]
@[simp] theorem takeRequest_fn_telemMask : ((s.takeRequest o fn r).fn k).telemMask = (s.fn k).telemMask := by rw [takeRequest_fn]
@[simp] theorem takeRequest_fn_telemInterval : ((s.takeRequest o fn r).fn k).telemInterval = (s.fn k).telemInterval := by rw [takeRequest_fn]
@[simp] theorem takeRequest_fn_telem : ((s.takeRequest o fn r).fn k).telem = (s.fn k).telem := by rw [takeRequest_fn]
@[simp] theorem takeRequest_fn_stitched : ((s.takeRequest o fn r).fn k).stitched = (s.fn k).stitched := by rw [takeRequest_fn]
@[simp] theorem takeRequest_fn_invQueue : ((s.takeRequest o fn r).fn k).invQueue = (s.fn k).invQueue := by rw [takeRequest_fn]
end

theorem charge_fn_pocket (s : State) (fn idx n k : Nat) : ((s.charge fn idx n).fn k).pocket = (s.fn k).pocket := by
  have h := Beside.charge s fn idx n
  by_cases hk : k = fn
  · subst hk
    unfold State.charge
    split
    · simp [State.fn, State.modFn, State.setFn]
    · rfl
  · rw [h.others k hk]

@[simp] theorem takeRequest_longs (s : State) (o : OpInfo) (fn : Nat) (r : Request) :
    ((s.takeRequest o fn r).fn fn).pocket.longs = (s.fn fn).pocket.longs := by
  simp [State.takeRequest, charge_fn_pocket]

@[simp] theorem takeRequest_token (s : State) (o : OpInfo) (fn : Nat) (r : Request) :
    ((s.takeRequest o fn r).fn fn).pocket.token = BitVec.ofNat 16 r.doorbell.toNat := by
  simp [State.takeRequest, charge_fn_pocket]

theorem event_pocket (s : State) (fn : Nat) (e : Event) (final : Bool) :
    ((s.event fn e final).fn fn).pocket.longs = (s.fn fn).pocket.longs ∧
      ((s.event fn e final).fn fn).pocket.token = (s.fn fn).pocket.token := by
  simp only [State.event]
  split
  · exact ⟨rfl, rfl⟩
  split
  · exact ⟨rfl, rfl⟩
  split
  · simp
  · constructor <;>
      simp [State.modPocket, State.modFn, State.setFn, State.fn]

theorem notify_pocket (s : State) (fn : Nat) (r : Request) (b : Bool) (st : Nat) :
    ((s.notify fn r b st).fn fn).pocket.longs = (s.fn fn).pocket.longs ∧
      ((s.notify fn r b st).fn fn).pocket.token = (s.fn fn).pocket.token := by
  unfold State.notify State.cmdFinal
  split
  · exact event_pocket ..
  · exact ⟨rfl, rfl⟩

/-- A test of every entry sees no difference where an entry is overwritten by one that tests the same. -/
theorem any_tput {α : Type} (t : Table α) (k : Nat) (v d : α) (p : Nat × α → Bool)
    (h : p (k, v) = p (k, (tget t k).getD d)) (hd : p (k, d) = false) : (tput t k v).any p = t.any p := by
  induction t with
  | nil => simpa [tput, tget, hd] using h
  | cons x r ih =>
    obtain ⟨k', v'⟩ := x
    have key : tget ((k', v') :: r) k = none ∨ ∃ w, tget ((k', v') :: r) k = some w ∧ (k, w) ∈ (k', v') :: r := by
      clear ih h
      induction (k', v') :: r with
      | nil => exact .inl rfl
      | cons y l il =>
        obtain ⟨a, b⟩ := y
        by_cases e : a = k
        · subst e; exact .inr ⟨b, by simp [tget], by simp⟩
        · rcases il with il | ⟨w, hw, hm⟩
          · exact .inl (by simp [tget, e, il])
          · exact .inr ⟨w, by simp [tget, e, hw], by simp [hm]⟩
    simp only [tput]
    split
    · rcases key with e | ⟨w, e, hm⟩
      · rw [e] at h; rw [List.any_cons, h]; simp [hd]
      · rw [e] at h
        rw [List.any_cons, h]
        cases hp : p (k, w)
        · simp [hp]
        · simp only [Option.getD_some, hp, Bool.true_or]
          exact (List.any_eq_true.2 ⟨_, hm, hp⟩).symm
    · split
      · subst_vars; simp [tget] at h; simp [h]
      · rename_i h1 h2
        have : tget ((k', v') :: r) k = tget r k := by simp [tget, Ne.symm h2]
        rw [this] at h
        simp [ih h]

/-- Taking a request leaves every test of the long commands outstanding. -/
theorem takeRequest_longs_any (s : State) (o : OpInfo) (fn : Nat) (r : Request) (p : LongCmd → Bool) :
    (s.takeRequest o fn r).allLongs.any p = s.allLongs.any p := by
  have hset : ∀ (s : State) (n : Nat) (f : Fn), f.pocket.longs = (s.fn n).pocket.longs →
      (s.setFn n f).allLongs.any p = s.allLongs.any p := by
    intro s n f hf
    have e : ∀ t : Table Fn, ((t.map fun x => x.2.pocket.longs).flatten).any p = t.any fun x => x.2.pocket.longs.any p := by
      intro t
      induction t with
      | nil => rfl
      | cons x r ih => simp [ih]
    simp only [State.allLongs, e, State.setFn]
    refine any_tput s.fns n f (Fn.init n) _ ?_ ?_
    · simp only [hf, State.fn]
    · simp [Fn.init, Pocket.init]
  have hch : ∀ (s : State) (i n : Nat), (s.charge fn i n).allLongs.any p = s.allLongs.any p := by
    intro s i n
    unfold State.charge
    split
    · exact hset s fn { s.fn fn with consumed := (s.fn fn).consumed + s.coef i * n,
                                     total := (s.fn fn).total + s.coef i * n } rfl
    · rfl
  exact (hch _ _ _).trans (hset s fn _ rfl)

/-! ## The wake of CTL -/

/-- A wake changes only the power domains. -/
theorem accessWake_eq (s : State) (d : Domain) : s.accessWake d = { s with pwr := (s.accessWake d).pwr } := by
  simp only [State.accessWake]
  split <;> rfl

theorem accessWake_prov (s : State) (d : Domain) : (s.accessWake d).prov = s.prov := by rw [accessWake_eq]
theorem accessWake_fn (s : State) (d : Domain) (n : Nat) : (s.accessWake d).fn n = s.fn n := by rw [accessWake_eq]; rfl

/-! ## A taken request -/

/-- A taken request runs its command on the state that has taken it, and the answer is carried out. -/
theorem request_taken {o : OpInfo} {fn : Nat} {r : Request} {s : State} (h : Taken o fn r s) (body : Body) :
    request o body fn r s = .next (s.after (((s.accessWake .ctl).takeRequest o fn r).answerReq o fn r
      (body fn (r.data) ((s.accessWake .ctl).takeRequest o fn r)))) := by
  have hj : ((s.accessWake .ctl).takeRequest o fn r).judge o body fn r = body fn (r.data) ((s.accessWake .ctl).takeRequest o fn r) := by
    have ht : ∀ vf, ((s.accessWake .ctl).takeRequest o fn r).tenant vf = s.tenant vf := fun vf => by simp [State.tenant, accessWake_prov]
    have h1 : ¬((isVf fn && (s.tenant (vfOf fn)).map (·.state) == some .wiping) && o.cls != 1 && o.cls != 0xF) = true := by
      intro hx
      simp only [Bool.and_eq_true, beq_iff_eq, bne_iff_ne] at hx
      rcases h.tenant hx.1.1.1 hx.1.1.2 with e | e
      · exact hx.1.2 e
      · exact hx.2 e
    have h2 : ¬(o.rsv.any fun x => leNat (slice x.1 x.2 (r.data)) != 0) = true := by
      simp only [List.any_eq_true, bne_iff_ne, not_exists, not_and]
      exact fun x hx => not_not_intro (h.reserved x hx)
    simp only [State.judge, ht]
    rw [if_neg h1, if_neg (by simp [h.length]), if_neg h2]
  have hn : ¬(decide ((s.fn fn).pocket.state = .working) || decide (r.doorbell.toNat ≥ 65536)) = true := by
    have := h.token
    simp only [Bool.or_eq_true, decide_eq_true_eq]
    exact fun hx => hx.elim h.idle (fun y => by omega)
  have hjal : State.jalid o body fn r s =
      ((s.accessWake .ctl).takeRequest o fn r).answerReq o fn r (body fn (r.data) ((s.accessWake .ctl).takeRequest o fn r)) := by
    rw [State.jalid, if_neg (by simp [h.served]), if_neg hn]
    simp only [h.checks, hj, if_true]
  rw [request, command_next, hjal]

theorem Taken.token_eq {o : OpInfo} {fn : Nat} {r : Request} {s : State} (h : Taken o fn r s) :
    BitVec.ofNat 16 r.doorbell.toNat = r.token := by
  have h1 := h.checks
  have h2 : s.headerOk fn r = true := by
    cases hx : s.headerOk fn r
    · simp [State.admitStatus, hx, stDone, stBadArgument] at h1
    · rfl
  have h3 : r.doorbell.toNat % 65536 = r.token.toNat := by
    simp only [State.headerOk, Bool.and_eq_true, beq_iff_eq] at h2
    exact h2.1.2
  apply BitVec.eq_of_toNat_eq
  simpa using h3

/-- The answer done: the payload, and the state of the command beside u. -/
theorem done_of {c : Instr} {o : OpInfo} {fn : Nat} {r : Request} {s : State} {body : Body} {d : Bytes} {t u : State}
    (h : Taken o fn r s) (hc : exec c s = request o body fn r s)
    (hb : body fn (r.data) ((s.accessWake .ctl).takeRequest o fn r) = .done d t) (hu : Beside fn t (u.accessWake .ctl))
    (hl : (t.fn fn).pocket.longs = (s.fn fn).pocket.longs)
    (ht : (t.fn fn).pocket.token = BitVec.ofNat 16 r.doorbell.toNat) : Done c o fn r s d u := by
  refine ⟨_, by rw [hc, request_taken h, hb]; rfl, ((Beside.respond ..).trans (Beside.notify ..)).trans hu, ?_, ?_, ?_, ?_⟩ <;>
    simp [State.respond, notify_pocket, hl, ht, h.token_eq]

/-- The answer done, by an operation. -/
theorem done_by {c : Instr} {o : OpInfo} {fn : Nat} {r : Request} {s : State} {body : Body} {d : State → Bytes}
    {f : State → State} (h : Taken o fn r s) (hc : exec c s = request o body fn r s)
    (hb : body fn r.data ((s.accessWake .ctl).takeRequest o fn r) =
      .done (d ((s.accessWake .ctl).takeRequest o fn r)) (f ((s.accessWake .ctl).takeRequest o fn r))) :
    DoneBy c o fn r s d f := by
  refine ⟨_, Beside.takeRequest _ o fn r, _, by rw [hc, request_taken h, hb]; rfl,
    (Beside.respond ..).trans (Beside.notify ..), ?_, ?_⟩ <;> simp [State.respond]

/-- The answer accepted, by an operation. -/
theorem accepted_by {c : Instr} {o : OpInfo} {fn : Nat} {r : Request} {s : State} {body : Body} {k : LongKind} {obj : Nat}
    {f : State → State} (h : Taken o fn r s) (hc : exec c s = request o body fn r s)
    (hb : body fn r.data ((s.accessWake .ctl).takeRequest o fn r) = .accept k obj (f ((s.accessWake .ctl).takeRequest o fn r))) :
    AcceptedBy c o fn r s k obj f := by
  refine ⟨_, Beside.takeRequest _ o fn r, _, by rw [hc, request_taken h, hb]; rfl,
    (Beside.respond ..).trans (Beside.modPocket _ _ (fun p => { p with longs := p.longs ++ _ }) rfl), ?_, ?_, ?_⟩ <;>
    simp [State.respond]

/-- The answer refused. -/
theorem refused_of {c : Instr} {o : OpInfo} {fn : Nat} {r : Request} {s : State} {body : Body} {st : Nat}
    (h : Taken o fn r s) (hc : exec c s = request o body fn r s)
    (hb : body fn (r.data) ((s.accessWake .ctl).takeRequest o fn r) = .refuse st) : RefusedWith c o fn r s st [] := by
  refine ⟨_, by rw [hc, request_taken h, hb]; rfl,
    ((Beside.respond ..).trans (Beside.notify ..)).trans (Beside.takeRequest ..), ?_, ?_, ?_, ?_⟩ <;>
    simp [State.respond, notify_pocket, h.token_eq, accessWake_fn]

/-- The answer accepted: the long command, and the state of the command beside u. -/
theorem accepted_of {c : Instr} {o : OpInfo} {fn : Nat} {r : Request} {s : State} {body : Body} {k : LongKind} {obj : Nat}
    {t u : State} (h : Taken o fn r s) (hc : exec c s = request o body fn r s)
    (hb : body fn (r.data) ((s.accessWake .ctl).takeRequest o fn r) = .accept k obj t) (hu : Beside fn t (u.accessWake .ctl))
    (hl : (t.fn fn).pocket.longs = (s.fn fn).pocket.longs)
    (ht : (t.fn fn).pocket.token = BitVec.ofNat 16 r.doorbell.toNat) : Accepted c o fn r s k obj u := by
  refine ⟨_, by rw [hc, request_taken h, hb]; rfl,
    ((Beside.respond ..).trans (Beside.modPocket _ _ (fun p => { p with longs := p.longs ++ _ }) rfl)).trans hu, ?_, ?_, ?_, ?_⟩ <;>
    simp [State.respond, hl, ht, h.token_eq]

end Sys2Proof.Machine
end

