-- ==== Sys2Proof/Laws/State.lean ====
section
/-! SUPPORT. What each named update of State does to each of its fields, one lemma per field per update, and what the
readers of the tables find after it. -/
namespace Sys2Proof.Machine

/-! ## State.setFn -/

@[simp] theorem State.setFn_boot (s : State) (n : Nat) (f : Fn) : (s.setFn n f).boot = s.boot := rfl
@[simp] theorem State.setFn_clk (s : State) (n : Nat) (f : Fn) : (s.setFn n f).clk = s.clk := rfl
@[simp] theorem State.setFn_link (s : State) (n : Nat) (f : Fn) : (s.setFn n f).link = s.link := rfl
@[simp] theorem State.setFn_fns (s : State) (n : Nat) (f : Fn) : (s.setFn n f).fns = tput s.fns n f := rfl
@[simp] theorem State.setFn_prov (s : State) (n : Nat) (f : Fn) : (s.setFn n f).prov = s.prov := rfl
@[simp] theorem State.setFn_qps (s : State) (n : Nat) (f : Fn) : (s.setFn n f).qps = s.qps := rfl
@[simp] theorem State.setFn_units (s : State) (n : Nat) (f : Fn) : (s.setFn n f).units = s.units := rfl
@[simp] theorem State.setFn_nextUnit (s : State) (n : Nat) (f : Fn) : (s.setFn n f).nextUnit = s.nextUnit := rfl
@[simp] theorem State.setFn_tags (s : State) (n : Nat) (f : Fn) : (s.setFn n f).tags = s.tags := rfl
@[simp] theorem State.setFn_waits (s : State) (n : Nat) (f : Fn) : (s.setFn n f).waits = s.waits := rfl
@[simp] theorem State.setFn_hostq (s : State) (n : Nat) (f : Fn) : (s.setFn n f).hostq = s.hostq := rfl
@[simp] theorem State.setFn_shadow (s : State) (n : Nat) (f : Fn) : (s.setFn n f).shadow = s.shadow := rfl
@[simp] theorem State.setFn_stamp (s : State) (n : Nat) (f : Fn) : (s.setFn n f).stamp = s.stamp := rfl
@[simp] theorem State.setFn_win (s : State) (n : Nat) (f : Fn) : (s.setFn n f).win = s.win := rfl
@[simp] theorem State.setFn_sti (s : State) (n : Nat) (f : Fn) : (s.setFn n f).sti = s.sti := rfl
@[simp] theorem State.setFn_xlt (s : State) (n : Nat) (f : Fn) : (s.setFn n f).xlt = s.xlt := rfl
@[simp] theorem State.setFn_plt (s : State) (n : Nat) (f : Fn) : (s.setFn n f).plt = s.plt := rfl
@[simp] theorem State.setFn_slvA (s : State) (n : Nat) (f : Fn) : (s.setFn n f).slvA = s.slvA := rfl
@[simp] theorem State.setFn_slvB (s : State) (n : Nat) (f : Fn) : (s.setFn n f).slvB = s.slvB := rfl
@[simp] theorem State.setFn_tp (s : State) (n : Nat) (f : Fn) : (s.setFn n f).tp = s.tp := rfl
@[simp] theorem State.setFn_belt (s : State) (n : Nat) (f : Fn) : (s.setFn n f).belt = s.belt := rfl
@[simp] theorem State.setFn_plc (s : State) (n : Nat) (f : Fn) : (s.setFn n f).plc = s.plc := rfl
@[simp] theorem State.setFn_el (s : State) (n : Nat) (f : Fn) : (s.setFn n f).el = s.el := rfl
@[simp] theorem State.setFn_pwr (s : State) (n : Nat) (f : Fn) : (s.setFn n f).pwr = s.pwr := rfl
@[simp] theorem State.setFn_fc (s : State) (n : Nat) (f : Fn) : (s.setFn n f).fc = s.fc := rfl
@[simp] theorem State.setFn_lin (s : State) (n : Nat) (f : Fn) : (s.setFn n f).lin = s.lin := rfl
@[simp] theorem State.setFn_bh (s : State) (n : Nat) (f : Fn) : (s.setFn n f).bh = s.bh := rfl
@[simp] theorem State.setFn_out (s : State) (n : Nat) (f : Fn) : (s.setFn n f).out = s.out := rfl
@[simp] theorem State.setFn_freeIdx (s : State) (n : Nat) (f : Fn) : (s.setFn n f).freeIdx = s.freeIdx := rfl
@[simp] theorem State.setFn_pending (s : State) (n : Nat) (f : Fn) : (s.setFn n f).pending = s.pending := rfl

/-! ## State.modFn -/

@[simp] theorem State.modFn_boot (s : State) (n : Nat) (g : Fn → Fn) : (s.modFn n g).boot = s.boot := rfl
@[simp] theorem State.modFn_clk (s : State) (n : Nat) (g : Fn → Fn) : (s.modFn n g).clk = s.clk := rfl
@[simp] theorem State.modFn_link (s : State) (n : Nat) (g : Fn → Fn) : (s.modFn n g).link = s.link := rfl
@[simp] theorem State.modFn_fns (s : State) (n : Nat) (g : Fn → Fn) : (s.modFn n g).fns = tput s.fns n (g (s.fn n)) := rfl
@[simp] theorem State.modFn_prov (s : State) (n : Nat) (g : Fn → Fn) : (s.modFn n g).prov = s.prov := rfl
@[simp] theorem State.modFn_qps (s : State) (n : Nat) (g : Fn → Fn) : (s.modFn n g).qps = s.qps := rfl
@[simp] theorem State.modFn_units (s : State) (n : Nat) (g : Fn → Fn) : (s.modFn n g).units = s.units := rfl
@[simp] theorem State.modFn_nextUnit (s : State) (n : Nat) (g : Fn → Fn) : (s.modFn n g).nextUnit = s.nextUnit := rfl
@[simp] theorem State.modFn_tags (s : State) (n : Nat) (g : Fn → Fn) : (s.modFn n g).tags = s.tags := rfl
@[simp] theorem State.modFn_waits (s : State) (n : Nat) (g : Fn → Fn) : (s.modFn n g).waits = s.waits := rfl
@[simp] theorem State.modFn_hostq (s : State) (n : Nat) (g : Fn → Fn) : (s.modFn n g).hostq = s.hostq := rfl
@[simp] theorem State.modFn_shadow (s : State) (n : Nat) (g : Fn → Fn) : (s.modFn n g).shadow = s.shadow := rfl
@[simp] theorem State.modFn_stamp (s : State) (n : Nat) (g : Fn → Fn) : (s.modFn n g).stamp = s.stamp := rfl
@[simp] theorem State.modFn_win (s : State) (n : Nat) (g : Fn → Fn) : (s.modFn n g).win = s.win := rfl
@[simp] theorem State.modFn_sti (s : State) (n : Nat) (g : Fn → Fn) : (s.modFn n g).sti = s.sti := rfl
@[simp] theorem State.modFn_xlt (s : State) (n : Nat) (g : Fn → Fn) : (s.modFn n g).xlt = s.xlt := rfl
@[simp] theorem State.modFn_plt (s : State) (n : Nat) (g : Fn → Fn) : (s.modFn n g).plt = s.plt := rfl
@[simp] theorem State.modFn_slvA (s : State) (n : Nat) (g : Fn → Fn) : (s.modFn n g).slvA = s.slvA := rfl
@[simp] theorem State.modFn_slvB (s : State) (n : Nat) (g : Fn → Fn) : (s.modFn n g).slvB = s.slvB := rfl
@[simp] theorem State.modFn_tp (s : State) (n : Nat) (g : Fn → Fn) : (s.modFn n g).tp = s.tp := rfl
@[simp] theorem State.modFn_belt (s : State) (n : Nat) (g : Fn → Fn) : (s.modFn n g).belt = s.belt := rfl
@[simp] theorem State.modFn_plc (s : State) (n : Nat) (g : Fn → Fn) : (s.modFn n g).plc = s.plc := rfl
@[simp] theorem State.modFn_el (s : State) (n : Nat) (g : Fn → Fn) : (s.modFn n g).el = s.el := rfl
@[simp] theorem State.modFn_pwr (s : State) (n : Nat) (g : Fn → Fn) : (s.modFn n g).pwr = s.pwr := rfl
@[simp] theorem State.modFn_fc (s : State) (n : Nat) (g : Fn → Fn) : (s.modFn n g).fc = s.fc := rfl
@[simp] theorem State.modFn_lin (s : State) (n : Nat) (g : Fn → Fn) : (s.modFn n g).lin = s.lin := rfl
@[simp] theorem State.modFn_bh (s : State) (n : Nat) (g : Fn → Fn) : (s.modFn n g).bh = s.bh := rfl
@[simp] theorem State.modFn_out (s : State) (n : Nat) (g : Fn → Fn) : (s.modFn n g).out = s.out := rfl
@[simp] theorem State.modFn_freeIdx (s : State) (n : Nat) (g : Fn → Fn) : (s.modFn n g).freeIdx = s.freeIdx := rfl
@[simp] theorem State.modFn_pending (s : State) (n : Nat) (g : Fn → Fn) : (s.modFn n g).pending = s.pending := rfl

/-! ## State.modQset -/

@[simp] theorem State.modQset_boot (s : State) (n q : Nat) (g : QSet → QSet) : (s.modQset n q g).boot = s.boot := rfl
@[simp] theorem State.modQset_clk (s : State) (n q : Nat) (g : QSet → QSet) : (s.modQset n q g).clk = s.clk := rfl
@[simp] theorem State.modQset_link (s : State) (n q : Nat) (g : QSet → QSet) : (s.modQset n q g).link = s.link := rfl
@[simp] theorem State.modQset_fns (s : State) (n q : Nat) (g : QSet → QSet) : (s.modQset n q g).fns = tput s.fns n { s.fn n with qsets := tmod (s.fn n).qsets q g } := rfl
@[simp] theorem State.modQset_prov (s : State) (n q : Nat) (g : QSet → QSet) : (s.modQset n q g).prov = s.prov := rfl
@[simp] theorem State.modQset_qps (s : State) (n q : Nat) (g : QSet → QSet) : (s.modQset n q g).qps = s.qps := rfl
@[simp] theorem State.modQset_units (s : State) (n q : Nat) (g : QSet → QSet) : (s.modQset n q g).units = s.units := rfl
@[simp] theorem State.modQset_nextUnit (s : State) (n q : Nat) (g : QSet → QSet) : (s.modQset n q g).nextUnit = s.nextUnit := rfl
@[simp] theorem State.modQset_tags (s : State) (n q : Nat) (g : QSet → QSet) : (s.modQset n q g).tags = s.tags := rfl
@[simp] theorem State.modQset_waits (s : State) (n q : Nat) (g : QSet → QSet) : (s.modQset n q g).waits = s.waits := rfl
@[simp] theorem State.modQset_hostq (s : State) (n q : Nat) (g : QSet → QSet) : (s.modQset n q g).hostq = s.hostq := rfl
@[simp] theorem State.modQset_shadow (s : State) (n q : Nat) (g : QSet → QSet) : (s.modQset n q g).shadow = s.shadow := rfl
@[simp] theorem State.modQset_stamp (s : State) (n q : Nat) (g : QSet → QSet) : (s.modQset n q g).stamp = s.stamp := rfl
@[simp] theorem State.modQset_win (s : State) (n q : Nat) (g : QSet → QSet) : (s.modQset n q g).win = s.win := rfl
@[simp] theorem State.modQset_sti (s : State) (n q : Nat) (g : QSet → QSet) : (s.modQset n q g).sti = s.sti := rfl
@[simp] theorem State.modQset_xlt (s : State) (n q : Nat) (g : QSet → QSet) : (s.modQset n q g).xlt = s.xlt := rfl
@[simp] theorem State.modQset_plt (s : State) (n q : Nat) (g : QSet → QSet) : (s.modQset n q g).plt = s.plt := rfl
@[simp] theorem State.modQset_slvA (s : State) (n q : Nat) (g : QSet → QSet) : (s.modQset n q g).slvA = s.slvA := rfl
@[simp] theorem State.modQset_slvB (s : State) (n q : Nat) (g : QSet → QSet) : (s.modQset n q g).slvB = s.slvB := rfl
@[simp] theorem State.modQset_tp (s : State) (n q : Nat) (g : QSet → QSet) : (s.modQset n q g).tp = s.tp := rfl
@[simp] theorem State.modQset_belt (s : State) (n q : Nat) (g : QSet → QSet) : (s.modQset n q g).belt = s.belt := rfl
@[simp] theorem State.modQset_plc (s : State) (n q : Nat) (g : QSet → QSet) : (s.modQset n q g).plc = s.plc := rfl
@[simp] theorem State.modQset_el (s : State) (n q : Nat) (g : QSet → QSet) : (s.modQset n q g).el = s.el := rfl
@[simp] theorem State.modQset_pwr (s : State) (n q : Nat) (g : QSet → QSet) : (s.modQset n q g).pwr = s.pwr := rfl
@[simp] theorem State.modQset_fc (s : State) (n q : Nat) (g : QSet → QSet) : (s.modQset n q g).fc = s.fc := rfl
@[simp] theorem State.modQset_lin (s : State) (n q : Nat) (g : QSet → QSet) : (s.modQset n q g).lin = s.lin := rfl
@[simp] theorem State.modQset_bh (s : State) (n q : Nat) (g : QSet → QSet) : (s.modQset n q g).bh = s.bh := rfl
@[simp] theorem State.modQset_out (s : State) (n q : Nat) (g : QSet → QSet) : (s.modQset n q g).out = s.out := rfl
@[simp] theorem State.modQset_freeIdx (s : State) (n q : Nat) (g : QSet → QSet) : (s.modQset n q g).freeIdx = s.freeIdx := rfl
@[simp] theorem State.modQset_pending (s : State) (n q : Nat) (g : QSet → QSet) : (s.modQset n q g).pending = s.pending := rfl

/-! ## State.modPocket -/

@[simp] theorem State.modPocket_boot (s : State) (n : Nat) (g : Pocket → Pocket) : (s.modPocket n g).boot = s.boot := rfl
@[simp] theorem State.modPocket_clk (s : State) (n : Nat) (g : Pocket → Pocket) : (s.modPocket n g).clk = s.clk := rfl
@[simp] theorem State.modPocket_link (s : State) (n : Nat) (g : Pocket → Pocket) : (s.modPocket n g).link = s.link := rfl
@[simp] theorem State.modPocket_fns (s : State) (n : Nat) (g : Pocket → Pocket) : (s.modPocket n g).fns = tput s.fns n { s.fn n with pocket := g (s.fn n).pocket } := rfl
@[simp] theorem State.modPocket_prov (s : State) (n : Nat) (g : Pocket → Pocket) : (s.modPocket n g).prov = s.prov := rfl
@[simp] theorem State.modPocket_qps (s : State) (n : Nat) (g : Pocket → Pocket) : (s.modPocket n g).qps = s.qps := rfl
@[simp] theorem State.modPocket_units (s : State) (n : Nat) (g : Pocket → Pocket) : (s.modPocket n g).units = s.units := rfl
@[simp] theorem State.modPocket_nextUnit (s : State) (n : Nat) (g : Pocket → Pocket) : (s.modPocket n g).nextUnit = s.nextUnit := rfl
@[simp] theorem State.modPocket_tags (s : State) (n : Nat) (g : Pocket → Pocket) : (s.modPocket n g).tags = s.tags := rfl
@[simp] theorem State.modPocket_waits (s : State) (n : Nat) (g : Pocket → Pocket) : (s.modPocket n g).waits = s.waits := rfl
@[simp] theorem State.modPocket_hostq (s : State) (n : Nat) (g : Pocket → Pocket) : (s.modPocket n g).hostq = s.hostq := rfl
@[simp] theorem State.modPocket_shadow (s : State) (n : Nat) (g : Pocket → Pocket) : (s.modPocket n g).shadow = s.shadow := rfl
@[simp] theorem State.modPocket_stamp (s : State) (n : Nat) (g : Pocket → Pocket) : (s.modPocket n g).stamp = s.stamp := rfl
@[simp] theorem State.modPocket_win (s : State) (n : Nat) (g : Pocket → Pocket) : (s.modPocket n g).win = s.win := rfl
@[simp] theorem State.modPocket_sti (s : State) (n : Nat) (g : Pocket → Pocket) : (s.modPocket n g).sti = s.sti := rfl
@[simp] theorem State.modPocket_xlt (s : State) (n : Nat) (g : Pocket → Pocket) : (s.modPocket n g).xlt = s.xlt := rfl
@[simp] theorem State.modPocket_plt (s : State) (n : Nat) (g : Pocket → Pocket) : (s.modPocket n g).plt = s.plt := rfl
@[simp] theorem State.modPocket_slvA (s : State) (n : Nat) (g : Pocket → Pocket) : (s.modPocket n g).slvA = s.slvA := rfl
@[simp] theorem State.modPocket_slvB (s : State) (n : Nat) (g : Pocket → Pocket) : (s.modPocket n g).slvB = s.slvB := rfl
@[simp] theorem State.modPocket_tp (s : State) (n : Nat) (g : Pocket → Pocket) : (s.modPocket n g).tp = s.tp := rfl
@[simp] theorem State.modPocket_belt (s : State) (n : Nat) (g : Pocket → Pocket) : (s.modPocket n g).belt = s.belt := rfl
@[simp] theorem State.modPocket_plc (s : State) (n : Nat) (g : Pocket → Pocket) : (s.modPocket n g).plc = s.plc := rfl
@[simp] theorem State.modPocket_el (s : State) (n : Nat) (g : Pocket → Pocket) : (s.modPocket n g).el = s.el := rfl
@[simp] theorem State.modPocket_pwr (s : State) (n : Nat) (g : Pocket → Pocket) : (s.modPocket n g).pwr = s.pwr := rfl
@[simp] theorem State.modPocket_fc (s : State) (n : Nat) (g : Pocket → Pocket) : (s.modPocket n g).fc = s.fc := rfl
@[simp] theorem State.modPocket_lin (s : State) (n : Nat) (g : Pocket → Pocket) : (s.modPocket n g).lin = s.lin := rfl
@[simp] theorem State.modPocket_bh (s : State) (n : Nat) (g : Pocket → Pocket) : (s.modPocket n g).bh = s.bh := rfl
@[simp] theorem State.modPocket_out (s : State) (n : Nat) (g : Pocket → Pocket) : (s.modPocket n g).out = s.out := rfl
@[simp] theorem State.modPocket_freeIdx (s : State) (n : Nat) (g : Pocket → Pocket) : (s.modPocket n g).freeIdx = s.freeIdx := rfl
@[simp] theorem State.modPocket_pending (s : State) (n : Nat) (g : Pocket → Pocket) : (s.modPocket n g).pending = s.pending := rfl

/-! ## State.modCfg -/

@[simp] theorem State.modCfg_boot (s : State) (n : Nat) (g : FnCfg → FnCfg) : (s.modCfg n g).boot = s.boot := rfl
@[simp] theorem State.modCfg_clk (s : State) (n : Nat) (g : FnCfg → FnCfg) : (s.modCfg n g).clk = s.clk := rfl
@[simp] theorem State.modCfg_link (s : State) (n : Nat) (g : FnCfg → FnCfg) : (s.modCfg n g).link = s.link := rfl
@[simp] theorem State.modCfg_fns (s : State) (n : Nat) (g : FnCfg → FnCfg) : (s.modCfg n g).fns = tput s.fns n { s.fn n with cfg := g (s.fn n).cfg } := rfl
@[simp] theorem State.modCfg_prov (s : State) (n : Nat) (g : FnCfg → FnCfg) : (s.modCfg n g).prov = s.prov := rfl
@[simp] theorem State.modCfg_qps (s : State) (n : Nat) (g : FnCfg → FnCfg) : (s.modCfg n g).qps = s.qps := rfl
@[simp] theorem State.modCfg_units (s : State) (n : Nat) (g : FnCfg → FnCfg) : (s.modCfg n g).units = s.units := rfl
@[simp] theorem State.modCfg_nextUnit (s : State) (n : Nat) (g : FnCfg → FnCfg) : (s.modCfg n g).nextUnit = s.nextUnit := rfl
@[simp] theorem State.modCfg_tags (s : State) (n : Nat) (g : FnCfg → FnCfg) : (s.modCfg n g).tags = s.tags := rfl
@[simp] theorem State.modCfg_waits (s : State) (n : Nat) (g : FnCfg → FnCfg) : (s.modCfg n g).waits = s.waits := rfl
@[simp] theorem State.modCfg_hostq (s : State) (n : Nat) (g : FnCfg → FnCfg) : (s.modCfg n g).hostq = s.hostq := rfl
@[simp] theorem State.modCfg_shadow (s : State) (n : Nat) (g : FnCfg → FnCfg) : (s.modCfg n g).shadow = s.shadow := rfl
@[simp] theorem State.modCfg_stamp (s : State) (n : Nat) (g : FnCfg → FnCfg) : (s.modCfg n g).stamp = s.stamp := rfl
@[simp] theorem State.modCfg_win (s : State) (n : Nat) (g : FnCfg → FnCfg) : (s.modCfg n g).win = s.win := rfl
@[simp] theorem State.modCfg_sti (s : State) (n : Nat) (g : FnCfg → FnCfg) : (s.modCfg n g).sti = s.sti := rfl
@[simp] theorem State.modCfg_xlt (s : State) (n : Nat) (g : FnCfg → FnCfg) : (s.modCfg n g).xlt = s.xlt := rfl
@[simp] theorem State.modCfg_plt (s : State) (n : Nat) (g : FnCfg → FnCfg) : (s.modCfg n g).plt = s.plt := rfl
@[simp] theorem State.modCfg_slvA (s : State) (n : Nat) (g : FnCfg → FnCfg) : (s.modCfg n g).slvA = s.slvA := rfl
@[simp] theorem State.modCfg_slvB (s : State) (n : Nat) (g : FnCfg → FnCfg) : (s.modCfg n g).slvB = s.slvB := rfl
@[simp] theorem State.modCfg_tp (s : State) (n : Nat) (g : FnCfg → FnCfg) : (s.modCfg n g).tp = s.tp := rfl
@[simp] theorem State.modCfg_belt (s : State) (n : Nat) (g : FnCfg → FnCfg) : (s.modCfg n g).belt = s.belt := rfl
@[simp] theorem State.modCfg_plc (s : State) (n : Nat) (g : FnCfg → FnCfg) : (s.modCfg n g).plc = s.plc := rfl
@[simp] theorem State.modCfg_el (s : State) (n : Nat) (g : FnCfg → FnCfg) : (s.modCfg n g).el = s.el := rfl
@[simp] theorem State.modCfg_pwr (s : State) (n : Nat) (g : FnCfg → FnCfg) : (s.modCfg n g).pwr = s.pwr := rfl
@[simp] theorem State.modCfg_fc (s : State) (n : Nat) (g : FnCfg → FnCfg) : (s.modCfg n g).fc = s.fc := rfl
@[simp] theorem State.modCfg_lin (s : State) (n : Nat) (g : FnCfg → FnCfg) : (s.modCfg n g).lin = s.lin := rfl
@[simp] theorem State.modCfg_bh (s : State) (n : Nat) (g : FnCfg → FnCfg) : (s.modCfg n g).bh = s.bh := rfl
@[simp] theorem State.modCfg_out (s : State) (n : Nat) (g : FnCfg → FnCfg) : (s.modCfg n g).out = s.out := rfl
@[simp] theorem State.modCfg_freeIdx (s : State) (n : Nat) (g : FnCfg → FnCfg) : (s.modCfg n g).freeIdx = s.freeIdx := rfl
@[simp] theorem State.modCfg_pending (s : State) (n : Nat) (g : FnCfg → FnCfg) : (s.modCfg n g).pending = s.pending := rfl

/-! ## State.modQp -/

@[simp] theorem State.modQp_boot (s : State) (n : Nat) (g : Qp → Qp) : (s.modQp n g).boot = s.boot := rfl
@[simp] theorem State.modQp_clk (s : State) (n : Nat) (g : Qp → Qp) : (s.modQp n g).clk = s.clk := rfl
@[simp] theorem State.modQp_link (s : State) (n : Nat) (g : Qp → Qp) : (s.modQp n g).link = s.link := rfl
@[simp] theorem State.modQp_fns (s : State) (n : Nat) (g : Qp → Qp) : (s.modQp n g).fns = s.fns := rfl
@[simp] theorem State.modQp_prov (s : State) (n : Nat) (g : Qp → Qp) : (s.modQp n g).prov = s.prov := rfl
@[simp] theorem State.modQp_qps (s : State) (n : Nat) (g : Qp → Qp) : (s.modQp n g).qps = tmod s.qps n g := rfl
@[simp] theorem State.modQp_units (s : State) (n : Nat) (g : Qp → Qp) : (s.modQp n g).units = s.units := rfl
@[simp] theorem State.modQp_nextUnit (s : State) (n : Nat) (g : Qp → Qp) : (s.modQp n g).nextUnit = s.nextUnit := rfl
@[simp] theorem State.modQp_tags (s : State) (n : Nat) (g : Qp → Qp) : (s.modQp n g).tags = s.tags := rfl
@[simp] theorem State.modQp_waits (s : State) (n : Nat) (g : Qp → Qp) : (s.modQp n g).waits = s.waits := rfl
@[simp] theorem State.modQp_hostq (s : State) (n : Nat) (g : Qp → Qp) : (s.modQp n g).hostq = s.hostq := rfl
@[simp] theorem State.modQp_shadow (s : State) (n : Nat) (g : Qp → Qp) : (s.modQp n g).shadow = s.shadow := rfl
@[simp] theorem State.modQp_stamp (s : State) (n : Nat) (g : Qp → Qp) : (s.modQp n g).stamp = s.stamp := rfl
@[simp] theorem State.modQp_win (s : State) (n : Nat) (g : Qp → Qp) : (s.modQp n g).win = s.win := rfl
@[simp] theorem State.modQp_sti (s : State) (n : Nat) (g : Qp → Qp) : (s.modQp n g).sti = s.sti := rfl
@[simp] theorem State.modQp_xlt (s : State) (n : Nat) (g : Qp → Qp) : (s.modQp n g).xlt = s.xlt := rfl
@[simp] theorem State.modQp_plt (s : State) (n : Nat) (g : Qp → Qp) : (s.modQp n g).plt = s.plt := rfl
@[simp] theorem State.modQp_slvA (s : State) (n : Nat) (g : Qp → Qp) : (s.modQp n g).slvA = s.slvA := rfl
@[simp] theorem State.modQp_slvB (s : State) (n : Nat) (g : Qp → Qp) : (s.modQp n g).slvB = s.slvB := rfl
@[simp] theorem State.modQp_tp (s : State) (n : Nat) (g : Qp → Qp) : (s.modQp n g).tp = s.tp := rfl
@[simp] theorem State.modQp_belt (s : State) (n : Nat) (g : Qp → Qp) : (s.modQp n g).belt = s.belt := rfl
@[simp] theorem State.modQp_plc (s : State) (n : Nat) (g : Qp → Qp) : (s.modQp n g).plc = s.plc := rfl
@[simp] theorem State.modQp_el (s : State) (n : Nat) (g : Qp → Qp) : (s.modQp n g).el = s.el := rfl
@[simp] theorem State.modQp_pwr (s : State) (n : Nat) (g : Qp → Qp) : (s.modQp n g).pwr = s.pwr := rfl
@[simp] theorem State.modQp_fc (s : State) (n : Nat) (g : Qp → Qp) : (s.modQp n g).fc = s.fc := rfl
@[simp] theorem State.modQp_lin (s : State) (n : Nat) (g : Qp → Qp) : (s.modQp n g).lin = s.lin := rfl
@[simp] theorem State.modQp_bh (s : State) (n : Nat) (g : Qp → Qp) : (s.modQp n g).bh = s.bh := rfl
@[simp] theorem State.modQp_out (s : State) (n : Nat) (g : Qp → Qp) : (s.modQp n g).out = s.out := rfl
@[simp] theorem State.modQp_freeIdx (s : State) (n : Nat) (g : Qp → Qp) : (s.modQp n g).freeIdx = s.freeIdx := rfl
@[simp] theorem State.modQp_pending (s : State) (n : Nat) (g : Qp → Qp) : (s.modQp n g).pending = s.pending := rfl

/-! ## State.modUnit -/

@[simp] theorem State.modUnit_boot (s : State) (u : Nat) (g : XUnit → XUnit) : (s.modUnit u g).boot = s.boot := rfl
@[simp] theorem State.modUnit_clk (s : State) (u : Nat) (g : XUnit → XUnit) : (s.modUnit u g).clk = s.clk := rfl
@[simp] theorem State.modUnit_link (s : State) (u : Nat) (g : XUnit → XUnit) : (s.modUnit u g).link = s.link := rfl
@[simp] theorem State.modUnit_fns (s : State) (u : Nat) (g : XUnit → XUnit) : (s.modUnit u g).fns = s.fns := rfl
@[simp] theorem State.modUnit_prov (s : State) (u : Nat) (g : XUnit → XUnit) : (s.modUnit u g).prov = s.prov := rfl
@[simp] theorem State.modUnit_qps (s : State) (u : Nat) (g : XUnit → XUnit) : (s.modUnit u g).qps = s.qps := rfl
@[simp] theorem State.modUnit_units (s : State) (u : Nat) (g : XUnit → XUnit) : (s.modUnit u g).units = tmod s.units u g := rfl
@[simp] theorem State.modUnit_nextUnit (s : State) (u : Nat) (g : XUnit → XUnit) : (s.modUnit u g).nextUnit = s.nextUnit := rfl
@[simp] theorem State.modUnit_tags (s : State) (u : Nat) (g : XUnit → XUnit) : (s.modUnit u g).tags = s.tags := rfl
@[simp] theorem State.modUnit_waits (s : State) (u : Nat) (g : XUnit → XUnit) : (s.modUnit u g).waits = s.waits := rfl
@[simp] theorem State.modUnit_hostq (s : State) (u : Nat) (g : XUnit → XUnit) : (s.modUnit u g).hostq = s.hostq := rfl
@[simp] theorem State.modUnit_shadow (s : State) (u : Nat) (g : XUnit → XUnit) : (s.modUnit u g).shadow = s.shadow := rfl
@[simp] theorem State.modUnit_stamp (s : State) (u : Nat) (g : XUnit → XUnit) : (s.modUnit u g).stamp = s.stamp := rfl
@[simp] theorem State.modUnit_win (s : State) (u : Nat) (g : XUnit → XUnit) : (s.modUnit u g).win = s.win := rfl
@[simp] theorem State.modUnit_sti (s : State) (u : Nat) (g : XUnit → XUnit) : (s.modUnit u g).sti = s.sti := rfl
@[simp] theorem State.modUnit_xlt (s : State) (u : Nat) (g : XUnit → XUnit) : (s.modUnit u g).xlt = s.xlt := rfl
@[simp] theorem State.modUnit_plt (s : State) (u : Nat) (g : XUnit → XUnit) : (s.modUnit u g).plt = s.plt := rfl
@[simp] theorem State.modUnit_slvA (s : State) (u : Nat) (g : XUnit → XUnit) : (s.modUnit u g).slvA = s.slvA := rfl
@[simp] theorem State.modUnit_slvB (s : State) (u : Nat) (g : XUnit → XUnit) : (s.modUnit u g).slvB = s.slvB := rfl
@[simp] theorem State.modUnit_tp (s : State) (u : Nat) (g : XUnit → XUnit) : (s.modUnit u g).tp = s.tp := rfl
@[simp] theorem State.modUnit_belt (s : State) (u : Nat) (g : XUnit → XUnit) : (s.modUnit u g).belt = s.belt := rfl
@[simp] theorem State.modUnit_plc (s : State) (u : Nat) (g : XUnit → XUnit) : (s.modUnit u g).plc = s.plc := rfl
@[simp] theorem State.modUnit_el (s : State) (u : Nat) (g : XUnit → XUnit) : (s.modUnit u g).el = s.el := rfl
@[simp] theorem State.modUnit_pwr (s : State) (u : Nat) (g : XUnit → XUnit) : (s.modUnit u g).pwr = s.pwr := rfl
@[simp] theorem State.modUnit_fc (s : State) (u : Nat) (g : XUnit → XUnit) : (s.modUnit u g).fc = s.fc := rfl
@[simp] theorem State.modUnit_lin (s : State) (u : Nat) (g : XUnit → XUnit) : (s.modUnit u g).lin = s.lin := rfl
@[simp] theorem State.modUnit_bh (s : State) (u : Nat) (g : XUnit → XUnit) : (s.modUnit u g).bh = s.bh := rfl
@[simp] theorem State.modUnit_out (s : State) (u : Nat) (g : XUnit → XUnit) : (s.modUnit u g).out = s.out := rfl
@[simp] theorem State.modUnit_freeIdx (s : State) (u : Nat) (g : XUnit → XUnit) : (s.modUnit u g).freeIdx = s.freeIdx := rfl
@[simp] theorem State.modUnit_pending (s : State) (u : Nat) (g : XUnit → XUnit) : (s.modUnit u g).pending = s.pending := rfl

/-! ## State.modTenant -/

@[simp] theorem State.modTenant_boot (s : State) (v : Nat) (g : Tenant → Tenant) : (s.modTenant v g).boot = s.boot := rfl
@[simp] theorem State.modTenant_clk (s : State) (v : Nat) (g : Tenant → Tenant) : (s.modTenant v g).clk = s.clk := rfl
@[simp] theorem State.modTenant_link (s : State) (v : Nat) (g : Tenant → Tenant) : (s.modTenant v g).link = s.link := rfl
@[simp] theorem State.modTenant_fns (s : State) (v : Nat) (g : Tenant → Tenant) : (s.modTenant v g).fns = s.fns := rfl
@[simp] theorem State.modTenant_prov (s : State) (v : Nat) (g : Tenant → Tenant) : (s.modTenant v g).prov = { s.prov with tenants := tmod s.prov.tenants v g } := rfl
@[simp] theorem State.modTenant_qps (s : State) (v : Nat) (g : Tenant → Tenant) : (s.modTenant v g).qps = s.qps := rfl
@[simp] theorem State.modTenant_units (s : State) (v : Nat) (g : Tenant → Tenant) : (s.modTenant v g).units = s.units := rfl
@[simp] theorem State.modTenant_nextUnit (s : State) (v : Nat) (g : Tenant → Tenant) : (s.modTenant v g).nextUnit = s.nextUnit := rfl
@[simp] theorem State.modTenant_tags (s : State) (v : Nat) (g : Tenant → Tenant) : (s.modTenant v g).tags = s.tags := rfl
@[simp] theorem State.modTenant_waits (s : State) (v : Nat) (g : Tenant → Tenant) : (s.modTenant v g).waits = s.waits := rfl
@[simp] theorem State.modTenant_hostq (s : State) (v : Nat) (g : Tenant → Tenant) : (s.modTenant v g).hostq = s.hostq := rfl
@[simp] theorem State.modTenant_shadow (s : State) (v : Nat) (g : Tenant → Tenant) : (s.modTenant v g).shadow = s.shadow := rfl
@[simp] theorem State.modTenant_stamp (s : State) (v : Nat) (g : Tenant → Tenant) : (s.modTenant v g).stamp = s.stamp := rfl
@[simp] theorem State.modTenant_win (s : State) (v : Nat) (g : Tenant → Tenant) : (s.modTenant v g).win = s.win := rfl
@[simp] theorem State.modTenant_sti (s : State) (v : Nat) (g : Tenant → Tenant) : (s.modTenant v g).sti = s.sti := rfl
@[simp] theorem State.modTenant_xlt (s : State) (v : Nat) (g : Tenant → Tenant) : (s.modTenant v g).xlt = s.xlt := rfl
@[simp] theorem State.modTenant_plt (s : State) (v : Nat) (g : Tenant → Tenant) : (s.modTenant v g).plt = s.plt := rfl
@[simp] theorem State.modTenant_slvA (s : State) (v : Nat) (g : Tenant → Tenant) : (s.modTenant v g).slvA = s.slvA := rfl
@[simp] theorem State.modTenant_slvB (s : State) (v : Nat) (g : Tenant → Tenant) : (s.modTenant v g).slvB = s.slvB := rfl
@[simp] theorem State.modTenant_tp (s : State) (v : Nat) (g : Tenant → Tenant) : (s.modTenant v g).tp = s.tp := rfl
@[simp] theorem State.modTenant_belt (s : State) (v : Nat) (g : Tenant → Tenant) : (s.modTenant v g).belt = s.belt := rfl
@[simp] theorem State.modTenant_plc (s : State) (v : Nat) (g : Tenant → Tenant) : (s.modTenant v g).plc = s.plc := rfl
@[simp] theorem State.modTenant_el (s : State) (v : Nat) (g : Tenant → Tenant) : (s.modTenant v g).el = s.el := rfl
@[simp] theorem State.modTenant_pwr (s : State) (v : Nat) (g : Tenant → Tenant) : (s.modTenant v g).pwr = s.pwr := rfl
@[simp] theorem State.modTenant_fc (s : State) (v : Nat) (g : Tenant → Tenant) : (s.modTenant v g).fc = s.fc := rfl
@[simp] theorem State.modTenant_lin (s : State) (v : Nat) (g : Tenant → Tenant) : (s.modTenant v g).lin = s.lin := rfl
@[simp] theorem State.modTenant_bh (s : State) (v : Nat) (g : Tenant → Tenant) : (s.modTenant v g).bh = s.bh := rfl
@[simp] theorem State.modTenant_out (s : State) (v : Nat) (g : Tenant → Tenant) : (s.modTenant v g).out = s.out := rfl
@[simp] theorem State.modTenant_freeIdx (s : State) (v : Nat) (g : Tenant → Tenant) : (s.modTenant v g).freeIdx = s.freeIdx := rfl
@[simp] theorem State.modTenant_pending (s : State) (v : Nat) (g : Tenant → Tenant) : (s.modTenant v g).pending = s.pending := rfl

/-! ## State.modApt -/

@[simp] theorem State.modApt_boot (s : State) (n : Nat) (g : Apt → Apt) : (s.modApt n g).boot = s.boot := rfl
@[simp] theorem State.modApt_clk (s : State) (n : Nat) (g : Apt → Apt) : (s.modApt n g).clk = s.clk := rfl
@[simp] theorem State.modApt_link (s : State) (n : Nat) (g : Apt → Apt) : (s.modApt n g).link = s.link := rfl
@[simp] theorem State.modApt_fns (s : State) (n : Nat) (g : Apt → Apt) : (s.modApt n g).fns = s.fns := rfl
@[simp] theorem State.modApt_prov (s : State) (n : Nat) (g : Apt → Apt) : (s.modApt n g).prov = s.prov := rfl
@[simp] theorem State.modApt_qps (s : State) (n : Nat) (g : Apt → Apt) : (s.modApt n g).qps = s.qps := rfl
@[simp] theorem State.modApt_units (s : State) (n : Nat) (g : Apt → Apt) : (s.modApt n g).units = s.units := rfl
@[simp] theorem State.modApt_nextUnit (s : State) (n : Nat) (g : Apt → Apt) : (s.modApt n g).nextUnit = s.nextUnit := rfl
@[simp] theorem State.modApt_tags (s : State) (n : Nat) (g : Apt → Apt) : (s.modApt n g).tags = s.tags := rfl
@[simp] theorem State.modApt_waits (s : State) (n : Nat) (g : Apt → Apt) : (s.modApt n g).waits = s.waits := rfl
@[simp] theorem State.modApt_hostq (s : State) (n : Nat) (g : Apt → Apt) : (s.modApt n g).hostq = s.hostq := rfl
@[simp] theorem State.modApt_shadow (s : State) (n : Nat) (g : Apt → Apt) : (s.modApt n g).shadow = s.shadow := rfl
@[simp] theorem State.modApt_stamp (s : State) (n : Nat) (g : Apt → Apt) : (s.modApt n g).stamp = s.stamp := rfl
@[simp] theorem State.modApt_win (s : State) (n : Nat) (g : Apt → Apt) : (s.modApt n g).win = { s.win with apts := tmod s.win.apts n g } := rfl
@[simp] theorem State.modApt_sti (s : State) (n : Nat) (g : Apt → Apt) : (s.modApt n g).sti = s.sti := rfl
@[simp] theorem State.modApt_xlt (s : State) (n : Nat) (g : Apt → Apt) : (s.modApt n g).xlt = s.xlt := rfl
@[simp] theorem State.modApt_plt (s : State) (n : Nat) (g : Apt → Apt) : (s.modApt n g).plt = s.plt := rfl
@[simp] theorem State.modApt_slvA (s : State) (n : Nat) (g : Apt → Apt) : (s.modApt n g).slvA = s.slvA := rfl
@[simp] theorem State.modApt_slvB (s : State) (n : Nat) (g : Apt → Apt) : (s.modApt n g).slvB = s.slvB := rfl
@[simp] theorem State.modApt_tp (s : State) (n : Nat) (g : Apt → Apt) : (s.modApt n g).tp = s.tp := rfl
@[simp] theorem State.modApt_belt (s : State) (n : Nat) (g : Apt → Apt) : (s.modApt n g).belt = s.belt := rfl
@[simp] theorem State.modApt_plc (s : State) (n : Nat) (g : Apt → Apt) : (s.modApt n g).plc = s.plc := rfl
@[simp] theorem State.modApt_el (s : State) (n : Nat) (g : Apt → Apt) : (s.modApt n g).el = s.el := rfl
@[simp] theorem State.modApt_pwr (s : State) (n : Nat) (g : Apt → Apt) : (s.modApt n g).pwr = s.pwr := rfl
@[simp] theorem State.modApt_fc (s : State) (n : Nat) (g : Apt → Apt) : (s.modApt n g).fc = s.fc := rfl
@[simp] theorem State.modApt_lin (s : State) (n : Nat) (g : Apt → Apt) : (s.modApt n g).lin = s.lin := rfl
@[simp] theorem State.modApt_bh (s : State) (n : Nat) (g : Apt → Apt) : (s.modApt n g).bh = s.bh := rfl
@[simp] theorem State.modApt_out (s : State) (n : Nat) (g : Apt → Apt) : (s.modApt n g).out = s.out := rfl
@[simp] theorem State.modApt_freeIdx (s : State) (n : Nat) (g : Apt → Apt) : (s.modApt n g).freeIdx = s.freeIdx := rfl
@[simp] theorem State.modApt_pending (s : State) (n : Nat) (g : Apt → Apt) : (s.modApt n g).pending = s.pending := rfl

/-! ## State.modIwin -/

@[simp] theorem State.modIwin_boot (s : State) (n : Nat) (g : Iwin → Iwin) : (s.modIwin n g).boot = s.boot := rfl
@[simp] theorem State.modIwin_clk (s : State) (n : Nat) (g : Iwin → Iwin) : (s.modIwin n g).clk = s.clk := rfl
@[simp] theorem State.modIwin_link (s : State) (n : Nat) (g : Iwin → Iwin) : (s.modIwin n g).link = s.link := rfl
@[simp] theorem State.modIwin_fns (s : State) (n : Nat) (g : Iwin → Iwin) : (s.modIwin n g).fns = s.fns := rfl
@[simp] theorem State.modIwin_prov (s : State) (n : Nat) (g : Iwin → Iwin) : (s.modIwin n g).prov = s.prov := rfl
@[simp] theorem State.modIwin_qps (s : State) (n : Nat) (g : Iwin → Iwin) : (s.modIwin n g).qps = s.qps := rfl
@[simp] theorem State.modIwin_units (s : State) (n : Nat) (g : Iwin → Iwin) : (s.modIwin n g).units = s.units := rfl
@[simp] theorem State.modIwin_nextUnit (s : State) (n : Nat) (g : Iwin → Iwin) : (s.modIwin n g).nextUnit = s.nextUnit := rfl
@[simp] theorem State.modIwin_tags (s : State) (n : Nat) (g : Iwin → Iwin) : (s.modIwin n g).tags = s.tags := rfl
@[simp] theorem State.modIwin_waits (s : State) (n : Nat) (g : Iwin → Iwin) : (s.modIwin n g).waits = s.waits := rfl
@[simp] theorem State.modIwin_hostq (s : State) (n : Nat) (g : Iwin → Iwin) : (s.modIwin n g).hostq = s.hostq := rfl
@[simp] theorem State.modIwin_shadow (s : State) (n : Nat) (g : Iwin → Iwin) : (s.modIwin n g).shadow = s.shadow := rfl
@[simp] theorem State.modIwin_stamp (s : State) (n : Nat) (g : Iwin → Iwin) : (s.modIwin n g).stamp = s.stamp := rfl
@[simp] theorem State.modIwin_win (s : State) (n : Nat) (g : Iwin → Iwin) : (s.modIwin n g).win = { s.win with iwins := tmod s.win.iwins n g } := rfl
@[simp] theorem State.modIwin_sti (s : State) (n : Nat) (g : Iwin → Iwin) : (s.modIwin n g).sti = s.sti := rfl
@[simp] theorem State.modIwin_xlt (s : State) (n : Nat) (g : Iwin → Iwin) : (s.modIwin n g).xlt = s.xlt := rfl
@[simp] theorem State.modIwin_plt (s : State) (n : Nat) (g : Iwin → Iwin) : (s.modIwin n g).plt = s.plt := rfl
@[simp] theorem State.modIwin_slvA (s : State) (n : Nat) (g : Iwin → Iwin) : (s.modIwin n g).slvA = s.slvA := rfl
@[simp] theorem State.modIwin_slvB (s : State) (n : Nat) (g : Iwin → Iwin) : (s.modIwin n g).slvB = s.slvB := rfl
@[simp] theorem State.modIwin_tp (s : State) (n : Nat) (g : Iwin → Iwin) : (s.modIwin n g).tp = s.tp := rfl
@[simp] theorem State.modIwin_belt (s : State) (n : Nat) (g : Iwin → Iwin) : (s.modIwin n g).belt = s.belt := rfl
@[simp] theorem State.modIwin_plc (s : State) (n : Nat) (g : Iwin → Iwin) : (s.modIwin n g).plc = s.plc := rfl
@[simp] theorem State.modIwin_el (s : State) (n : Nat) (g : Iwin → Iwin) : (s.modIwin n g).el = s.el := rfl
@[simp] theorem State.modIwin_pwr (s : State) (n : Nat) (g : Iwin → Iwin) : (s.modIwin n g).pwr = s.pwr := rfl
@[simp] theorem State.modIwin_fc (s : State) (n : Nat) (g : Iwin → Iwin) : (s.modIwin n g).fc = s.fc := rfl
@[simp] theorem State.modIwin_lin (s : State) (n : Nat) (g : Iwin → Iwin) : (s.modIwin n g).lin = s.lin := rfl
@[simp] theorem State.modIwin_bh (s : State) (n : Nat) (g : Iwin → Iwin) : (s.modIwin n g).bh = s.bh := rfl
@[simp] theorem State.modIwin_out (s : State) (n : Nat) (g : Iwin → Iwin) : (s.modIwin n g).out = s.out := rfl
@[simp] theorem State.modIwin_freeIdx (s : State) (n : Nat) (g : Iwin → Iwin) : (s.modIwin n g).freeIdx = s.freeIdx := rfl
@[simp] theorem State.modIwin_pending (s : State) (n : Nat) (g : Iwin → Iwin) : (s.modIwin n g).pending = s.pending := rfl

/-! ## State.modFlow -/

@[simp] theorem State.modFlow_boot (s : State) (k : Nat) (g : TxFlow → TxFlow) : (s.modFlow k g).boot = s.boot := rfl
@[simp] theorem State.modFlow_clk (s : State) (k : Nat) (g : TxFlow → TxFlow) : (s.modFlow k g).clk = s.clk := rfl
@[simp] theorem State.modFlow_link (s : State) (k : Nat) (g : TxFlow → TxFlow) : (s.modFlow k g).link = s.link := rfl
@[simp] theorem State.modFlow_fns (s : State) (k : Nat) (g : TxFlow → TxFlow) : (s.modFlow k g).fns = s.fns := rfl
@[simp] theorem State.modFlow_prov (s : State) (k : Nat) (g : TxFlow → TxFlow) : (s.modFlow k g).prov = s.prov := rfl
@[simp] theorem State.modFlow_qps (s : State) (k : Nat) (g : TxFlow → TxFlow) : (s.modFlow k g).qps = s.qps := rfl
@[simp] theorem State.modFlow_units (s : State) (k : Nat) (g : TxFlow → TxFlow) : (s.modFlow k g).units = s.units := rfl
@[simp] theorem State.modFlow_nextUnit (s : State) (k : Nat) (g : TxFlow → TxFlow) : (s.modFlow k g).nextUnit = s.nextUnit := rfl
@[simp] theorem State.modFlow_tags (s : State) (k : Nat) (g : TxFlow → TxFlow) : (s.modFlow k g).tags = s.tags := rfl
@[simp] theorem State.modFlow_waits (s : State) (k : Nat) (g : TxFlow → TxFlow) : (s.modFlow k g).waits = s.waits := rfl
@[simp] theorem State.modFlow_hostq (s : State) (k : Nat) (g : TxFlow → TxFlow) : (s.modFlow k g).hostq = s.hostq := rfl
@[simp] theorem State.modFlow_shadow (s : State) (k : Nat) (g : TxFlow → TxFlow) : (s.modFlow k g).shadow = s.shadow := rfl
@[simp] theorem State.modFlow_stamp (s : State) (k : Nat) (g : TxFlow → TxFlow) : (s.modFlow k g).stamp = s.stamp := rfl
@[simp] theorem State.modFlow_win (s : State) (k : Nat) (g : TxFlow → TxFlow) : (s.modFlow k g).win = s.win := rfl
@[simp] theorem State.modFlow_sti (s : State) (k : Nat) (g : TxFlow → TxFlow) : (s.modFlow k g).sti = s.sti := rfl
@[simp] theorem State.modFlow_xlt (s : State) (k : Nat) (g : TxFlow → TxFlow) : (s.modFlow k g).xlt = s.xlt := rfl
@[simp] theorem State.modFlow_plt (s : State) (k : Nat) (g : TxFlow → TxFlow) : (s.modFlow k g).plt = s.plt := rfl
@[simp] theorem State.modFlow_slvA (s : State) (k : Nat) (g : TxFlow → TxFlow) : (s.modFlow k g).slvA = s.slvA := rfl
@[simp] theorem State.modFlow_slvB (s : State) (k : Nat) (g : TxFlow → TxFlow) : (s.modFlow k g).slvB = s.slvB := rfl
@[simp] theorem State.modFlow_tp (s : State) (k : Nat) (g : TxFlow → TxFlow) : (s.modFlow k g).tp = { s.tp with tx := tmod s.tp.tx k g } := rfl
@[simp] theorem State.modFlow_belt (s : State) (k : Nat) (g : TxFlow → TxFlow) : (s.modFlow k g).belt = s.belt := rfl
@[simp] theorem State.modFlow_plc (s : State) (k : Nat) (g : TxFlow → TxFlow) : (s.modFlow k g).plc = s.plc := rfl
@[simp] theorem State.modFlow_el (s : State) (k : Nat) (g : TxFlow → TxFlow) : (s.modFlow k g).el = s.el := rfl
@[simp] theorem State.modFlow_pwr (s : State) (k : Nat) (g : TxFlow → TxFlow) : (s.modFlow k g).pwr = s.pwr := rfl
@[simp] theorem State.modFlow_fc (s : State) (k : Nat) (g : TxFlow → TxFlow) : (s.modFlow k g).fc = s.fc := rfl
@[simp] theorem State.modFlow_lin (s : State) (k : Nat) (g : TxFlow → TxFlow) : (s.modFlow k g).lin = s.lin := rfl
@[simp] theorem State.modFlow_bh (s : State) (k : Nat) (g : TxFlow → TxFlow) : (s.modFlow k g).bh = s.bh := rfl
@[simp] theorem State.modFlow_out (s : State) (k : Nat) (g : TxFlow → TxFlow) : (s.modFlow k g).out = s.out := rfl
@[simp] theorem State.modFlow_freeIdx (s : State) (k : Nat) (g : TxFlow → TxFlow) : (s.modFlow k g).freeIdx = s.freeIdx := rfl
@[simp] theorem State.modFlow_pending (s : State) (k : Nat) (g : TxFlow → TxFlow) : (s.modFlow k g).pending = s.pending := rfl

/-! ## State.modRx -/

@[simp] theorem State.modRx_boot (s : State) (k : Nat) (g : RxFlow → RxFlow) : (s.modRx k g).boot = s.boot := rfl
@[simp] theorem State.modRx_clk (s : State) (k : Nat) (g : RxFlow → RxFlow) : (s.modRx k g).clk = s.clk := rfl
@[simp] theorem State.modRx_link (s : State) (k : Nat) (g : RxFlow → RxFlow) : (s.modRx k g).link = s.link := rfl
@[simp] theorem State.modRx_fns (s : State) (k : Nat) (g : RxFlow → RxFlow) : (s.modRx k g).fns = s.fns := rfl
@[simp] theorem State.modRx_prov (s : State) (k : Nat) (g : RxFlow → RxFlow) : (s.modRx k g).prov = s.prov := rfl
@[simp] theorem State.modRx_qps (s : State) (k : Nat) (g : RxFlow → RxFlow) : (s.modRx k g).qps = s.qps := rfl
@[simp] theorem State.modRx_units (s : State) (k : Nat) (g : RxFlow → RxFlow) : (s.modRx k g).units = s.units := rfl
@[simp] theorem State.modRx_nextUnit (s : State) (k : Nat) (g : RxFlow → RxFlow) : (s.modRx k g).nextUnit = s.nextUnit := rfl
@[simp] theorem State.modRx_tags (s : State) (k : Nat) (g : RxFlow → RxFlow) : (s.modRx k g).tags = s.tags := rfl
@[simp] theorem State.modRx_waits (s : State) (k : Nat) (g : RxFlow → RxFlow) : (s.modRx k g).waits = s.waits := rfl
@[simp] theorem State.modRx_hostq (s : State) (k : Nat) (g : RxFlow → RxFlow) : (s.modRx k g).hostq = s.hostq := rfl
@[simp] theorem State.modRx_shadow (s : State) (k : Nat) (g : RxFlow → RxFlow) : (s.modRx k g).shadow = s.shadow := rfl
@[simp] theorem State.modRx_stamp (s : State) (k : Nat) (g : RxFlow → RxFlow) : (s.modRx k g).stamp = s.stamp := rfl
@[simp] theorem State.modRx_win (s : State) (k : Nat) (g : RxFlow → RxFlow) : (s.modRx k g).win = s.win := rfl
@[simp] theorem State.modRx_sti (s : State) (k : Nat) (g : RxFlow → RxFlow) : (s.modRx k g).sti = s.sti := rfl
@[simp] theorem State.modRx_xlt (s : State) (k : Nat) (g : RxFlow → RxFlow) : (s.modRx k g).xlt = s.xlt := rfl
@[simp] theorem State.modRx_plt (s : State) (k : Nat) (g : RxFlow → RxFlow) : (s.modRx k g).plt = s.plt := rfl
@[simp] theorem State.modRx_slvA (s : State) (k : Nat) (g : RxFlow → RxFlow) : (s.modRx k g).slvA = s.slvA := rfl
@[simp] theorem State.modRx_slvB (s : State) (k : Nat) (g : RxFlow → RxFlow) : (s.modRx k g).slvB = s.slvB := rfl
@[simp] theorem State.modRx_tp (s : State) (k : Nat) (g : RxFlow → RxFlow) : (s.modRx k g).tp = { s.tp with rx := tmod s.tp.rx k g } := rfl
@[simp] theorem State.modRx_belt (s : State) (k : Nat) (g : RxFlow → RxFlow) : (s.modRx k g).belt = s.belt := rfl
@[simp] theorem State.modRx_plc (s : State) (k : Nat) (g : RxFlow → RxFlow) : (s.modRx k g).plc = s.plc := rfl
@[simp] theorem State.modRx_el (s : State) (k : Nat) (g : RxFlow → RxFlow) : (s.modRx k g).el = s.el := rfl
@[simp] theorem State.modRx_pwr (s : State) (k : Nat) (g : RxFlow → RxFlow) : (s.modRx k g).pwr = s.pwr := rfl
@[simp] theorem State.modRx_fc (s : State) (k : Nat) (g : RxFlow → RxFlow) : (s.modRx k g).fc = s.fc := rfl
@[simp] theorem State.modRx_lin (s : State) (k : Nat) (g : RxFlow → RxFlow) : (s.modRx k g).lin = s.lin := rfl
@[simp] theorem State.modRx_bh (s : State) (k : Nat) (g : RxFlow → RxFlow) : (s.modRx k g).bh = s.bh := rfl
@[simp] theorem State.modRx_out (s : State) (k : Nat) (g : RxFlow → RxFlow) : (s.modRx k g).out = s.out := rfl
@[simp] theorem State.modRx_freeIdx (s : State) (k : Nat) (g : RxFlow → RxFlow) : (s.modRx k g).freeIdx = s.freeIdx := rfl
@[simp] theorem State.modRx_pending (s : State) (k : Nat) (g : RxFlow → RxFlow) : (s.modRx k g).pending = s.pending := rfl

/-! ## State.modBelt -/

@[simp] theorem State.modBelt_boot (s : State) (g : Belt → Belt) : (s.modBelt g).boot = s.boot := rfl
@[simp] theorem State.modBelt_clk (s : State) (g : Belt → Belt) : (s.modBelt g).clk = s.clk := rfl
@[simp] theorem State.modBelt_link (s : State) (g : Belt → Belt) : (s.modBelt g).link = s.link := rfl
@[simp] theorem State.modBelt_fns (s : State) (g : Belt → Belt) : (s.modBelt g).fns = s.fns := rfl
@[simp] theorem State.modBelt_prov (s : State) (g : Belt → Belt) : (s.modBelt g).prov = s.prov := rfl
@[simp] theorem State.modBelt_qps (s : State) (g : Belt → Belt) : (s.modBelt g).qps = s.qps := rfl
@[simp] theorem State.modBelt_units (s : State) (g : Belt → Belt) : (s.modBelt g).units = s.units := rfl
@[simp] theorem State.modBelt_nextUnit (s : State) (g : Belt → Belt) : (s.modBelt g).nextUnit = s.nextUnit := rfl
@[simp] theorem State.modBelt_tags (s : State) (g : Belt → Belt) : (s.modBelt g).tags = s.tags := rfl
@[simp] theorem State.modBelt_waits (s : State) (g : Belt → Belt) : (s.modBelt g).waits = s.waits := rfl
@[simp] theorem State.modBelt_hostq (s : State) (g : Belt → Belt) : (s.modBelt g).hostq = s.hostq := rfl
@[simp] theorem State.modBelt_shadow (s : State) (g : Belt → Belt) : (s.modBelt g).shadow = s.shadow := rfl
@[simp] theorem State.modBelt_stamp (s : State) (g : Belt → Belt) : (s.modBelt g).stamp = s.stamp := rfl
@[simp] theorem State.modBelt_win (s : State) (g : Belt → Belt) : (s.modBelt g).win = s.win := rfl
@[simp] theorem State.modBelt_sti (s : State) (g : Belt → Belt) : (s.modBelt g).sti = s.sti := rfl
@[simp] theorem State.modBelt_xlt (s : State) (g : Belt → Belt) : (s.modBelt g).xlt = s.xlt := rfl
@[simp] theorem State.modBelt_plt (s : State) (g : Belt → Belt) : (s.modBelt g).plt = s.plt := rfl
@[simp] theorem State.modBelt_slvA (s : State) (g : Belt → Belt) : (s.modBelt g).slvA = s.slvA := rfl
@[simp] theorem State.modBelt_slvB (s : State) (g : Belt → Belt) : (s.modBelt g).slvB = s.slvB := rfl
@[simp] theorem State.modBelt_tp (s : State) (g : Belt → Belt) : (s.modBelt g).tp = s.tp := rfl
@[simp] theorem State.modBelt_belt (s : State) (g : Belt → Belt) : (s.modBelt g).belt = g s.belt := rfl
@[simp] theorem State.modBelt_plc (s : State) (g : Belt → Belt) : (s.modBelt g).plc = s.plc := rfl
@[simp] theorem State.modBelt_el (s : State) (g : Belt → Belt) : (s.modBelt g).el = s.el := rfl
@[simp] theorem State.modBelt_pwr (s : State) (g : Belt → Belt) : (s.modBelt g).pwr = s.pwr := rfl
@[simp] theorem State.modBelt_fc (s : State) (g : Belt → Belt) : (s.modBelt g).fc = s.fc := rfl
@[simp] theorem State.modBelt_lin (s : State) (g : Belt → Belt) : (s.modBelt g).lin = s.lin := rfl
@[simp] theorem State.modBelt_bh (s : State) (g : Belt → Belt) : (s.modBelt g).bh = s.bh := rfl
@[simp] theorem State.modBelt_out (s : State) (g : Belt → Belt) : (s.modBelt g).out = s.out := rfl
@[simp] theorem State.modBelt_freeIdx (s : State) (g : Belt → Belt) : (s.modBelt g).freeIdx = s.freeIdx := rfl
@[simp] theorem State.modBelt_pending (s : State) (g : Belt → Belt) : (s.modBelt g).pending = s.pending := rfl

/-! ## State.modPlc -/

@[simp] theorem State.modPlc_boot (s : State) (g : Plc → Plc) : (s.modPlc g).boot = s.boot := rfl
@[simp] theorem State.modPlc_clk (s : State) (g : Plc → Plc) : (s.modPlc g).clk = s.clk := rfl
@[simp] theorem State.modPlc_link (s : State) (g : Plc → Plc) : (s.modPlc g).link = s.link := rfl
@[simp] theorem State.modPlc_fns (s : State) (g : Plc → Plc) : (s.modPlc g).fns = s.fns := rfl
@[simp] theorem State.modPlc_prov (s : State) (g : Plc → Plc) : (s.modPlc g).prov = s.prov := rfl
@[simp] theorem State.modPlc_qps (s : State) (g : Plc → Plc) : (s.modPlc g).qps = s.qps := rfl
@[simp] theorem State.modPlc_units (s : State) (g : Plc → Plc) : (s.modPlc g).units = s.units := rfl
@[simp] theorem State.modPlc_nextUnit (s : State) (g : Plc → Plc) : (s.modPlc g).nextUnit = s.nextUnit := rfl
@[simp] theorem State.modPlc_tags (s : State) (g : Plc → Plc) : (s.modPlc g).tags = s.tags := rfl
@[simp] theorem State.modPlc_waits (s : State) (g : Plc → Plc) : (s.modPlc g).waits = s.waits := rfl
@[simp] theorem State.modPlc_hostq (s : State) (g : Plc → Plc) : (s.modPlc g).hostq = s.hostq := rfl
@[simp] theorem State.modPlc_shadow (s : State) (g : Plc → Plc) : (s.modPlc g).shadow = s.shadow := rfl
@[simp] theorem State.modPlc_stamp (s : State) (g : Plc → Plc) : (s.modPlc g).stamp = s.stamp := rfl
@[simp] theorem State.modPlc_win (s : State) (g : Plc → Plc) : (s.modPlc g).win = s.win := rfl
@[simp] theorem State.modPlc_sti (s : State) (g : Plc → Plc) : (s.modPlc g).sti = s.sti := rfl
@[simp] theorem State.modPlc_xlt (s : State) (g : Plc → Plc) : (s.modPlc g).xlt = s.xlt := rfl
@[simp] theorem State.modPlc_plt (s : State) (g : Plc → Plc) : (s.modPlc g).plt = s.plt := rfl
@[simp] theorem State.modPlc_slvA (s : State) (g : Plc → Plc) : (s.modPlc g).slvA = s.slvA := rfl
@[simp] theorem State.modPlc_slvB (s : State) (g : Plc → Plc) : (s.modPlc g).slvB = s.slvB := rfl
@[simp] theorem State.modPlc_tp (s : State) (g : Plc → Plc) : (s.modPlc g).tp = s.tp := rfl
@[simp] theorem State.modPlc_belt (s : State) (g : Plc → Plc) : (s.modPlc g).belt = s.belt := rfl
@[simp] theorem State.modPlc_plc (s : State) (g : Plc → Plc) : (s.modPlc g).plc = g s.plc := rfl
@[simp] theorem State.modPlc_el (s : State) (g : Plc → Plc) : (s.modPlc g).el = s.el := rfl
@[simp] theorem State.modPlc_pwr (s : State) (g : Plc → Plc) : (s.modPlc g).pwr = s.pwr := rfl
@[simp] theorem State.modPlc_fc (s : State) (g : Plc → Plc) : (s.modPlc g).fc = s.fc := rfl
@[simp] theorem State.modPlc_lin (s : State) (g : Plc → Plc) : (s.modPlc g).lin = s.lin := rfl
@[simp] theorem State.modPlc_bh (s : State) (g : Plc → Plc) : (s.modPlc g).bh = s.bh := rfl
@[simp] theorem State.modPlc_out (s : State) (g : Plc → Plc) : (s.modPlc g).out = s.out := rfl
@[simp] theorem State.modPlc_freeIdx (s : State) (g : Plc → Plc) : (s.modPlc g).freeIdx = s.freeIdx := rfl
@[simp] theorem State.modPlc_pending (s : State) (g : Plc → Plc) : (s.modPlc g).pending = s.pending := rfl

/-! ## State.modEl -/

@[simp] theorem State.modEl_boot (s : State) (g : El → El) : (s.modEl g).boot = s.boot := rfl
@[simp] theorem State.modEl_clk (s : State) (g : El → El) : (s.modEl g).clk = s.clk := rfl
@[simp] theorem State.modEl_link (s : State) (g : El → El) : (s.modEl g).link = s.link := rfl
@[simp] theorem State.modEl_fns (s : State) (g : El → El) : (s.modEl g).fns = s.fns := rfl
@[simp] theorem State.modEl_prov (s : State) (g : El → El) : (s.modEl g).prov = s.prov := rfl
@[simp] theorem State.modEl_qps (s : State) (g : El → El) : (s.modEl g).qps = s.qps := rfl
@[simp] theorem State.modEl_units (s : State) (g : El → El) : (s.modEl g).units = s.units := rfl
@[simp] theorem State.modEl_nextUnit (s : State) (g : El → El) : (s.modEl g).nextUnit = s.nextUnit := rfl
@[simp] theorem State.modEl_tags (s : State) (g : El → El) : (s.modEl g).tags = s.tags := rfl
@[simp] theorem State.modEl_waits (s : State) (g : El → El) : (s.modEl g).waits = s.waits := rfl
@[simp] theorem State.modEl_hostq (s : State) (g : El → El) : (s.modEl g).hostq = s.hostq := rfl
@[simp] theorem State.modEl_shadow (s : State) (g : El → El) : (s.modEl g).shadow = s.shadow := rfl
@[simp] theorem State.modEl_stamp (s : State) (g : El → El) : (s.modEl g).stamp = s.stamp := rfl
@[simp] theorem State.modEl_win (s : State) (g : El → El) : (s.modEl g).win = s.win := rfl
@[simp] theorem State.modEl_sti (s : State) (g : El → El) : (s.modEl g).sti = s.sti := rfl
@[simp] theorem State.modEl_xlt (s : State) (g : El → El) : (s.modEl g).xlt = s.xlt := rfl
@[simp] theorem State.modEl_plt (s : State) (g : El → El) : (s.modEl g).plt = s.plt := rfl
@[simp] theorem State.modEl_slvA (s : State) (g : El → El) : (s.modEl g).slvA = s.slvA := rfl
@[simp] theorem State.modEl_slvB (s : State) (g : El → El) : (s.modEl g).slvB = s.slvB := rfl
@[simp] theorem State.modEl_tp (s : State) (g : El → El) : (s.modEl g).tp = s.tp := rfl
@[simp] theorem State.modEl_belt (s : State) (g : El → El) : (s.modEl g).belt = s.belt := rfl
@[simp] theorem State.modEl_plc (s : State) (g : El → El) : (s.modEl g).plc = s.plc := rfl
@[simp] theorem State.modEl_el (s : State) (g : El → El) : (s.modEl g).el = g s.el := rfl
@[simp] theorem State.modEl_pwr (s : State) (g : El → El) : (s.modEl g).pwr = s.pwr := rfl
@[simp] theorem State.modEl_fc (s : State) (g : El → El) : (s.modEl g).fc = s.fc := rfl
@[simp] theorem State.modEl_lin (s : State) (g : El → El) : (s.modEl g).lin = s.lin := rfl
@[simp] theorem State.modEl_bh (s : State) (g : El → El) : (s.modEl g).bh = s.bh := rfl
@[simp] theorem State.modEl_out (s : State) (g : El → El) : (s.modEl g).out = s.out := rfl
@[simp] theorem State.modEl_freeIdx (s : State) (g : El → El) : (s.modEl g).freeIdx = s.freeIdx := rfl
@[simp] theorem State.modEl_pending (s : State) (g : El → El) : (s.modEl g).pending = s.pending := rfl

/-! ## State.modDom -/

@[simp] theorem State.modDom_boot (s : State) (d : Domain) (g : Dom → Dom) : (s.modDom d g).boot = s.boot := rfl
@[simp] theorem State.modDom_clk (s : State) (d : Domain) (g : Dom → Dom) : (s.modDom d g).clk = s.clk := rfl
@[simp] theorem State.modDom_link (s : State) (d : Domain) (g : Dom → Dom) : (s.modDom d g).link = s.link := rfl
@[simp] theorem State.modDom_fns (s : State) (d : Domain) (g : Dom → Dom) : (s.modDom d g).fns = s.fns := rfl
@[simp] theorem State.modDom_prov (s : State) (d : Domain) (g : Dom → Dom) : (s.modDom d g).prov = s.prov := rfl
@[simp] theorem State.modDom_qps (s : State) (d : Domain) (g : Dom → Dom) : (s.modDom d g).qps = s.qps := rfl
@[simp] theorem State.modDom_units (s : State) (d : Domain) (g : Dom → Dom) : (s.modDom d g).units = s.units := rfl
@[simp] theorem State.modDom_nextUnit (s : State) (d : Domain) (g : Dom → Dom) : (s.modDom d g).nextUnit = s.nextUnit := rfl
@[simp] theorem State.modDom_tags (s : State) (d : Domain) (g : Dom → Dom) : (s.modDom d g).tags = s.tags := rfl
@[simp] theorem State.modDom_waits (s : State) (d : Domain) (g : Dom → Dom) : (s.modDom d g).waits = s.waits := rfl
@[simp] theorem State.modDom_hostq (s : State) (d : Domain) (g : Dom → Dom) : (s.modDom d g).hostq = s.hostq := rfl
@[simp] theorem State.modDom_shadow (s : State) (d : Domain) (g : Dom → Dom) : (s.modDom d g).shadow = s.shadow := rfl
@[simp] theorem State.modDom_stamp (s : State) (d : Domain) (g : Dom → Dom) : (s.modDom d g).stamp = s.stamp := rfl
@[simp] theorem State.modDom_win (s : State) (d : Domain) (g : Dom → Dom) : (s.modDom d g).win = s.win := rfl
@[simp] theorem State.modDom_sti (s : State) (d : Domain) (g : Dom → Dom) : (s.modDom d g).sti = s.sti := rfl
@[simp] theorem State.modDom_xlt (s : State) (d : Domain) (g : Dom → Dom) : (s.modDom d g).xlt = s.xlt := rfl
@[simp] theorem State.modDom_plt (s : State) (d : Domain) (g : Dom → Dom) : (s.modDom d g).plt = s.plt := rfl
@[simp] theorem State.modDom_slvA (s : State) (d : Domain) (g : Dom → Dom) : (s.modDom d g).slvA = s.slvA := rfl
@[simp] theorem State.modDom_slvB (s : State) (d : Domain) (g : Dom → Dom) : (s.modDom d g).slvB = s.slvB := rfl
@[simp] theorem State.modDom_tp (s : State) (d : Domain) (g : Dom → Dom) : (s.modDom d g).tp = s.tp := rfl
@[simp] theorem State.modDom_belt (s : State) (d : Domain) (g : Dom → Dom) : (s.modDom d g).belt = s.belt := rfl
@[simp] theorem State.modDom_plc (s : State) (d : Domain) (g : Dom → Dom) : (s.modDom d g).plc = s.plc := rfl
@[simp] theorem State.modDom_el (s : State) (d : Domain) (g : Dom → Dom) : (s.modDom d g).el = s.el := rfl
@[simp] theorem State.modDom_pwr (s : State) (d : Domain) (g : Dom → Dom) : (s.modDom d g).pwr = { s.pwr with doms := lmod s.pwr.doms d.num g } := rfl
@[simp] theorem State.modDom_fc (s : State) (d : Domain) (g : Dom → Dom) : (s.modDom d g).fc = s.fc := rfl
@[simp] theorem State.modDom_lin (s : State) (d : Domain) (g : Dom → Dom) : (s.modDom d g).lin = s.lin := rfl
@[simp] theorem State.modDom_bh (s : State) (d : Domain) (g : Dom → Dom) : (s.modDom d g).bh = s.bh := rfl
@[simp] theorem State.modDom_out (s : State) (d : Domain) (g : Dom → Dom) : (s.modDom d g).out = s.out := rfl
@[simp] theorem State.modDom_freeIdx (s : State) (d : Domain) (g : Dom → Dom) : (s.modDom d g).freeIdx = s.freeIdx := rfl
@[simp] theorem State.modDom_pending (s : State) (d : Domain) (g : Dom → Dom) : (s.modDom d g).pending = s.pending := rfl

/-! ## State.modLin -/

@[simp] theorem State.modLin_boot (s : State) (g : Lin → Lin) : (s.modLin g).boot = s.boot := rfl
@[simp] theorem State.modLin_clk (s : State) (g : Lin → Lin) : (s.modLin g).clk = s.clk := rfl
@[simp] theorem State.modLin_link (s : State) (g : Lin → Lin) : (s.modLin g).link = s.link := rfl
@[simp] theorem State.modLin_fns (s : State) (g : Lin → Lin) : (s.modLin g).fns = s.fns := rfl
@[simp] theorem State.modLin_prov (s : State) (g : Lin → Lin) : (s.modLin g).prov = s.prov := rfl
@[simp] theorem State.modLin_qps (s : State) (g : Lin → Lin) : (s.modLin g).qps = s.qps := rfl
@[simp] theorem State.modLin_units (s : State) (g : Lin → Lin) : (s.modLin g).units = s.units := rfl
@[simp] theorem State.modLin_nextUnit (s : State) (g : Lin → Lin) : (s.modLin g).nextUnit = s.nextUnit := rfl
@[simp] theorem State.modLin_tags (s : State) (g : Lin → Lin) : (s.modLin g).tags = s.tags := rfl
@[simp] theorem State.modLin_waits (s : State) (g : Lin → Lin) : (s.modLin g).waits = s.waits := rfl
@[simp] theorem State.modLin_hostq (s : State) (g : Lin → Lin) : (s.modLin g).hostq = s.hostq := rfl
@[simp] theorem State.modLin_shadow (s : State) (g : Lin → Lin) : (s.modLin g).shadow = s.shadow := rfl
@[simp] theorem State.modLin_stamp (s : State) (g : Lin → Lin) : (s.modLin g).stamp = s.stamp := rfl
@[simp] theorem State.modLin_win (s : State) (g : Lin → Lin) : (s.modLin g).win = s.win := rfl
@[simp] theorem State.modLin_sti (s : State) (g : Lin → Lin) : (s.modLin g).sti = s.sti := rfl
@[simp] theorem State.modLin_xlt (s : State) (g : Lin → Lin) : (s.modLin g).xlt = s.xlt := rfl
@[simp] theorem State.modLin_plt (s : State) (g : Lin → Lin) : (s.modLin g).plt = s.plt := rfl
@[simp] theorem State.modLin_slvA (s : State) (g : Lin → Lin) : (s.modLin g).slvA = s.slvA := rfl
@[simp] theorem State.modLin_slvB (s : State) (g : Lin → Lin) : (s.modLin g).slvB = s.slvB := rfl
@[simp] theorem State.modLin_tp (s : State) (g : Lin → Lin) : (s.modLin g).tp = s.tp := rfl
@[simp] theorem State.modLin_belt (s : State) (g : Lin → Lin) : (s.modLin g).belt = s.belt := rfl
@[simp] theorem State.modLin_plc (s : State) (g : Lin → Lin) : (s.modLin g).plc = s.plc := rfl
@[simp] theorem State.modLin_el (s : State) (g : Lin → Lin) : (s.modLin g).el = s.el := rfl
@[simp] theorem State.modLin_pwr (s : State) (g : Lin → Lin) : (s.modLin g).pwr = s.pwr := rfl
@[simp] theorem State.modLin_fc (s : State) (g : Lin → Lin) : (s.modLin g).fc = s.fc := rfl
@[simp] theorem State.modLin_lin (s : State) (g : Lin → Lin) : (s.modLin g).lin = g s.lin := rfl
@[simp] theorem State.modLin_bh (s : State) (g : Lin → Lin) : (s.modLin g).bh = s.bh := rfl
@[simp] theorem State.modLin_out (s : State) (g : Lin → Lin) : (s.modLin g).out = s.out := rfl
@[simp] theorem State.modLin_freeIdx (s : State) (g : Lin → Lin) : (s.modLin g).freeIdx = s.freeIdx := rfl
@[simp] theorem State.modLin_pending (s : State) (g : Lin → Lin) : (s.modLin g).pending = s.pending := rfl

/-! ## State.setBh -/

@[simp] theorem State.setBh_boot (s : State) (b : Bh) : (s.setBh b).boot = s.boot := rfl
@[simp] theorem State.setBh_clk (s : State) (b : Bh) : (s.setBh b).clk = s.clk := rfl
@[simp] theorem State.setBh_link (s : State) (b : Bh) : (s.setBh b).link = s.link := rfl
@[simp] theorem State.setBh_fns (s : State) (b : Bh) : (s.setBh b).fns = s.fns := rfl
@[simp] theorem State.setBh_prov (s : State) (b : Bh) : (s.setBh b).prov = s.prov := rfl
@[simp] theorem State.setBh_qps (s : State) (b : Bh) : (s.setBh b).qps = s.qps := rfl
@[simp] theorem State.setBh_units (s : State) (b : Bh) : (s.setBh b).units = s.units := rfl
@[simp] theorem State.setBh_nextUnit (s : State) (b : Bh) : (s.setBh b).nextUnit = s.nextUnit := rfl
@[simp] theorem State.setBh_tags (s : State) (b : Bh) : (s.setBh b).tags = s.tags := rfl
@[simp] theorem State.setBh_waits (s : State) (b : Bh) : (s.setBh b).waits = s.waits := rfl
@[simp] theorem State.setBh_hostq (s : State) (b : Bh) : (s.setBh b).hostq = s.hostq := rfl
@[simp] theorem State.setBh_shadow (s : State) (b : Bh) : (s.setBh b).shadow = s.shadow := rfl
@[simp] theorem State.setBh_stamp (s : State) (b : Bh) : (s.setBh b).stamp = s.stamp := rfl
@[simp] theorem State.setBh_win (s : State) (b : Bh) : (s.setBh b).win = s.win := rfl
@[simp] theorem State.setBh_sti (s : State) (b : Bh) : (s.setBh b).sti = s.sti := rfl
@[simp] theorem State.setBh_xlt (s : State) (b : Bh) : (s.setBh b).xlt = s.xlt := rfl
@[simp] theorem State.setBh_plt (s : State) (b : Bh) : (s.setBh b).plt = s.plt := rfl
@[simp] theorem State.setBh_slvA (s : State) (b : Bh) : (s.setBh b).slvA = s.slvA := rfl
@[simp] theorem State.setBh_slvB (s : State) (b : Bh) : (s.setBh b).slvB = s.slvB := rfl
@[simp] theorem State.setBh_tp (s : State) (b : Bh) : (s.setBh b).tp = s.tp := rfl
@[simp] theorem State.setBh_belt (s : State) (b : Bh) : (s.setBh b).belt = s.belt := rfl
@[simp] theorem State.setBh_plc (s : State) (b : Bh) : (s.setBh b).plc = s.plc := rfl
@[simp] theorem State.setBh_el (s : State) (b : Bh) : (s.setBh b).el = s.el := rfl
@[simp] theorem State.setBh_pwr (s : State) (b : Bh) : (s.setBh b).pwr = s.pwr := rfl
@[simp] theorem State.setBh_fc (s : State) (b : Bh) : (s.setBh b).fc = s.fc := rfl
@[simp] theorem State.setBh_lin (s : State) (b : Bh) : (s.setBh b).lin = s.lin := rfl
@[simp] theorem State.setBh_bh (s : State) (b : Bh) : (s.setBh b).bh = b := rfl
@[simp] theorem State.setBh_out (s : State) (b : Bh) : (s.setBh b).out = s.out := rfl
@[simp] theorem State.setBh_freeIdx (s : State) (b : Bh) : (s.setBh b).freeIdx = s.freeIdx := rfl
@[simp] theorem State.setBh_pending (s : State) (b : Bh) : (s.setBh b).pending = s.pending := rfl

/-! ## State.raise -/

@[simp] theorem State.raise_boot (s : State) (n : Nat) (r : FaultRec) : (s.raise n r).boot = s.boot := rfl
@[simp] theorem State.raise_clk (s : State) (n : Nat) (r : FaultRec) : (s.raise n r).clk = s.clk := rfl
@[simp] theorem State.raise_link (s : State) (n : Nat) (r : FaultRec) : (s.raise n r).link = s.link := rfl
@[simp] theorem State.raise_fns (s : State) (n : Nat) (r : FaultRec) : (s.raise n r).fns = s.fns := rfl
@[simp] theorem State.raise_prov (s : State) (n : Nat) (r : FaultRec) : (s.raise n r).prov = s.prov := rfl
@[simp] theorem State.raise_qps (s : State) (n : Nat) (r : FaultRec) : (s.raise n r).qps = s.qps := rfl
@[simp] theorem State.raise_units (s : State) (n : Nat) (r : FaultRec) : (s.raise n r).units = s.units := rfl
@[simp] theorem State.raise_nextUnit (s : State) (n : Nat) (r : FaultRec) : (s.raise n r).nextUnit = s.nextUnit := rfl
@[simp] theorem State.raise_tags (s : State) (n : Nat) (r : FaultRec) : (s.raise n r).tags = s.tags := rfl
@[simp] theorem State.raise_waits (s : State) (n : Nat) (r : FaultRec) : (s.raise n r).waits = s.waits := rfl
@[simp] theorem State.raise_hostq (s : State) (n : Nat) (r : FaultRec) : (s.raise n r).hostq = s.hostq := rfl
@[simp] theorem State.raise_shadow (s : State) (n : Nat) (r : FaultRec) : (s.raise n r).shadow = s.shadow := rfl
@[simp] theorem State.raise_stamp (s : State) (n : Nat) (r : FaultRec) : (s.raise n r).stamp = s.stamp := rfl
@[simp] theorem State.raise_win (s : State) (n : Nat) (r : FaultRec) : (s.raise n r).win = s.win := rfl
@[simp] theorem State.raise_sti (s : State) (n : Nat) (r : FaultRec) : (s.raise n r).sti = s.sti := rfl
@[simp] theorem State.raise_xlt (s : State) (n : Nat) (r : FaultRec) : (s.raise n r).xlt = s.xlt := rfl
@[simp] theorem State.raise_plt (s : State) (n : Nat) (r : FaultRec) : (s.raise n r).plt = s.plt := rfl
@[simp] theorem State.raise_slvA (s : State) (n : Nat) (r : FaultRec) : (s.raise n r).slvA = s.slvA := rfl
@[simp] theorem State.raise_slvB (s : State) (n : Nat) (r : FaultRec) : (s.raise n r).slvB = s.slvB := rfl
@[simp] theorem State.raise_tp (s : State) (n : Nat) (r : FaultRec) : (s.raise n r).tp = s.tp := rfl
@[simp] theorem State.raise_belt (s : State) (n : Nat) (r : FaultRec) : (s.raise n r).belt = s.belt := rfl
@[simp] theorem State.raise_plc (s : State) (n : Nat) (r : FaultRec) : (s.raise n r).plc = s.plc := rfl
@[simp] theorem State.raise_el (s : State) (n : Nat) (r : FaultRec) : (s.raise n r).el = s.el := rfl
@[simp] theorem State.raise_pwr (s : State) (n : Nat) (r : FaultRec) : (s.raise n r).pwr = s.pwr := rfl
@[simp] theorem State.raise_fc (s : State) (n : Nat) (r : FaultRec) : (s.raise n r).fc = { s.fc with asserted := s.fc.asserted ++ [(n, r)] } := rfl
@[simp] theorem State.raise_lin (s : State) (n : Nat) (r : FaultRec) : (s.raise n r).lin = s.lin := rfl
@[simp] theorem State.raise_bh (s : State) (n : Nat) (r : FaultRec) : (s.raise n r).bh = s.bh := rfl
@[simp] theorem State.raise_out (s : State) (n : Nat) (r : FaultRec) : (s.raise n r).out = s.out := rfl
@[simp] theorem State.raise_freeIdx (s : State) (n : Nat) (r : FaultRec) : (s.raise n r).freeIdx = s.freeIdx := rfl
@[simp] theorem State.raise_pending (s : State) (n : Nat) (r : FaultRec) : (s.raise n r).pending = s.pending := rfl

/-! ## State.emit -/

@[simp] theorem State.emit_boot (s : State) (e : Emission) : (s.emit e).boot = s.boot := rfl
@[simp] theorem State.emit_clk (s : State) (e : Emission) : (s.emit e).clk = s.clk := rfl
@[simp] theorem State.emit_link (s : State) (e : Emission) : (s.emit e).link = s.link := rfl
@[simp] theorem State.emit_fns (s : State) (e : Emission) : (s.emit e).fns = s.fns := rfl
@[simp] theorem State.emit_prov (s : State) (e : Emission) : (s.emit e).prov = s.prov := rfl
@[simp] theorem State.emit_qps (s : State) (e : Emission) : (s.emit e).qps = s.qps := rfl
@[simp] theorem State.emit_units (s : State) (e : Emission) : (s.emit e).units = s.units := rfl
@[simp] theorem State.emit_nextUnit (s : State) (e : Emission) : (s.emit e).nextUnit = s.nextUnit := rfl
@[simp] theorem State.emit_tags (s : State) (e : Emission) : (s.emit e).tags = s.tags := rfl
@[simp] theorem State.emit_waits (s : State) (e : Emission) : (s.emit e).waits = s.waits := rfl
@[simp] theorem State.emit_hostq (s : State) (e : Emission) : (s.emit e).hostq = s.hostq := rfl
@[simp] theorem State.emit_shadow (s : State) (e : Emission) : (s.emit e).shadow = s.shadow := rfl
@[simp] theorem State.emit_stamp (s : State) (e : Emission) : (s.emit e).stamp = s.stamp := rfl
@[simp] theorem State.emit_win (s : State) (e : Emission) : (s.emit e).win = s.win := rfl
@[simp] theorem State.emit_sti (s : State) (e : Emission) : (s.emit e).sti = s.sti := rfl
@[simp] theorem State.emit_xlt (s : State) (e : Emission) : (s.emit e).xlt = s.xlt := rfl
@[simp] theorem State.emit_plt (s : State) (e : Emission) : (s.emit e).plt = s.plt := rfl
@[simp] theorem State.emit_slvA (s : State) (e : Emission) : (s.emit e).slvA = s.slvA := rfl
@[simp] theorem State.emit_slvB (s : State) (e : Emission) : (s.emit e).slvB = s.slvB := rfl
@[simp] theorem State.emit_tp (s : State) (e : Emission) : (s.emit e).tp = s.tp := rfl
@[simp] theorem State.emit_belt (s : State) (e : Emission) : (s.emit e).belt = s.belt := rfl
@[simp] theorem State.emit_plc (s : State) (e : Emission) : (s.emit e).plc = s.plc := rfl
@[simp] theorem State.emit_el (s : State) (e : Emission) : (s.emit e).el = s.el := rfl
@[simp] theorem State.emit_pwr (s : State) (e : Emission) : (s.emit e).pwr = s.pwr := rfl
@[simp] theorem State.emit_fc (s : State) (e : Emission) : (s.emit e).fc = s.fc := rfl
@[simp] theorem State.emit_lin (s : State) (e : Emission) : (s.emit e).lin = s.lin := rfl
@[simp] theorem State.emit_bh (s : State) (e : Emission) : (s.emit e).bh = s.bh := rfl
@[simp] theorem State.emit_out (s : State) (e : Emission) : (s.emit e).out = s.out ++ [e] := rfl
@[simp] theorem State.emit_freeIdx (s : State) (e : Emission) : (s.emit e).freeIdx = s.freeIdx := rfl
@[simp] theorem State.emit_pending (s : State) (e : Emission) : (s.emit e).pending = s.pending := rfl

/-! ## State.emits -/

@[simp] theorem State.emits_boot (s : State) (l : List Emission) : (s.emits l).boot = s.boot := rfl
@[simp] theorem State.emits_clk (s : State) (l : List Emission) : (s.emits l).clk = s.clk := rfl
@[simp] theorem State.emits_link (s : State) (l : List Emission) : (s.emits l).link = s.link := rfl
@[simp] theorem State.emits_fns (s : State) (l : List Emission) : (s.emits l).fns = s.fns := rfl
@[simp] theorem State.emits_prov (s : State) (l : List Emission) : (s.emits l).prov = s.prov := rfl
@[simp] theorem State.emits_qps (s : State) (l : List Emission) : (s.emits l).qps = s.qps := rfl
@[simp] theorem State.emits_units (s : State) (l : List Emission) : (s.emits l).units = s.units := rfl
@[simp] theorem State.emits_nextUnit (s : State) (l : List Emission) : (s.emits l).nextUnit = s.nextUnit := rfl
@[simp] theorem State.emits_tags (s : State) (l : List Emission) : (s.emits l).tags = s.tags := rfl
@[simp] theorem State.emits_waits (s : State) (l : List Emission) : (s.emits l).waits = s.waits := rfl
@[simp] theorem State.emits_hostq (s : State) (l : List Emission) : (s.emits l).hostq = s.hostq := rfl
@[simp] theorem State.emits_shadow (s : State) (l : List Emission) : (s.emits l).shadow = s.shadow := rfl
@[simp] theorem State.emits_stamp (s : State) (l : List Emission) : (s.emits l).stamp = s.stamp := rfl
@[simp] theorem State.emits_win (s : State) (l : List Emission) : (s.emits l).win = s.win := rfl
@[simp] theorem State.emits_sti (s : State) (l : List Emission) : (s.emits l).sti = s.sti := rfl
@[simp] theorem State.emits_xlt (s : State) (l : List Emission) : (s.emits l).xlt = s.xlt := rfl
@[simp] theorem State.emits_plt (s : State) (l : List Emission) : (s.emits l).plt = s.plt := rfl
@[simp] theorem State.emits_slvA (s : State) (l : List Emission) : (s.emits l).slvA = s.slvA := rfl
@[simp] theorem State.emits_slvB (s : State) (l : List Emission) : (s.emits l).slvB = s.slvB := rfl
@[simp] theorem State.emits_tp (s : State) (l : List Emission) : (s.emits l).tp = s.tp := rfl
@[simp] theorem State.emits_belt (s : State) (l : List Emission) : (s.emits l).belt = s.belt := rfl
@[simp] theorem State.emits_plc (s : State) (l : List Emission) : (s.emits l).plc = s.plc := rfl
@[simp] theorem State.emits_el (s : State) (l : List Emission) : (s.emits l).el = s.el := rfl
@[simp] theorem State.emits_pwr (s : State) (l : List Emission) : (s.emits l).pwr = s.pwr := rfl
@[simp] theorem State.emits_fc (s : State) (l : List Emission) : (s.emits l).fc = s.fc := rfl
@[simp] theorem State.emits_lin (s : State) (l : List Emission) : (s.emits l).lin = s.lin := rfl
@[simp] theorem State.emits_bh (s : State) (l : List Emission) : (s.emits l).bh = s.bh := rfl
@[simp] theorem State.emits_out (s : State) (l : List Emission) : (s.emits l).out = s.out ++ l := rfl
@[simp] theorem State.emits_freeIdx (s : State) (l : List Emission) : (s.emits l).freeIdx = s.freeIdx := rfl
@[simp] theorem State.emits_pending (s : State) (l : List Emission) : (s.emits l).pending = s.pending := rfl

/-! ## State.setSlv -/

@[simp] theorem State.setSlv_boot (s : State) (sl : Sleeve) (v : Slv) : (s.setSlv sl v).boot = s.boot := by cases sl <;> rfl
@[simp] theorem State.setSlv_clk (s : State) (sl : Sleeve) (v : Slv) : (s.setSlv sl v).clk = s.clk := by cases sl <;> rfl
@[simp] theorem State.setSlv_link (s : State) (sl : Sleeve) (v : Slv) : (s.setSlv sl v).link = s.link := by cases sl <;> rfl
@[simp] theorem State.setSlv_fns (s : State) (sl : Sleeve) (v : Slv) : (s.setSlv sl v).fns = s.fns := by cases sl <;> rfl
@[simp] theorem State.setSlv_prov (s : State) (sl : Sleeve) (v : Slv) : (s.setSlv sl v).prov = s.prov := by cases sl <;> rfl
@[simp] theorem State.setSlv_qps (s : State) (sl : Sleeve) (v : Slv) : (s.setSlv sl v).qps = s.qps := by cases sl <;> rfl
@[simp] theorem State.setSlv_units (s : State) (sl : Sleeve) (v : Slv) : (s.setSlv sl v).units = s.units := by cases sl <;> rfl
@[simp] theorem State.setSlv_nextUnit (s : State) (sl : Sleeve) (v : Slv) : (s.setSlv sl v).nextUnit = s.nextUnit := by cases sl <;> rfl
@[simp] theorem State.setSlv_tags (s : State) (sl : Sleeve) (v : Slv) : (s.setSlv sl v).tags = s.tags := by cases sl <;> rfl
@[simp] theorem State.setSlv_waits (s : State) (sl : Sleeve) (v : Slv) : (s.setSlv sl v).waits = s.waits := by cases sl <;> rfl
@[simp] theorem State.setSlv_hostq (s : State) (sl : Sleeve) (v : Slv) : (s.setSlv sl v).hostq = s.hostq := by cases sl <;> rfl
@[simp] theorem State.setSlv_shadow (s : State) (sl : Sleeve) (v : Slv) : (s.setSlv sl v).shadow = s.shadow := by cases sl <;> rfl
@[simp] theorem State.setSlv_stamp (s : State) (sl : Sleeve) (v : Slv) : (s.setSlv sl v).stamp = s.stamp := by cases sl <;> rfl
@[simp] theorem State.setSlv_win (s : State) (sl : Sleeve) (v : Slv) : (s.setSlv sl v).win = s.win := by cases sl <;> rfl
@[simp] theorem State.setSlv_sti (s : State) (sl : Sleeve) (v : Slv) : (s.setSlv sl v).sti = s.sti := by cases sl <;> rfl
@[simp] theorem State.setSlv_xlt (s : State) (sl : Sleeve) (v : Slv) : (s.setSlv sl v).xlt = s.xlt := by cases sl <;> rfl
@[simp] theorem State.setSlv_plt (s : State) (sl : Sleeve) (v : Slv) : (s.setSlv sl v).plt = s.plt := by cases sl <;> rfl
@[simp] theorem State.setSlv_tp (s : State) (sl : Sleeve) (v : Slv) : (s.setSlv sl v).tp = s.tp := by cases sl <;> rfl
@[simp] theorem State.setSlv_belt (s : State) (sl : Sleeve) (v : Slv) : (s.setSlv sl v).belt = s.belt := by cases sl <;> rfl
@[simp] theorem State.setSlv_plc (s : State) (sl : Sleeve) (v : Slv) : (s.setSlv sl v).plc = s.plc := by cases sl <;> rfl
@[simp] theorem State.setSlv_el (s : State) (sl : Sleeve) (v : Slv) : (s.setSlv sl v).el = s.el := by cases sl <;> rfl
@[simp] theorem State.setSlv_pwr (s : State) (sl : Sleeve) (v : Slv) : (s.setSlv sl v).pwr = s.pwr := by cases sl <;> rfl
@[simp] theorem State.setSlv_fc (s : State) (sl : Sleeve) (v : Slv) : (s.setSlv sl v).fc = s.fc := by cases sl <;> rfl
@[simp] theorem State.setSlv_lin (s : State) (sl : Sleeve) (v : Slv) : (s.setSlv sl v).lin = s.lin := by cases sl <;> rfl
@[simp] theorem State.setSlv_bh (s : State) (sl : Sleeve) (v : Slv) : (s.setSlv sl v).bh = s.bh := by cases sl <;> rfl
@[simp] theorem State.setSlv_out (s : State) (sl : Sleeve) (v : Slv) : (s.setSlv sl v).out = s.out := by cases sl <;> rfl
@[simp] theorem State.setSlv_freeIdx (s : State) (sl : Sleeve) (v : Slv) : (s.setSlv sl v).freeIdx = s.freeIdx := by cases sl <;> rfl
@[simp] theorem State.setSlv_pending (s : State) (sl : Sleeve) (v : Slv) : (s.setSlv sl v).pending = s.pending := by cases sl <;> rfl

/-! ## State.modSlv -/

@[simp] theorem State.modSlv_boot (s : State) (sl : Sleeve) (g : Slv → Slv) : (s.modSlv sl g).boot = s.boot := by cases sl <;> rfl
@[simp] theorem State.modSlv_clk (s : State) (sl : Sleeve) (g : Slv → Slv) : (s.modSlv sl g).clk = s.clk := by cases sl <;> rfl
@[simp] theorem State.modSlv_link (s : State) (sl : Sleeve) (g : Slv → Slv) : (s.modSlv sl g).link = s.link := by cases sl <;> rfl
@[simp] theorem State.modSlv_fns (s : State) (sl : Sleeve) (g : Slv → Slv) : (s.modSlv sl g).fns = s.fns := by cases sl <;> rfl
@[simp] theorem State.modSlv_prov (s : State) (sl : Sleeve) (g : Slv → Slv) : (s.modSlv sl g).prov = s.prov := by cases sl <;> rfl
@[simp] theorem State.modSlv_qps (s : State) (sl : Sleeve) (g : Slv → Slv) : (s.modSlv sl g).qps = s.qps := by cases sl <;> rfl
@[simp] theorem State.modSlv_units (s : State) (sl : Sleeve) (g : Slv → Slv) : (s.modSlv sl g).units = s.units := by cases sl <;> rfl
@[simp] theorem State.modSlv_nextUnit (s : State) (sl : Sleeve) (g : Slv → Slv) : (s.modSlv sl g).nextUnit = s.nextUnit := by cases sl <;> rfl
@[simp] theorem State.modSlv_tags (s : State) (sl : Sleeve) (g : Slv → Slv) : (s.modSlv sl g).tags = s.tags := by cases sl <;> rfl
@[simp] theorem State.modSlv_waits (s : State) (sl : Sleeve) (g : Slv → Slv) : (s.modSlv sl g).waits = s.waits := by cases sl <;> rfl
@[simp] theorem State.modSlv_hostq (s : State) (sl : Sleeve) (g : Slv → Slv) : (s.modSlv sl g).hostq = s.hostq := by cases sl <;> rfl
@[simp] theorem State.modSlv_shadow (s : State) (sl : Sleeve) (g : Slv → Slv) : (s.modSlv sl g).shadow = s.shadow := by cases sl <;> rfl
@[simp] theorem State.modSlv_stamp (s : State) (sl : Sleeve) (g : Slv → Slv) : (s.modSlv sl g).stamp = s.stamp := by cases sl <;> rfl
@[simp] theorem State.modSlv_win (s : State) (sl : Sleeve) (g : Slv → Slv) : (s.modSlv sl g).win = s.win := by cases sl <;> rfl
@[simp] theorem State.modSlv_sti (s : State) (sl : Sleeve) (g : Slv → Slv) : (s.modSlv sl g).sti = s.sti := by cases sl <;> rfl
@[simp] theorem State.modSlv_xlt (s : State) (sl : Sleeve) (g : Slv → Slv) : (s.modSlv sl g).xlt = s.xlt := by cases sl <;> rfl
@[simp] theorem State.modSlv_plt (s : State) (sl : Sleeve) (g : Slv → Slv) : (s.modSlv sl g).plt = s.plt := by cases sl <;> rfl
@[simp] theorem State.modSlv_tp (s : State) (sl : Sleeve) (g : Slv → Slv) : (s.modSlv sl g).tp = s.tp := by cases sl <;> rfl
@[simp] theorem State.modSlv_belt (s : State) (sl : Sleeve) (g : Slv → Slv) : (s.modSlv sl g).belt = s.belt := by cases sl <;> rfl
@[simp] theorem State.modSlv_plc (s : State) (sl : Sleeve) (g : Slv → Slv) : (s.modSlv sl g).plc = s.plc := by cases sl <;> rfl
@[simp] theorem State.modSlv_el (s : State) (sl : Sleeve) (g : Slv → Slv) : (s.modSlv sl g).el = s.el := by cases sl <;> rfl
@[simp] theorem State.modSlv_pwr (s : State) (sl : Sleeve) (g : Slv → Slv) : (s.modSlv sl g).pwr = s.pwr := by cases sl <;> rfl
@[simp] theorem State.modSlv_fc (s : State) (sl : Sleeve) (g : Slv → Slv) : (s.modSlv sl g).fc = s.fc := by cases sl <;> rfl
@[simp] theorem State.modSlv_lin (s : State) (sl : Sleeve) (g : Slv → Slv) : (s.modSlv sl g).lin = s.lin := by cases sl <;> rfl
@[simp] theorem State.modSlv_bh (s : State) (sl : Sleeve) (g : Slv → Slv) : (s.modSlv sl g).bh = s.bh := by cases sl <;> rfl
@[simp] theorem State.modSlv_out (s : State) (sl : Sleeve) (g : Slv → Slv) : (s.modSlv sl g).out = s.out := by cases sl <;> rfl
@[simp] theorem State.modSlv_freeIdx (s : State) (sl : Sleeve) (g : Slv → Slv) : (s.modSlv sl g).freeIdx = s.freeIdx := by cases sl <;> rfl
@[simp] theorem State.modSlv_pending (s : State) (sl : Sleeve) (g : Slv → Slv) : (s.modSlv sl g).pending = s.pending := by cases sl <;> rfl

/-! ## State.setArb -/

@[simp] theorem State.setArb_boot (s : State) (a : Arb) (v : Arbiter) : (s.setArb a v).boot = s.boot := by cases a <;> rfl
@[simp] theorem State.setArb_clk (s : State) (a : Arb) (v : Arbiter) : (s.setArb a v).clk = s.clk := by cases a <;> rfl
@[simp] theorem State.setArb_link (s : State) (a : Arb) (v : Arbiter) : (s.setArb a v).link = s.link := by cases a <;> rfl
@[simp] theorem State.setArb_fns (s : State) (a : Arb) (v : Arbiter) : (s.setArb a v).fns = s.fns := by cases a <;> rfl
@[simp] theorem State.setArb_prov (s : State) (a : Arb) (v : Arbiter) : (s.setArb a v).prov = s.prov := by cases a <;> rfl
@[simp] theorem State.setArb_qps (s : State) (a : Arb) (v : Arbiter) : (s.setArb a v).qps = s.qps := by cases a <;> rfl
@[simp] theorem State.setArb_units (s : State) (a : Arb) (v : Arbiter) : (s.setArb a v).units = s.units := by cases a <;> rfl
@[simp] theorem State.setArb_nextUnit (s : State) (a : Arb) (v : Arbiter) : (s.setArb a v).nextUnit = s.nextUnit := by cases a <;> rfl
@[simp] theorem State.setArb_tags (s : State) (a : Arb) (v : Arbiter) : (s.setArb a v).tags = s.tags := by cases a <;> rfl
@[simp] theorem State.setArb_waits (s : State) (a : Arb) (v : Arbiter) : (s.setArb a v).waits = s.waits := by cases a <;> rfl
@[simp] theorem State.setArb_hostq (s : State) (a : Arb) (v : Arbiter) : (s.setArb a v).hostq = s.hostq := by cases a <;> rfl
@[simp] theorem State.setArb_shadow (s : State) (a : Arb) (v : Arbiter) : (s.setArb a v).shadow = s.shadow := by cases a <;> rfl
@[simp] theorem State.setArb_stamp (s : State) (a : Arb) (v : Arbiter) : (s.setArb a v).stamp = s.stamp := by cases a <;> rfl
@[simp] theorem State.setArb_win (s : State) (a : Arb) (v : Arbiter) : (s.setArb a v).win = s.win := by cases a <;> rfl
@[simp] theorem State.setArb_sti (s : State) (a : Arb) (v : Arbiter) : (s.setArb a v).sti = s.sti := by cases a <;> rfl
@[simp] theorem State.setArb_xlt (s : State) (a : Arb) (v : Arbiter) : (s.setArb a v).xlt = s.xlt := by cases a <;> rfl
@[simp] theorem State.setArb_slvA (s : State) (a : Arb) (v : Arbiter) : (s.setArb a v).slvA = s.slvA := by cases a <;> rfl
@[simp] theorem State.setArb_slvB (s : State) (a : Arb) (v : Arbiter) : (s.setArb a v).slvB = s.slvB := by cases a <;> rfl
@[simp] theorem State.setArb_tp (s : State) (a : Arb) (v : Arbiter) : (s.setArb a v).tp = s.tp := by cases a <;> rfl
@[simp] theorem State.setArb_belt (s : State) (a : Arb) (v : Arbiter) : (s.setArb a v).belt = s.belt := by cases a <;> rfl
@[simp] theorem State.setArb_plc (s : State) (a : Arb) (v : Arbiter) : (s.setArb a v).plc = s.plc := by cases a <;> rfl
@[simp] theorem State.setArb_el (s : State) (a : Arb) (v : Arbiter) : (s.setArb a v).el = s.el := by cases a <;> rfl
@[simp] theorem State.setArb_pwr (s : State) (a : Arb) (v : Arbiter) : (s.setArb a v).pwr = s.pwr := by cases a <;> rfl
@[simp] theorem State.setArb_fc (s : State) (a : Arb) (v : Arbiter) : (s.setArb a v).fc = s.fc := by cases a <;> rfl
@[simp] theorem State.setArb_lin (s : State) (a : Arb) (v : Arbiter) : (s.setArb a v).lin = s.lin := by cases a <;> rfl
@[simp] theorem State.setArb_bh (s : State) (a : Arb) (v : Arbiter) : (s.setArb a v).bh = s.bh := by cases a <;> rfl
@[simp] theorem State.setArb_out (s : State) (a : Arb) (v : Arbiter) : (s.setArb a v).out = s.out := by cases a <;> rfl
@[simp] theorem State.setArb_freeIdx (s : State) (a : Arb) (v : Arbiter) : (s.setArb a v).freeIdx = s.freeIdx := by cases a <;> rfl
@[simp] theorem State.setArb_pending (s : State) (a : Arb) (v : Arbiter) : (s.setArb a v).pending = s.pending := by cases a <;> rfl

/-! ## State.modArb -/

@[simp] theorem State.modArb_boot (s : State) (a : Arb) (g : Arbiter → Arbiter) : (s.modArb a g).boot = s.boot := by cases a <;> rfl
@[simp] theorem State.modArb_clk (s : State) (a : Arb) (g : Arbiter → Arbiter) : (s.modArb a g).clk = s.clk := by cases a <;> rfl
@[simp] theorem State.modArb_link (s : State) (a : Arb) (g : Arbiter → Arbiter) : (s.modArb a g).link = s.link := by cases a <;> rfl
@[simp] theorem State.modArb_fns (s : State) (a : Arb) (g : Arbiter → Arbiter) : (s.modArb a g).fns = s.fns := by cases a <;> rfl
@[simp] theorem State.modArb_prov (s : State) (a : Arb) (g : Arbiter → Arbiter) : (s.modArb a g).prov = s.prov := by cases a <;> rfl
@[simp] theorem State.modArb_qps (s : State) (a : Arb) (g : Arbiter → Arbiter) : (s.modArb a g).qps = s.qps := by cases a <;> rfl
@[simp] theorem State.modArb_units (s : State) (a : Arb) (g : Arbiter → Arbiter) : (s.modArb a g).units = s.units := by cases a <;> rfl
@[simp] theorem State.modArb_nextUnit (s : State) (a : Arb) (g : Arbiter → Arbiter) : (s.modArb a g).nextUnit = s.nextUnit := by cases a <;> rfl
@[simp] theorem State.modArb_tags (s : State) (a : Arb) (g : Arbiter → Arbiter) : (s.modArb a g).tags = s.tags := by cases a <;> rfl
@[simp] theorem State.modArb_waits (s : State) (a : Arb) (g : Arbiter → Arbiter) : (s.modArb a g).waits = s.waits := by cases a <;> rfl
@[simp] theorem State.modArb_hostq (s : State) (a : Arb) (g : Arbiter → Arbiter) : (s.modArb a g).hostq = s.hostq := by cases a <;> rfl
@[simp] theorem State.modArb_shadow (s : State) (a : Arb) (g : Arbiter → Arbiter) : (s.modArb a g).shadow = s.shadow := by cases a <;> rfl
@[simp] theorem State.modArb_stamp (s : State) (a : Arb) (g : Arbiter → Arbiter) : (s.modArb a g).stamp = s.stamp := by cases a <;> rfl
@[simp] theorem State.modArb_win (s : State) (a : Arb) (g : Arbiter → Arbiter) : (s.modArb a g).win = s.win := by cases a <;> rfl
@[simp] theorem State.modArb_sti (s : State) (a : Arb) (g : Arbiter → Arbiter) : (s.modArb a g).sti = s.sti := by cases a <;> rfl
@[simp] theorem State.modArb_xlt (s : State) (a : Arb) (g : Arbiter → Arbiter) : (s.modArb a g).xlt = s.xlt := by cases a <;> rfl
@[simp] theorem State.modArb_slvA (s : State) (a : Arb) (g : Arbiter → Arbiter) : (s.modArb a g).slvA = s.slvA := by cases a <;> rfl
@[simp] theorem State.modArb_slvB (s : State) (a : Arb) (g : Arbiter → Arbiter) : (s.modArb a g).slvB = s.slvB := by cases a <;> rfl
@[simp] theorem State.modArb_tp (s : State) (a : Arb) (g : Arbiter → Arbiter) : (s.modArb a g).tp = s.tp := by cases a <;> rfl
@[simp] theorem State.modArb_belt (s : State) (a : Arb) (g : Arbiter → Arbiter) : (s.modArb a g).belt = s.belt := by cases a <;> rfl
@[simp] theorem State.modArb_plc (s : State) (a : Arb) (g : Arbiter → Arbiter) : (s.modArb a g).plc = s.plc := by cases a <;> rfl
@[simp] theorem State.modArb_el (s : State) (a : Arb) (g : Arbiter → Arbiter) : (s.modArb a g).el = s.el := by cases a <;> rfl
@[simp] theorem State.modArb_pwr (s : State) (a : Arb) (g : Arbiter → Arbiter) : (s.modArb a g).pwr = s.pwr := by cases a <;> rfl
@[simp] theorem State.modArb_fc (s : State) (a : Arb) (g : Arbiter → Arbiter) : (s.modArb a g).fc = s.fc := by cases a <;> rfl
@[simp] theorem State.modArb_lin (s : State) (a : Arb) (g : Arbiter → Arbiter) : (s.modArb a g).lin = s.lin := by cases a <;> rfl
@[simp] theorem State.modArb_bh (s : State) (a : Arb) (g : Arbiter → Arbiter) : (s.modArb a g).bh = s.bh := by cases a <;> rfl
@[simp] theorem State.modArb_out (s : State) (a : Arb) (g : Arbiter → Arbiter) : (s.modArb a g).out = s.out := by cases a <;> rfl
@[simp] theorem State.modArb_freeIdx (s : State) (a : Arb) (g : Arbiter → Arbiter) : (s.modArb a g).freeIdx = s.freeIdx := by cases a <;> rfl
@[simp] theorem State.modArb_pending (s : State) (a : Arb) (g : Arbiter → Arbiter) : (s.modArb a g).pending = s.pending := by cases a <;> rfl

/-! ## Reading back what was written -/

@[simp] theorem State.setFn_fn_self (s : State) (n : Nat) (f : Fn) : (s.setFn n f).fn n = f := by
  simp [State.fn]
theorem State.setFn_fn_ne (s : State) (n m : Nat) (f : Fn) (h : m ≠ n) : (s.setFn n f).fn m = s.fn m := by
  simp [State.fn, tget_tput, h]
@[simp] theorem State.modFn_fn_self (s : State) (n : Nat) (g : Fn → Fn) : (s.modFn n g).fn n = g (s.fn n) :=
  State.setFn_fn_self s n _
theorem State.modFn_fn_ne (s : State) (n m : Nat) (g : Fn → Fn) (h : m ≠ n) : (s.modFn n g).fn m = s.fn m :=
  State.setFn_fn_ne s n m _ h
@[simp] theorem State.setSlv_slv_self (s : State) (sl : Sleeve) (v : Slv) : (s.setSlv sl v).slv sl = v := by
  cases sl <;> rfl
theorem State.setSlv_slv_ne (s : State) (sl t : Sleeve) (v : Slv) (h : t ≠ sl) : (s.setSlv sl v).slv t = s.slv t := by
  cases sl <;> cases t <;> simp_all [State.setSlv, State.slv]
@[simp] theorem State.modSlv_slv_self (s : State) (sl : Sleeve) (g : Slv → Slv) :
    (s.modSlv sl g).slv sl = g (s.slv sl) := State.setSlv_slv_self s sl _
@[simp] theorem State.setArb_arb_self (s : State) (a : Arb) (v : Arbiter) : (s.setArb a v).arb a = v := by
  cases a <;> rfl
theorem State.setArb_arb_ne (s : State) (a b : Arb) (v : Arbiter) (h : b ≠ a) : (s.setArb a v).arb b = s.arb b := by
  cases a <;> cases b <;> simp_all [State.setArb, State.arb]
@[simp] theorem State.modArb_arb_self (s : State) (a : Arb) (g : Arbiter → Arbiter) :
    (s.modArb a g).arb a = g (s.arb a) := State.setArb_arb_self s a _

end Sys2Proof.Machine
end

