-- ==== Sys2Proof/Tests/Slice0.lean ====
section
/-! SUPPORT. Tests: an ill-formed command for every check of WellFormed; states and operands that meet the hypotheses of every
statement, clause by clause; and single steps whose expected results are the spec's own. -/
set_option Elab.async false
namespace Sys2Proof.Tests
open Sys2Proof.Machine

/-! ## Small states -/

/-- A device in operation with a host link, every domain in Run. -/
def up : State :=
  let mse (f : Fn) : Fn := { f with cfg := { f.cfg with mse := true } }
  ({ State.reset with
    boot := { Boot.init with mode := .oper, stage := .ready, vdd := true, perst := false, cfgReady := true },
    clk := { Clocks.init with srefOk := true, pllLock := 0xFF },
    link := { HostLink.init with state := .l0, lanes := 16, trained := 16, rate := 6, flit := true },
    pwr := { Pwr.init with doms := List.replicate 11 { Dom.off with state := .run } },
    fc := { Fc.init with hold := false },
    lin := { Lin.init with firmware := true } }).modFn 0 mse |>.modFn 1 mse

/-- The same with other boot registers, host link, Lining, or functions. -/
def upBoot (f : Boot → Boot) : State := { up with boot := f up.boot }
def upLink (f : HostLink → HostLink) : State := { up with link := f up.link }
def upLin (f : Lin → Lin) : State := { up with lin := f up.lin }
def upFn (n : Nat) (f : Fn → Fn) : State := up.modFn n f

/-- An image that passes every check of the ROM, and one whose header is not a manifest's. -/
def good : Found :=
  { header := { magic := 0x31484442, imageLen := 4096, crcOk := true, digestOk := true },
    manifest := { magic := 0x31544442, format := 1, secVer := 0, imageLen := 4096, build := 7,
                  sections := [⟨1, 512, 256⟩, ⟨2, 1024, 256⟩, ⟨3, 2048, 256⟩] },
    keys := true, ecdsa := true, mldsa := true, hashes := true }
def noHeader : Found := { good with header := { good.header with magic := 0 } }

/-! ## Witnesses: supplies, boot, resets -/

theorem test_met_SuppliesAndClocks :
    (upBoot fun b => { b with mode := .noPower }).boot.mode = .noPower ∧ up.boot.mode ≠ .noPower ∧
    State.reset.boot.mode = .off ∧ State.reset.pwr.doms.length = 11 ∧ up.pwr.doms.length = 11 ∧ (up.boot.mode ≠ .noPower ∧ up.boot.mode ≠ .off) ∧ up.clk.srefOk = true ∧
    (∀ pll ∈ [0, 7], pll < 8 ∧ bitAt up.clk.pllLock.toNat pll = true) := by decide

/-- A device in the ROM. -/
def rom (f : Boot → Boot) : State := upBoot fun b => f { b with stage := .rom, mode := .boot }

theorem test_met_BootChain_rom :
    (∀ s ∈ [rom id, rom fun b => { b with pendingBoot := true, attempts := 1 }], s.boot.stage = .rom ∧ s.clk.srefOk = true ∧
      s.boot.bootSel = false ∧ s.boot.recordBad = false ∧ ¬(s.boot.pendingBoot = true ∧ s.boot.attempts = 2) ∧
      s.slotBoots s.boot.next (foundOf good noHeader noHeader s.boot.next) = true) ∧
    ((rom id).boot.next ≠ .recovery ∧ (rom id).slotBoots .a (foundOf noHeader good good .a) = false ∧
      (rom id).slotBoots (rom id).boot.next.twin (foundOf noHeader good good (rom id).boot.next.twin) = true) ∧
    (let s := rom fun b => { b with pendingBoot := true, attempts := 2 }
     s.boot.bootSel = false ∧ s.boot.recordBad = false ∧ s.boot.pendingBoot = true ∧ s.boot.attempts = 2 ∧
       s.slotBoots s.boot.prev (foundOf noHeader good good s.boot.prev) = true) ∧
    (rom id).slotBoots .a (foundOf good noHeader noHeader .a) = true ∧
    (let s := rom fun b => { b with bootSel := true }
     s.boot.bootSel = true ∧ s.boot.recordBad = false ∧ s.slotBoots .recovery (foundOf good good good .recovery) = true) ∧
    (∀ x ∈ [Slot.a, .b, .recovery], (rom id).slotBoots x (foundOf noHeader noHeader noHeader x) = false) := by decide

theorem test_met_BootChain_later :
    (upBoot fun b => { b with stage := .lining }).boot.stage = .lining ∧
    (∀ x ∈ [(true, Mode.standby), (false, .factory), (false, .boot)],
      let s := upBoot fun b => { b with stage := .lining, perst := x.1, mode := x.2 }
      s.boot.stage = .lining ∧ s.boot.perst = x.1 ∧ s.boot.mode = x.2) ∧
    (∀ lock ∈ [true, false], let s := upBoot fun b => { b with perst := true, mode := .standby, fieldLock := lock, stage := .liningDone }
      s.boot.perst = true ∧ s.boot.mode = .standby ∧ s.boot.fieldLock = lock ∧ s.boot.stage ≠ .noImage) ∧
    (let s := { upBoot (fun b => { b with perst := true, mode := .standby }) with slvA := { up.slvA with enable := true, state := .disabled } }
     s.boot.stage ≠ .noImage ∧ (s.slv .a).enable = true ∧ (s.slv .a).state = .disabled) ∧
    (∀ g ∈ [Stage.jalidLoad, .jalidStart], let s := upBoot fun b => { b with stage := g, mode := .boot }
      s.boot.stage = g ∧ s.boot.mode = .boot) ∧
    (let s := upBoot fun b => { b with sectionsOk := true, pendingBoot := true }
     s.boot.mode = .oper ∧ s.boot.committed = false ∧ s.boot.sectionsOk = true) := by decide

theorem test_met_ChipResets :
    up.resettable = true ∧
    (let s := { up with fc := { up.fc with chipResetDue := true } }
     s.resettable = true ∧ s.fc.chipResetDue = true) ∧
    (∀ x ∈ [(Mode.oper, Stage.ready), (.boot, .jalidLoad), (.boot, .jalidStart)],
      let s := upBoot fun b => { b with mode := x.1, stage := x.2, pendingBoot := true }
      s.boot.pendingBoot = true ∧ s.boot.committed = false ∧
        (s.boot.mode = .oper ∨ (s.boot.mode = .boot ∧ (s.boot.stage = .jalidLoad ∨ s.boot.stage = .jalidStart)))) ∧
    up.boot.mode ≠ .safe ∧ up.boot.mode ≠ .noPower ∧ up.boot.mode ≠ .off := by decide

/-- A READY tenant of group 5. -/
def aTenant : Tenant :=
  { state := .ready, group := 5, qps := 8, vectors := 16, apts := [], iwins := [], ats := 16, ctx := 4, qsets := 2,
    tdisp := .unlocked, destroying := false, stream := 0, rejects := 0 }

/-- VF 1 enabled, with a tenant. -/
def vf1 (t : Tenant) : State :=
  { up with prov := { up.prov with numVFs := 64, vfEnable := true, vfMse := true, groups := [(5, 8)], tenants := [(1, t)] } }

theorem test_met_HotResetsAndFlr :
    (up.boot.mode ≠ .safe ∧ up.link.state ≠ .down) ∧
    (∀ n ∈ [2, 65], (vf1 aTenant).cfgLive n = true ∧ isVf n = true) ∧ (((vf1 aTenant).tenant (vfOf 2)).map (·.state) = some .ready) ∧ up.cfgLive 0 = true ∧ up.cfgLive 1 = true ∧
    (let s := (vf1 { aTenant with state := .wiping }).modFn 2 fun f => { f with flr := true }
     (s.fn 2).flr = true ∧ isVf 2 = true ∧ s.tenant (vfOf 2) = some { aTenant with state := .wiping } ∧
       ({ aTenant with state := .wiping } : Tenant).destroying = false) := by decide

/-- A QP of PF0 with 16 entries, ACTIVE. -/
def aQp : Qp := newQp 0 (zeros 8 ++ leBytes 8 0x10000 ++ leBytes 8 0x20000 ++ [6, 6] ++ zeros 6) 0

/-- LTR Mechanism Enable of PF0 is 1. -/
def ltrOn : State := upFn 0 fun f => { f with cfg := { f.cfg with raw := [(30, 0x400)] } }

theorem test_met_HostLinkEvents :
    (∀ s ∈ [up, upBoot fun b => { b with mode := .safe }, upBoot fun b => { b with mode := .boot, stage := .lining }],
      (s.boot.mode = .oper ∨ s.boot.mode = .safe ∨ (s.boot.mode = .boot ∧ s.boot.stage ≠ .noImage))) ∧
    (∀ l ∈ [1, 2, 4, 8, 16], hostWidth l = true) ∧
    (∀ x ∈ [(1, false, false, false), (6, true, false, false), (7, true, true, true)],
      let s := { upBoot (fun b => { b with no128 := x.2.2.1 }) with lin := { up.lin with clearHost := x.2.2.2 } }
      1 ≤ x.1 ∧ x.1 ≤ 7 ∧ (x.1 = 7 → s.boot.no128 = true → s.lin.clearHost = true) ∧ (6 ≤ x.1 → x.2.1 = true)) ∧
    (∀ l ∈ [2, 16], up.link.state = .l0 ∧ up.link.flit = true ∧ hostWidth l = true ∧ l ≠ 1 ∧ l ≤ up.link.trained) ∧
    (let e : Equalized := { rate := 3, asked := .preset 7, found := [] }
     ({ laneFailure := false, reversed := true, inverted := 1, eqs := [e] } : HostTraining).eqs = [e] ∧ 3 ≤ e.rate) ∧
    (let s := { ltrOn with qps := [(0, { aQp with prod := 1 })] }
     s.link.state ≠ .down ∧ s.anyQueueWork = true ∧ s.link.ltr ≠ some 20 ∧ bitAt (s.cfgRaw 0 30).toNat 10 = true) ∧
    (ltrOn.link.state ≠ .down ∧ ltrOn.anyQueueWork = false ∧ ltrOn.link.ltr ≠ some 3000 ∧ ltrOn.largeConfig = false ∧
      bitAt (ltrOn.cfgRaw 0 30).toNat 10 = true) ∧
    (∀ st ∈ [LinkState.l10, .l11, .l12], (upLink fun l => { l with state := st }).link.state = st) ∧
    (up.link.state ≠ .down ∧ up.link.state ≠ .l2) ∧
    (State.reset.boot.mode = .off ∧ bitAt State.reset.pwr.pmeEn.toNat 2 = true) ∧
    (let s := { up with pwr := { up.pwr with doms := List.replicate 11 { Dom.off with state := .sleep } } }
     s.boot.mode ≠ .off ∧ s.boot.mode ≠ .noPower ∧ s.pwr.doms.length = 11 ∧
       ∀ d ∈ [Domain.lin, .bh], (s.dom d).entering = none ∧ (s.dom d).state = .sleep) := by decide

/-! ## Witnesses: requests of Jalid -/

/-- What Taken asks, as one condition. -/
def takenB (o : OpInfo) (fn : Nat) (r : Request) (s : State) : Bool :=
  s.pocketServed fn && decide ((s.fn fn).pocket.state ≠ .working) &&
    decide (r.doorbell.toNat < 65536) && decide (s.admitStatus o fn r = stDone) &&
    (!(isVf fn && (s.tenant (vfOf fn)).map (·.state) == some .wiping) || o.cls == 1 || o.cls == 0xF) &&
    lengthOk o r.data && o.rsv.all fun x => leNat (slice x.1 x.2 r.data) == 0

theorem takenB_taken {o : OpInfo} {fn : Nat} {r : Request} {s : State} (h : takenB o fn r s = true) : Taken o fn r s := by
  simp only [takenB, Bool.and_eq_true, decide_eq_true_eq, List.all_eq_true, beq_iff_eq] at h
  obtain ⟨⟨⟨⟨⟨⟨b, c⟩, d⟩, e⟩, f⟩, g⟩, k⟩ := h
  exact ⟨b, c, d, e, fun u v => by simpa [u, v] using f, g, fun x m => k x m⟩

/-- A request with token 7. -/
def rq (d : Bytes) : Request :=
  { doorbell := 7, token := 7, len := d.length, flags := 0, minor := 2, rsv := [], payload := d }

/-- The event queue of a function enabled. -/
def evq (n : Nat) (s : State) : State := s.modFn n fun f => { f with pocket := { f.pocket with enable := true } }

/-- Outstanding long commands at PF0's Pocket. -/
def longs (l : List LongCmd) (s : State) : State := s.modPocket 0 fun p => { p with longs := l }

/-- TENANT_CREATE of VF 1 in group 5. -/
def tenantData : Bytes :=
  leBytes 2 1 ++ [0, 5] ++ leBytes 2 128 ++ leBytes 2 16 ++ [2, 4] ++ leBytes 2 64 ++ leBytes 2 16 ++ leBytes 2 2 ++ zeros 16

/-- VF 1 enabled, without a tenant. -/
def vf1Free : State := evq 0 { vf1 aTenant with prov := { (vf1 aTenant).prov with tenants := [] } }

theorem test_met_JalidPools_a :
    (∀ n ∈ [0, 64], let r := rq ([5, 0] ++ leBytes 2 n)
      takenB opGroupCreate 0 r up = true ∧ leAt 0 1 r.data ≠ 0 ∧ tget up.prov.groups (leAt 0 1 r.data) = none ∧
        leAt 2 2 r.data ≤ 128 ∧ leAt 2 2 r.data ≤ up.freeStg) ∧
    (let s := { up with prov := { up.prov with groups := [(5, 8)] } }
     let r := rq ([5, 0] ++ zeros 2)
     takenB opGroupDestroy 0 r s = true ∧ leAt 0 1 r.data ≠ 0 ∧ (tget s.prov.groups 5).isSome = true ∧ s.groupBusy 5 = false) ∧
    (∀ n ∈ [2 ^ 21, 2 ^ 36], let r := rq (leBytes 8 (2 ^ 21) ++ leBytes 8 n)
      takenB opSpillGrant 0 r up = true ∧ leAt 0 8 r.data % 2 ^ 21 = 0 ∧ leAt 8 8 r.data % 2 ^ 21 = 0 ∧ 2 ^ 21 ≤ leAt 8 8 r.data ∧
        leAt 8 8 r.data ≤ 2 ^ 36 ∧ up.prov.spill = false) ∧
    (let s := evq 0 { up with prov := { up.prov with spill := true } }
     takenB opSpillRevoke 0 (rq []) s = true ∧ s.longAny .spillRevoke = false ∧ s.prov.spill = true ∧ s.qps.length ≤ 32768) := by
  decide

theorem test_met_JalidPools_b :
    (takenB opTenantCreate 0 (rq tenantData) vf1Free = true ∧ vf1Free.createOk (rq tenantData).data = true ∧
      vf1Free.tenant 1 = none ∧ vf1Free.longOn .tenantCreate 1 = false) ∧
    (let c : LongCmd := { token := 7, kind := .tenantCreate, obj := 1, payload := tenantData }
     let s := longs [c] vf1Free
     (s.fn 0).pocket.longs.find? (fun x => x.token == 7 && x.kind == .tenantCreate) = some c ∧
       s.poolsHold c.payload = true) ∧
    (let s := evq 0 (vf1 aTenant)
     let r := rq (leBytes 2 1 ++ zeros 2)
     takenB opTenantDestroy 0 r s = true ∧ s.longOn .tenantDestroy 1 = false ∧ s.longOn .tenantCreate 1 = false ∧
       (s.tenant 1).map (fun x => (x.state, x.destroying)) = some (.ready, false)) ∧
    (let t := { aTenant with state := .wiping, destroying := true }
     (vf1 t).tenant 1 = some t ∧ ((vf1 t).fn (fnOfVf 1)).flr = false) ∧
    (∀ v ∈ [1, 1024], let r := rq (leBytes 2 v ++ zeros 2)
      takenB opTenantQuery 0 r up = true ∧ 1 ≤ leAt 0 2 r.data ∧ leAt 0 2 r.data ≤ 1024) ∧
    (let s := longs [{ token := 7, kind := .spillRevoke, obj := 0, payload := [] }] { up with prov := { up.prov with spill := true } }
     s.longAny .spillRevoke = true ∧ s.prov.spill = true ∧ s.qps = [] ∧
       ∃ x ∈ ({ s with qps := [(0, { aQp with record := some 0 })] } : State).qps, s.spillOpen = false ∧ x.2.record ≠ none) := by
  decide

/-- A QSET_CREATE payload for set q. -/
def qsetData (q : Nat) : Bytes := leBytes 2 q ++ leBytes 2 5 ++ zeros 20

/-- PF0 with queue set 0 and event queue on. -/
def set0 : State := evq 0 (up.modFn 0 fun f => { f with qsets := [(0, QSet.blank.load 0 (qsetData 0))] })

/-- QP_CREATE of index i with 64 or 65,536 entries. -/
def qpData (i n : Nat) : Bytes :=
  leBytes 2 i ++ zeros 6 ++ leBytes 8 0x10000 ++ leBytes 8 0x20000 ++ leBytes 1 n ++ leBytes 1 n ++ zeros 6

/-- QP 0 of PF0 in a state. -/
def qpIn (f : Qp → Qp) : State := { set0 with qps := [(0, f aQp)] }

/-- A request of QP_MODIFY. -/
def modData (a : Nat) : Bytes := zeros 4 ++ leBytes 1 a ++ zeros 3

theorem test_met_JalidQueues_a :
    (∀ q ∈ [0, 15], takenB opQsetCreate 0 (rq (qsetData q)) up = true ∧ up.qsetOk 0 (rq (qsetData q)).data = true ∧
      tget (up.fn 0).qsets (leAt 0 1 (rq (qsetData q)).data) = none) ∧
    (takenB opQsetModify 0 (rq (qsetData 0)) set0 = true ∧ set0.qsetOk 0 (rq (qsetData 0)).data = true ∧
      (tget (set0.fn 0).qsets 0).isSome = true) ∧
    (takenB opQsetDestroy 0 (rq (zeros 4)) set0 = true ∧ leAt 0 1 (rq (zeros 4)).data < set0.qsetLimit 0 ∧ set0.qps = []) ∧
    (∀ x ∈ [(0, 6), (63, 16)], takenB opQpCreate 0 (rq (qpData x.1 x.2)) set0 = true ∧
      set0.qpCreateOk 0 (rq (qpData x.1 x.2)).data = true ∧ set0.qpFits 0 = true) := by decide

theorem test_met_JalidQueues_b :
    (set0.target 0 0).toOption = some 0 ∧
    (let s := qpIn id
     s.qpAt 0 0 = some (0, aQp) ∧ takenB opQpModify 0 (rq (modData 1)) s = true ∧ leAt 4 1 (rq (modData 1)).data = 1 ∧
       aQp.state = .stopped ∧ aQp.held = false ∧ aQp.mgrStop = false) ∧
    (∀ f ∈ [(.active, false), (.stopped, true)], let s := qpIn fun p => { p with state := f.1, held := f.2 }
      s.qpAt 0 0 = some (0, { aQp with state := f.1, held := f.2 }) ∧ takenB opQpModify 0 (rq (modData 2)) s = true) ∧
    (let s := qpIn fun p => { p with state := .error }
     s.qpAt 0 0 = some (0, { aQp with state := .error }) ∧ takenB opQpModify 0 (rq (modData 3)) s = true) ∧
    (takenB opQpDestroy 0 (rq (zeros 8)) (qpIn id) = true ∧ leAt 0 2 (rq (zeros 8)).data = 0 ∧ aQp.state ≠ .draining) ∧
    takenB opQpQuery 0 (rq (zeros 8)) (qpIn id) = true ∧
    (let s := qpIn fun p => { p with state := .draining }
     s.qp 0 = some { aQp with state := .draining } ∧ s.qpDrained 0 = true) := by decide

/-- APT_OPEN of aperture n: 64 KiB at offset 0 for node 0x55. -/
def aptData (n : Nat) : Bytes :=
  leBytes 2 n ++ zeros 6 ++ zeros 8 ++ leBytes 8 0x10000 ++ leBytes 4 0x55 ++ leBytes 4 0xABCD ++ zeros 8

/-- IWIN_OPEN of window n for node 3. -/
def iwinData (n : Nat) : Bytes :=
  leBytes 2 n ++ [0, 3] ++ leBytes 4 0xEE ++ leBytes 8 0x40000 ++ leBytes 8 0x10000 ++ leBytes 8 0x7000000 ++ leBytes 4 3 ++ zeros 4

/-- Aperture 0 and inbound window 0 of PF0, open. -/
def wins (f : Apt → Apt) (g : Iwin → Iwin) : State :=
  { evq 0 up with win := { Win.init with apts := [(0, f (aptOf 0 (aptData 0)))], iwins := [(0, g (iwinOf 0 (iwinData 0)))] } }

theorem test_met_JalidWindows :
    (∀ n ∈ [0, 255], takenB opAptOpen 0 (rq (aptData n)) up = true ∧ leAt 0 2 (rq (aptData n)).data = n ∧
      up.aptOpenOk 0 (rq (aptData n)).data = true ∧ up.longOn .aptClose n = false ∧ up.aptState n = .closed) ∧
    (let s := wins id id
     takenB opAptClose 0 (rq (zeros 4)) s = true ∧ leAt 0 2 (rq (zeros 4)).data = 0 ∧ s.aptNamed 0 0 = true ∧
       s.longOn .aptClose 0 = false ∧ s.aptState 0 = .opened ∧
       takenB opIwinClose 0 (rq (zeros 4)) s = true ∧ s.iwinNamed 0 0 = true ∧ s.longOn .iwinClose 0 = false ∧
       s.iwinState 0 = .opened) ∧
    (let s := wins Apt.closing fun x => { x with state := .closing }
     (tget s.win.apts 0).map (·.state) = some .closing ∧ s.aptCovered 0 s.nextUnit = false ∧
       (tget s.win.iwins 0).map (·.state) = some .closing ∧ s.win.slots = []) ∧
    (∀ x ∈ [(0, 0), (0, 255), (1, 0), (1, 1023)], let r := rq (leBytes 2 x.1 ++ leBytes 2 x.2)
      takenB opWinQuery 0 r up = true ∧ leAt 2 2 r.data = x.2 ∧
        ((leAt 0 1 r.data = 0 ∧ x.2 < 256) ∨ (leAt 0 1 r.data = 1 ∧ x.2 < 1024))) ∧
    (let s := { vf1 { aTenant with apts := [3], iwins := [4] } with
       win := { Win.init with apts := [(3, aptOf 2 (aptData 3))], iwins := [(4, iwinOf 2 (iwinData 4))] } }
     takenB opWinQuery 2 (rq [0, 0, 3, 0]) s = true ∧ s.aptNamed 2 3 = true ∧
       takenB opWinQuery 2 (rq [1, 0, 4, 0]) s = true ∧ s.iwinNamed 2 4 = true) ∧
    (∀ n ∈ [0, 1023], takenB opIwinOpen 0 (rq (iwinData n)) up = true ∧ leAt 0 2 (rq (iwinData n)).data = n ∧
      up.iwinOpenOk 0 (rq (iwinData n)).data = true ∧ up.longOn .iwinClose n = false ∧ up.iwinState n = .closed) := by
  decide

/-- A Stitch entry of 32 B: KIND 0x05 output frame of 4 B for node 3, and a KIND 0x04 control value into it. -/
def frameEntry : Bytes := [5, 0] ++ leBytes 2 9 ++ leBytes 4 3 ++ leBytes 2 4 ++ zeros 22
def valueEntry (w : Nat) : Bytes := [4, 0] ++ zeros 8 ++ leBytes 1 w ++ zeros 13 ++ leBytes 2 0 ++ leBytes 2 0 ++ leBytes 1 w ++ zeros 3

/-- A map with both. -/
def stitched : State := { up with sti := { Sti.init with map := [(0, parseStitch frameEntry), (1, parseStitch (valueEntry 32))] } }

theorem test_met_JalidStitch :
    (∀ n ∈ [0, 4094], let r := rq (leBytes 2 n ++ leBytes 2 1 ++ zeros 4 ++ frameEntry)
      takenB opStitchLoad 0 r up = true ∧ entriesClean (leAt 2 2 r.data) (r.data.drop 8) = true ∧
        mapOk (loadEntries (leAt 2 2 r.data) n (r.data.drop 8) up.sti.map) up.tp.node = true) ∧
    (∀ c ∈ [1, 4095], let r := rq (leBytes 2 1 ++ leBytes 2 c)
      let m := tkeep stitched.sti.map fun k _ => decide (k < 1) || decide (1 + leAt 2 2 r.data ≤ k)
      takenB opStitchClear 0 r stitched = true ∧ 1 ≤ leAt 2 2 r.data ∧ 1 + leAt 2 2 r.data ≤ 4096 ∧
        mapOk m stitched.tp.node = true) ∧
    (let r := rq (leBytes 2 1 ++ zeros 14)
     takenB opStitchSet 0 r stitched = true ∧ (tget stitched.sti.map (leAt 0 2 r.data)).map (·.kind) = some 4) ∧
    (∀ n ∈ [1, 4095], let r := rq (leBytes 2 n ++ zeros 2)
      takenB opStitchQuery 0 r stitched = true ∧ leAt 0 2 r.data < 4096 ∧
        (tget stitched.sti.map (leAt 0 2 r.data)).isSome = decide (n = 1)) ∧
    (∀ x ∈ [(0, 100), (15, 1000000)], let r := rq (leBytes 4 x.1 ++ leBytes 4 x.2)
      takenB opTelemConfig 0 r up = true ∧ leAt 0 4 r.data < 16 ∧ 100 ≤ leAt 4 4 r.data ∧ leAt 4 4 r.data ≤ 1000000 ∧
        leAt 4 4 r.data % 100 = 0) := by decide

/-- A device with a cap of 12 W and a window of 10 ms, and PF0 with something to borrow. -/
def capped : State := { up with el := { up.el with pfCap := 12000, pfWindow := 10, window := 10 } }
def lender (n : Nat) : State := { capped with el := { capped.el with borrowMax := 100, reserveLeft := BitVec.ofNat 64 n } }

theorem test_met_JalidEnergy :
    (∀ x ∈ [(0, 10), (12000, 10000), (44000, 10)], let r := rq (leBytes 4 x.1 ++ leBytes 4 x.2)
      takenB opCapSet 0 r up = true ∧ (leAt 0 4 r.data = 0 ∨ (12000 ≤ leAt 0 4 r.data ∧ leAt 0 4 r.data ≤ 44000)) ∧
        10 ≤ leAt 4 4 r.data ∧ leAt 4 4 r.data ≤ 10000) ∧
    (∀ n ∈ [0, capped.budget], let r := rq (leBytes 8 n ++ leBytes 8 5)
      takenB opReserveSet 0 r capped = true ∧ tsorted capped.fns = true ∧
        leAt 0 8 r.data + capped.allowances none ≤ capped.budget) ∧
    (let r := rq (zeros 8 ++ leBytes 8 capped.budget)
     takenB opAllowanceSet 0 r capped = true ∧ leAt 0 2 r.data = 0 ∧
       leAt 8 8 r.data + capped.allowances (some 0) + capped.el.reserve.toNat ≤ capped.budget) ∧
    (let r := rq (leBytes 2 1 ++ zeros 14)
     takenB opAllowanceSet 0 r (vf1 aTenant) = true ∧ ((vf1 aTenant).tenantTarget (leAt 0 2 r.data)).toOption = some 2 ∧
       leAt 8 8 r.data + (vf1 aTenant).allowances (some 2) + (vf1 aTenant).el.reserve.toNat ≤ (vf1 aTenant).budget) ∧
    (takenB opBorrow 0 (rq (leBytes 8 7)) (lender 1) = true ∧ (lender 1).borrowGrant 0 7 = 1) ∧
    (takenB opBorrow 0 (rq (leBytes 8 7)) (lender 0) = true ∧ (lender 0).borrowGrant 0 7 = 0) ∧
    (∀ fn ∈ [0, 1], takenB opEnergyQuery fn (rq (zeros 8)) up = true) ∧
    (takenB opEnergyQuery 0 (rq (leBytes 2 1 ++ zeros 6)) (vf1 aTenant) = true ∧
      ((vf1 aTenant).tenantQueried 1).toOption = some 2) ∧
    (takenB opEnergyQuery 2 (rq (zeros 8)) (vf1 aTenant) = true ∧ isVf 2 = true) := by decide

theorem test_met_JalidMonitoring_a :
    (∀ n ∈ [1023, 0xFFFF], let r := rq (zeros 4 ++ [2, 2, 2, 0] ++ leBytes 2 n ++ zeros 6)
      takenB opHintSet 0 r (qpIn id) = true ∧ leAt 0 1 r.data = 0 ∧ hintsOk r.data = true ∧
        (qpIn id).qpAt 0 (leAt 2 2 r.data) = some (0, aQp) ∧ (qpIn id).longOn .qpDestroy 0 = false) ∧
    (let r := rq ([1] ++ zeros 15)
     takenB opHintSet 0 r set0 = true ∧ hintsOk r.data = true ∧ (tget (set0.fn 0).qsets (leAt 2 2 r.data)).isSome = true) ∧
    (∀ x ∈ [(0, 1, 1), (256, 0xFFFF, 3)], let r := rq (leBytes 2 x.1 ++ leBytes 2 x.2.1 ++ leBytes 1 x.2.2 ++ zeros 3)
      takenB opPlaceLimits 0 r up = true ∧ leAt 0 2 r.data ≤ 256 ∧ leAt 2 2 r.data ≠ 0 ∧ 1 ≤ leAt 4 1 r.data ∧
        leAt 4 1 r.data ≤ 3) ∧
    (∀ x ∈ [(0, 0xFFFF), (1023, 5)], let r := rq (leBytes 2 x.1 ++ leBytes 2 x.2 ++ zeros 4)
      takenB opNumaMap 0 r up = true ∧ leAt 0 2 r.data ≤ 1023) ∧
    (∀ x ∈ [(0, 0, 0, 0), (4095, 0x0101, 1, 1025), (4095, 0x0101, 2, 255)],
      let r := rq (leBytes 2 x.1 ++ leBytes 2 x.2.1 ++ leBytes 1 x.2.2.1 ++ [0] ++ leBytes 2 x.2.2.2)
      takenB opCounterSelect 1 r up = true ∧ leAt 0 2 r.data ≤ 4095 ∧
        selectOk (leAt 2 2 r.data) (leAt 4 1 r.data) (leAt 6 2 r.data) = true) ∧
    takenB opTelemSnapshot 1 (rq []) up = true := by decide

theorem test_met_JalidMonitoring_b :
    (∀ fn ∈ [0, 1], takenB opVoteSet fn (rq (leBytes 8 0)) up = true ∧ voteOk fn (rq (leBytes 8 0)).data = true) ∧
    (let r := rq (leBytes 8 0x44444444444)
     takenB opVoteSet 0 r up = true ∧ voteOk 0 r.data = true) ∧
    takenB opVoteQuery 1 (rq []) up = true ∧ takenB opFaultVector 0 (rq []) up = true ∧
    (∀ n ∈ [0, 1151], let r := rq (leBytes 2 n ++ zeros 2)
      takenB opFaultQuery 0 r up = true ∧ leAt 0 2 r.data ≤ 1151) ∧
    (∀ x ∈ [(0, 1152), (1151, 1)], let r := rq (leBytes 2 x.1 ++ leBytes 2 x.2)
      takenB opFaultClear 0 r up = true ∧ 1 ≤ leAt 2 2 r.data ∧ leAt 0 2 r.data + leAt 2 2 r.data ≤ 1152) ∧
    (∀ n ∈ [1, 47], let r := rq (zeros 4 ++ leBytes 2 n ++ zeros 2)
      takenB opLogRead 0 r up = true ∧ 1 ≤ leAt 4 2 r.data ∧ leAt 4 2 r.data ≤ 47) := by decide

/-- An open session on slot B for 8,192 B. -/
def session (w : Nat) : State :=
  evq 0 (upLin fun l => { l with session := { Session.none with isOpen := true, id := 1, slot := .b, imageLen := 8192, written := w } })

theorem test_met_JalidUpdates :
    (∀ n ∈ [0, 2 ^ 25], let r := rq (leBytes 4 n ++ zeros 4)
      takenB opUpdateBegin 0 r up = true ∧ leAt 0 4 r.data % 4096 = 0 ∧ leAt 0 4 r.data ≤ 2 ^ 25 ∧
        up.lin.session.isOpen = false ∧ up.targetSlot = some .b) ∧
    (let r := rq (leBytes 2 1 ++ zeros 2 ++ leBytes 4 4096 ++ leBytes 4 4096 ++ zeros 4 ++ leBytes 8 0x100000)
     let s := session 4096
     takenB opUpdateWrite 0 r s = true ∧ leAt 8 4 r.data % 4096 = 0 ∧ 4096 ≤ leAt 8 4 r.data ∧ leAt 8 4 r.data ≤ 2 ^ 22 ∧
       s.sessionIs r.data = true ∧ leAt 4 4 r.data = s.lin.session.written ∧
       leAt 4 4 r.data + leAt 8 4 r.data ≤ s.lin.session.imageLen ∧ s.sessionBusy = false) ∧
    (let r := rq (leBytes 2 1 ++ zeros 6)
     let s := session 8192
     takenB opUpdateCommit 0 r s = true ∧ s.sessionIs r.data = true ∧ s.sessionBusy = false ∧
       s.lin.session.imageLen ≤ s.lin.session.written) ∧
    (let r := rq (leBytes 2 1 ++ zeros 2)
     takenB opUpdateCancel 0 r (session 0) = true ∧ (session 0).sessionIs r.data = true ∧ (session 0).sessionBusy = false) ∧
    (let r := rq ([1] ++ zeros 3)
     let s := upBoot fun b => { b with slotB := { SlotInfo.init with valid := true } }
     takenB opUpdateActivate 0 r s = true ∧ leAt 0 1 r.data = slotCode .b ∧ s.lin.session.isOpen = false ∧
       (s.boot.slot .b).valid = true) ∧
    takenB opUpdateStatus 0 (rq []) up = true ∧
    (∀ k ∈ [LongKind.updateWrite, .updateCommit],
      let c : LongCmd := { token := 7, kind := k, obj := 1, payload := leBytes 2 1 ++ zeros 22 }
      let s := longs [c] (session 0)
      (s.fn 0).pocket.longs.find? (fun x => x.kind == k) = some c ∧ s.imageIn = true ∧
        s.boot.fuses ≤ good.manifest.secVer) ∧
    manifestGood good = true ∧ sectionsGood good = true ∧ manifestGood { good with ecdsa := false } = false ∧
    sectionsGood { good with hashes := false } = false ∧ good.manifest.secVer < (upBoot fun b => { b with fuses := 1 }).boot.fuses := by decide

theorem test_met_JalidService :
    takenB opNop 0 (rq []) up = true ∧ takenB opIdentify 1 (rq []) up = true ∧
    (∀ n ∈ [0, 1520], takenB opEcho 0 (rq (zeros n)) up = true) ∧
    (∀ n ∈ [1, 1512], let r := rq (zeros 4 ++ leBytes 2 n ++ zeros 2)
      takenB opYasilRead 0 r up = true ∧ 1 ≤ leAt 4 2 r.data ∧ leAt 4 2 r.data ≤ 1512) ∧
    (let c : LongCmd := { token := 9, kind := .updateWrite, obj := 1, payload := [] }
     let s := longs [c] up
     takenB opAbort 0 (rq (leBytes 2 9)) s = true ∧
       (s.fn 0).pocket.longs.find? (fun x => x.token.toNat == leAt 0 2 (rq (leBytes 2 9)).data) = some c ∧
       c.kind.lateCommit = true) := by decide +kernel

/-- An event as it arises, held. -/
def heldEvent : Held :=
  { ev := { type := 1, token := 0, status := 0, object := 0, detail := 0, seq := 0, kind := 0, count := 0, time := 0 },
    final := false, stamp := 0 }

/-- PF0 may issue requests, its event queue has two unread entries of 64, and an event is held. -/
def unread : State :=
  evq 0 (up.modFn 0 fun f => { f with cfg := { f.cfg with bme := true }, pocket := { f.pocket with tail := 2, held := [heldEvent] } })

theorem test_met_PocketRegisters :
    (∀ v ∈ [0x80000006, 0x87FF000C], up.regServed 0 = true ∧ bitAt (BitVec.ofNat 32 v).toNat 31 = true ∧
      (up.fn 0).pocket.enable = false) ∧
    (unread.regServed 0 = true ∧ bitAt (0 : W32).toNat 31 = false) ∧
    (∀ v ∈ [1, 2, 3], let p := (unread.fn 0).pocket
      1 ≤ (v % p.ringSize + p.ringSize - p.head.toNat % p.ringSize) % p.ringSize) ∧
    ((unread.fn 0).pocket.held = [heldEvent] ∧ unread.eventsHeld 0 = false ∧ 0 < unread.eventRoom 0) ∧
    (up.operating = true ∧ up.boot.reloading = false) ∧
    (let s := upBoot fun b => { b with reloading := true }
     s.boot.reloading = true ∧ ∀ x ∈ s.fns, x.2.flr = true ∨ x.2.pocket.longs = []) := by decide

/-! ## Witnesses: configuration, security, host accesses -/

/-- PF0 with Bus Master Enable and Memory Space Enable. -/
def master (s : State) : State := s.modFn 0 fun f => { f with cfg := { f.cfg with bme := true, mse := true } }

theorem test_met_Configuration :
    (∀ s ∈ [up, master up], s.cfgLive 0 = true) ∧
    ((master up).fn 0).cfg.bme = true ∧ (up.fn 0).cfg.bme = false ∧ (up.fn 0).cfg.d3hot = false ∧
    (let s := upFn 0 fun f => { f with cfg := { f.cfg with d3hot := true } }
     s.cfgLive 0 = true ∧ (s.fn 0).cfg.d3hot = true ∧ s.link.state = .l0 ∧
       { s with link := { s.link with state := .l10 } }.link.state ≠ .l0) ∧
    (let s := upFn 0 fun f => { f with cfg := { f.cfg with atsEn := true } }
     s.cfgLive 0 = true ∧ (s.fn 0).cfg.atsEn = true) ∧ (up.fn 0).cfg.atsEn = false ∧
    (let s := up.modFn 0 fun f => { f with cfg := { f.cfg with mse := false } }
     ∀ n ∈ [0, 8], s.cfgLive 0 = true ∧ (s.fn 0).cfg.mse = false ∧ n ≤ 8) ∧ (0 : Byte) ≠ 0xFF ∧ (0xFE : Byte) ≠ 0xFF ∧
    (∀ n ∈ [0, 1024], up.prov.vfEnable = false ∧ (BitVec.ofNat 16 n).toNat ≤ 1024) ∧
    ((vf1 aTenant).cfgLive 0 = true ∧ (vf1 aTenant).prov.vfEnable = true) ∧
    (∀ off ∈ [0, 4095], up.link.state ≠ .down ∧ up.boot.mode = .oper ∧ (up.fn 0).flr = false ∧ up.fnExists 0 = true ∧ off < 4096) ∧
    (upBoot fun b => { b with mode := .boot }).boot.mode = .boot ∧
    ((upFn 0 fun f => { f with flr := true }).fn 0).flr = true ∧ up.fnExists 2 = false := by decide

/-- A DOE session, and a locked interface on stream 3. -/
def secured (n : Nat) : State := { up with prov := { up.prov with spdm := List.range n } }
def boundTo (t : Tdisp) : State :=
  { vf1 { aTenant with tdisp := t } with
    prov := { (vf1 { aTenant with tdisp := t }).prov with
      spdm := [1], ide := [(3, { valid := true, secure := true, group := 5, void := false })] } }

theorem test_met_SpdmIdeAndTdisp :
    (up.pf0Live = true) ∧ (∀ n ∈ [0, 3], (secured n).prov.spdm.length < 4) ∧
    4 ≤ (secured 4).prov.spdm.length ∧ 2 ∈ (secured 4).prov.spdm ∧
    (∀ k ∈ [0, 254], ∀ v ∈ [0, 0x80000005], up.regServed 0 = true ∧ k ≤ 254 ∧
      up.groupLocked (up.ideBind k).group.toNat = false ∧ up.groupLocked ((BitVec.ofNat 32 v).toNat % 256) = false ∧ up.prov.ide = []) ∧
    ((secured 1).prov.spdm ≠ [] ∧ (secured 1).pf0Live = true) ∧ up.link.state ≠ .down ∧
    (tget (boundTo .unlocked).prov.ide 3).isSome = true ∧
    (∀ t ∈ [Tdisp.unlocked, .locked, .run, .error], let s := boundTo t
      s.prov.spdm ≠ [] ∧ s.vfExists 1 = true ∧ s.tenant 1 = some { aTenant with tdisp := t }) ∧
    (boundTo .unlocked).lockStream 1 = some 3 := by decide

theorem test_met_SpdmCertificate : ∃ off, off ≤ up.chain.length := ⟨0, Nat.zero_le _⟩

/-- A staged unit of QP 0, landed whole, with its packet to node 0x55. -/
def aUnit (k : UnitKind) : XUnit :=
  { kind := k, fn := 0, group := 0, slice := .sla, obj := 0, sqi := 0, unitNo := 0, len := 8, landed := 8, committed := false,
    granted := none, emitted := false, stamp := 0, arrived := 0, addr := 0x1000, data := zeros 8,
    pkt := some (mkPacket 1 0x55 0 8 0 0), owner := .unit 0 0 0, ats := false, noSnoop := false, st := none, resend := false,
    commitNo := 0, grantUnits := 0, acked := false, xlated := true, rule := false, heldBack := false, xasked := false,
    starved := false, cutOff := false }

/-- PF0 with an open aperture and BAR2 served. -/
def served : State := { master (wins id id) with tp := { Tp.init with node := 0x12 } }

/-- A read in progress through aperture 0. -/
def reading : State :=
  { served with win := { served.win with reads := [(0, {
    apt := 0, fn := 0, htag := 4, len := 64, rule := false, runs := [(0, 0, 64)], pieces := [(0, 64, none)] })] } }

theorem test_met_Bar2Accesses :
    (served.link.state ≠ .down ∧ served.bar2Gate 0 = .served ∧ served.postedHeld = false ∧ served.nonPostedFull = false) ∧
    (let s := { served with units := List.replicate 2 (0, { aUnit .aptWrite with len := 2 ^ 40 }) }
     s.bar2Gate 0 = .served ∧ s.postedHeld = false ∧ s.nonPostedFull = false ∧
       s.aptAt 0 0 4 = some (0, aptOf 0 (aptData 0)) ∧ s.aptRoom (aptOf 0 (aptData 0)) 4 = false) ∧
    (served.flushReg 0 (served.ctlPage 0) 4 = some 0 ∧ served.flushReg 0 0 4 = none ∧ served.flushReg 0 (served.ctlPage 0) 8 = none) ∧
    (∀ x ∈ [(0, 1), (0xFFC0, 64)], served.aptAt 0 x.1 x.2 = some (0, aptOf 0 (aptData 0)) ∧
      served.aptRoom (aptOf 0 (aptData 0)) x.2 = true) ∧
    (∀ x ∈ [(0, 1), (0xF000, 4096)], served.win.reads.length < 256 ∧ served.aptAt 0 x.1 x.2 = some (0, aptOf 0 (aptData 0))) ∧
    (∀ x ∈ [(0x10000, 1), (0xFFFF, 2)], served.aptAt 0 x.1 x.2 = none) ∧ served.tdispIs 0 .run = false ∧
    (tget reading.win.reads 0).isSome = true ∧ (tget reading.win.apts 0).isSome = true ∧
    (tget served.win.apts 0 = some (aptOf 0 (aptData 0)) ∧ (aptOf 0 (aptData 0)).owner = 0 ∧ (aptOf 0 (aptData 0)).state = .opened) := by
  decide

/-- A host read of PF0 with tag 9, and a translation request with tag 8. -/
def aTag (st : TagState) (r : RdRole) : Tag :=
  { fn := 0, state := st, role := r, obj := 0, addr := 0x1000, len := 64, xunit := 0, off := 0, translated := false }
def tagged (st : TagState) (r : RdRole) (stale : Bool) : State :=
  { up with tags := [(tagKey 0 9, aTag st r)],
            xlt := { Xlt.init with reqs := [{ tag := 9, fn := 0, base := 0x1000, len := 4096, write := false, stale := stale }] } }

theorem test_met_HostAnswers :
    (up.boot.mode = .oper ∧ up.link.state ≠ .down) ∧ (∀ v ∈ [0, up.vectorCount 0 - 1], up.regServed 0 = true ∧ v < up.vectorCount 0) ∧
    (let s := tagged .outstanding .payload false
     tget s.tags (tagKey 0 9) = some (aTag .outstanding .payload) ∧ s.offStream 0 none = false) ∧
    (∀ st ∈ [TagState.timedOut, .quarantined], tget (tagged st .payload false).tags (tagKey 0 9) = some (aTag st .payload)) ∧
    tget up.tags (tagKey 0 9) = none ∧
    (∀ stale ∈ [true, false], let s := tagged .outstanding .translation stale
      tget s.tags (tagKey 0 9) = some (aTag .outstanding .translation) ∧
        (s.xlt.reqs.find? (fun q => q.fn == 0 && q.tag == 9)).map (·.stale) = some stale) ∧
    ((up.fn 0).flr = false ∧ (up.fn 0).invQueue.length < 32) ∧
    (let s := upFn 0 fun f => { f with invQueue := [(31, [])] }
     (s.fn 0).invQueue = [(31, [])]) := by decide

/-! ## Witnesses: queues, pleats, emission -/

/-- A doorbell of QP index i. -/
def bell (i : Nat) (v : W16) : Doorbell := { rsvHi := 0, qpIndex := BitVec.ofNat 10 i, rsvLo := 0, index := v }

theorem test_met_Doorbells :
    (∀ f ∈ [QpState.active, .stopped, .error], let s := qpIn fun p => { p with state := f }
      s.regServed 0 = true ∧ s.fnReady 0 = true ∧
        s.qpAt 0 (bell 0 1).qpIndex.toNat = some (0, { aQp with state := f }) ∧ s.qp 0 = some { aQp with state := f } ∧
        s.plc.moves = [] ∧ s.qpAway 0 { aQp with state := f } = false) ∧
    (∀ v ∈ [1, 64], BitVec.ofNat 16 v ≠ aQp.prod ∧ (BitVec.ofNat 16 v - aQp.cqProd).toNat ≤ min (2 ^ aQp.sqLog2) 65535) ∧
    (¬((65 : W16) - aQp.cqProd).toNat ≤ min (2 ^ aQp.sqLog2) 65535) ∧ (bell 0 0).index = aQp.prod ∧
    (let s := qpIn fun p => { p with residence := .spilled }
     s.qpAway 0 { aQp with residence := .spilled } = true) ∧
    (∀ v ∈ [0, 0xFFC0], (aQp.cqProd - BitVec.ofNat 16 v).toNat ≤ 2 ^ aQp.cqLog2) ∧
    (¬(aQp.cqProd - (0xFFBF : W16)).toNat ≤ 2 ^ aQp.cqLog2) := by decide

/-- QP 0 ACTIVE, PF0 may issue requests. -/
def running (f : Qp → Qp) : State := master (qpIn fun p => f { p with state := .active })

/-- A descriptor of an opcode as fetched at index 0: 8,192 B to node 0x55. -/
def descOf (op : Nat) : Desc :=
  parseDesc (leBytes 1 op ++ zeros 3 ++ leBytes 4 8192 ++ leBytes 8 0x100800 ++ leBytes 4 0x55 ++ zeros 44) 0

theorem test_met_WorkBegins :
    (∀ n ∈ [1, 64], (running fun p => { p with prod := BitVec.ofNat 16 n }).fetchCount 0 { aQp with state := .active, prod := BitVec.ofNat 16 n } ≠ 0) ∧
    (∀ st ∈ [QpState.stopped, .draining], (qpIn fun p => { p with state := st }).qp 0 = some { aQp with state := st }) ∧
    ({ aQp with cqProd := 64 } : Qp).cqRoom = false ∧ (qpIn id).busBlocked 0 = true ∧
    (∀ op ∈ [1, 2, 3], let s := running fun p => { p with descs := [descOf op] }
      (descOf op).nextByte = 0 ∧ (descOf op).units = [] ∧ s.toBegin 0 0 (BitVec.ofNat 8 op) = some (descOf op)) ∧
    (let s := (running fun p => { p with descs := [descOf 1] }).modDesc 0 0 fun d => { d with started := true }
     (s.nextToStart 0).map (fun x => (x.2.sqi, x.2.opcode)) = some (0, 1)) ∧
    (∀ op ∈ [4, 5, 6], let s := running fun p => { p with descs := [descOf op] }
      s.toBegin 0 0 (BitVec.ofNat 8 op) = some (descOf op) ∧
        (s.modDesc 0 0 fun d => { d with started := true }).nextToStart 0 = none) := by decide

/-- Send state with room, on Sleeve A. -/
def aFlow : TxFlow :=
  { next := 0, unacked := [], sent := 0, limit := 64, granted := true, cwnd := 64 * 256, sleeve := .a, fn := some 0, queue := [], kept := [], ended := none,
    silent := false, wait := false, hold := none, lastCut := 0 }

/-- Sleeve A UP, the flow to node 0x55, and staged units. -/
def staging (l : List (Nat × XUnit)) (f : Arbiter → Arbiter) : State :=
  let s := { running id with
    units := l, nextUnit := 8, tp := { Tp.init with node := 0x12, tx := [(flowKey 0x55 0, aFlow)] },
    slvA := { Slv.init with state := .up, rate := 3, rxLanes := 8, txLanes := 8, peerDepth := 4096 },
    plt := { Plt.init with host := f Arbiter.init, sla := f Arbiter.init, current := 100 } }
  s

theorem test_met_RecordsAndModeration :
    (∀ op ∈ [5, 6], let d := { descOf op with started := true }
      let p := { aQp with state := .active, descs := [d] }
      let s := running fun p => { p with descs := [d] }
      s.qp 0 = some p ∧ d.sqi = 0 ∧ d.status = none ∧ p.cqRoom = true ∧ d.opcode = BitVec.ofNat 8 op ∧
        s.writesPending 0 = false) ∧
    (∀ x ∈ [(1, 1), (0, 1), (1, 0)],
      let s := up.modFn 0 fun f => { f with qsets := [(0, { QSet.blank with modTime := BitVec.ofNat 16 x.1, unannounced := x.2 })] }
      (tget (s.fn 0).qsets 0).map (fun q => (q.modTime.toNat, q.unannounced)) = some x) ∧
    (∀ st ∈ [QpState.active, .stopped], ∀ op ∈ [5, 6], let d := { descOf op with started := true }
      let p := { aQp with state := st, descs := [d, descOf 1], cqProd := 64 }
      let s := qpIn fun _ => p
      s.qp 0 = some p ∧ p.desc? 0 = some d ∧ p.cqRoom = false ∧ (descOf 1).status = none) ∧
    (let s := qpIn fun p => { p with descs := [descOf 5] }
     (∀ st ∈ [QpState.error, .draining], s.qp 1 = none ∧ st ≠ .active ∧ st ≠ .stopped) ∧ (descOf 5).started = false) ∧
    (let d := { descOf 5 with started := true }
     ∃ e ∈ [descOf 1, d].takeWhile fun x => x.sqi != 1, e.status = none) ∧
    ((staging [(0, aUnit .put)] id).writesPending 0 = true) ∧
    (∀ x ∈ [(64, 8192), (1, 0)], let q := { QSet.blank with rate := BitVec.ofNat 32 x.1, bucket := x.2 }
      let s := (qpIn id).modFn 0 fun f => { f with qsets := [(0, q)] }
      tget (s.fn 0).qsets 0 = some q ∧ ∀ k ∈ s.qpsOfSet 0 0, (s.qp k).all (fun p => p.descs.isEmpty) = true) ∧
    tget (up.fn 0).qsets 0 = none := by decide

theorem test_met_Pleats :
    (let s := { up with clk := { up.clk with localCount := 1280 } }
     ∀ p ∈ [1, 100], s.plt.current < p ∧ p ≤ s.clk.localCount * 10 / 128) ∧
    (∀ p ∈ [0, 1], p ≤ up.plt.current ∨ up.clk.localCount * 10 / 128 < p) ∧
    (let s := { staging [(0, aUnit .put)] id with clk := { up.clk with localCount := 100001 } }
     s.requests .sla 0 (aUnit .put) = true ∧ (aUnit .put).arrived + 1000 * s.plt.starveLimit.toNat < s.clk.localCount) ∧
    (∀ n ∈ [0, 100000], let s := { staging [(0, aUnit .put)] id with clk := { up.clk with localCount := n } }
      n ≤ (aUnit .put).arrived + 1000 * s.plt.starveLimit.toNat) ∧
    (let s := staging [] fun a => { a with pendings := [96] }
     (s.arb .sla).pendings = [96] ∧ 96 + 4 ≤ s.plt.current) ∧
    (let s := staging [(0, aUnit .put)] fun a => { a with pendings := [100], entries := [(100, 0)] }
     (s.arb .sla).queue.length < 4 ∧ s.ownedChoice .sla (s.livePleats .sla) = some (100, 0, aUnit .put) ∧
       tget s.units 0 = some (aUnit .put)) ∧
    (let s := staging [(0, aUnit .put)] fun a => { a with pendings := [100], queue := [4, 5, 6] }
     (s.arb .sla).queue.length < 4 ∧ s.livePleats .sla = [100] ∧ s.ownedChoice .sla [100] = none ∧
       oldest (s.requesters .sla) = some (0, aUnit .put) ∧ s.requests .sla 0 (aUnit .put) = true) ∧
    (¬((staging [] fun a => { a with queue := [1, 2, 3, 4] }).arb .sla).queue.length < 4) := by decide

theorem test_met_UnitsLeave :
    (let u := aUnit .put
     let s := staging [(0, u)] id
     tget s.units 0 = some u ∧ u.committed = false ∧ u.len ≤ u.landed ∧ u.xlated = true ∧ u.grantUnits = 0 ∧
       u.kind ≠ .inWrite ∧ u.kind ≠ .recvData ∧
       ∀ x ∈ s.units, x.1 < 0 → x.2.source = u.source → x.2.ordered = true → x.2.committed = true) ∧
    (let u := { aUnit .inWrite with cutOff := true }
     tget (staging [(0, u)] id).units 0 = some u ∧ u.ordered = true ∧ u.len ≤ u.landed) ∧
    (aUnit .getData).ordered = false ∧
    (let s := staging [(0, aUnit .put), (1, aUnit .sendMsg)] id
     tget s.units 1 = some (aUnit .sendMsg) ∧ (aUnit .put).source = (aUnit .sendMsg).source ∧
       ∃ x ∈ s.units, x.1 < 1 ∧ x.2.source = (aUnit .sendMsg).source ∧ x.2.ordered = true ∧ x.2.committed = false) ∧
    (∀ u ∈ [{ aUnit .put with landed := 7 }, { aUnit .put with committed := true }, { aUnit .put with xlated := false },
        { aUnit .put with grantUnits := 1 }],
      u.landed < u.len ∨ u.committed = true ∨ u.xlated = false ∨ u.grantUnits ≠ 0) ∧
    (∀ k ∈ [UnitKind.getData, .put], let u := { aUnit k with committed := true, granted := some (.owned, 100) }
      let s := staging [(0, u)] fun a => { a with queue := [0] }
      tget s.units 0 = some u ∧ s.unitReady 0 u = true ∧ s.firstOut 0 u = true ∧ u.hostBound = decide (k = .getData) ∧
        0 < s.nextUnit ∧ u.resend = false ∧ (tget s.tp.tx u.flow).isSome = true ∧ s.keptOf 0 u.flow = none) ∧
    (let u := aUnit .put
     (staging [(0, u)] id).unitReady 0 u = false) := by decide

/-- A unit of GET data granted, its function's ATS off or on with a translation held. -/
def leaving (ats : Bool) : State :=
  let u := { aUnit .getData with committed := true, granted := some (.owned, 100), ats := ats }
  let s := staging [(0, u)] fun a => { a with queue := [0] }
  { s with xlt := { s.xlt with cache := [{ fn := 0, base := 0x1000, len := 4096, pa := 0x7000, r := true, w := true, noSnoop := false }] } }

/-- A unit of PUT data granted whose packet its flow kept across a RETIRE, or is to be resent. -/
def again (resend : Bool) : State :=
  let u := { aUnit .put with committed := true, granted := some (.owned, 100), resend := resend }
  let s := staging [(0, u)] fun a => { a with queue := [0] }
  let t : TxPkt := { seq := 0, pkt := mkPacket 1 0x55 0 8 0 0, units := 1, sentAt := 0, firstAt := 0, xunit := some 0,
                     owner := .unit 0 0 0, fn := 0, resent := resend, again := resend, sampled := false, order := 0 }
  { s with tp := { s.tp with tx := [(flowKey 0x55 0, if resend then { aFlow with next := 1, unacked := [t] } else { aFlow with kept := [t] })] } }

theorem test_met_UnitsLeave_b :
    (∀ ats ∈ [false, true], let s := leaving ats
      ∀ x ∈ s.units, s.unitReady 0 x.2 = true ∧ s.firstOut 0 x.2 = true ∧ x.2.hostBound = true ∧
        ∀ t ∈ s.hostTlps x.2, (∃ pa ∈ [0x7000], s.xlook 0 t.1 t.2.length ats true = .hit pa false) ∨
          s.xlook 0 t.1 t.2.length ats true = .untranslated) ∧
    (∀ b ∈ [false, true], let s := again b
      ∀ x ∈ s.units, s.unitReady 0 x.2 = true ∧ s.firstOut 0 x.2 = true ∧ x.2.hostBound = false ∧ x.2.resend = b ∧
        (s.keptOf 0 x.2.flow).isSome = !b ∧
        ((tget s.tp.tx x.2.flow).bind fun f => f.unacked.find? (·.again)).isSome = b) := by decide

/-! ## Witnesses: ledger, placement, power -/

/-- PF0 with an allowance in force, a charge, and queue set 0 with a sub-allowance of 1 uJ and a charge. -/
def spent (n m : Nat) : State :=
  up.modFn 0 fun f => { f with exempt := false, allowance := 5, consumed := n, qsets := [(0, { QSet.blank with subAllowance := 1, charged := m })] }

theorem test_met_LedgerAndPlanner :
    (let s := spent (5 * fJ) 0
     s.fnReady 0 = true ∧ (s.fn 0).exhausted = true ∧ (s.fn 0).paused = false ∧
       (s.fn 0).limit = some 5 ∧ nearLimit (s.fn 0).used 5 = true) ∧
    (let s := spent (5 * fJ - 1) 0
     s.fnReady 0 = true ∧ (s.fn 0).exhausted = false) ∧
    (let s := spent 0 fJ
     (tget (s.fn 0).qsets 0).map (fun x => (x.exhausted, x.paused)) = some (true, false)) ∧
    up.fnReady 1 = false ∧ up.metering = true ∧ (up.fns = [] ∨ up.fns ≠ []) ∧
    (upBoot fun b => { b with perst := true }).metering = false ∧ up.el.railTotal.length = 8 ∧ up.el.closing = none ∧
    (let s := { up with el := { up.el with closing := some (7, 5) } }
     s.el.closing = some (7, 5)) ∧
    up.boot.mode = .oper ∧ (upBoot fun b => { b with mode := .safe }).boot.mode ≠ .oper ∧
    (qpIn id).qp 0 = some aQp := by decide

theorem test_met_PlannerK : (1 / 2 : Rat) ≤ up.el.k ∧ up.el.k ≤ 2 := by
  show (1 / 2 : Rat) ≤ 1 ∧ (1 : Rat) ≤ 2
  exact ⟨by decide +kernel, by decide +kernel⟩

/-- QP 0 in a move. -/
def moving (mv : Move) (two : Bool) : State := { running id with plc := { Plc.init with moves := [(0, mv, two)] } }

/-- QP 0 spilled with record 0, its load under way. -/
def loadingQp : State := running fun p => { p with residence := .spilled, record := some 0, loading := true }

/-- QP 0 served from record 0, the grant in force. -/
def servedQp : State :=
  let s := running fun p => { p with residence := .spilled, record := some 0, serviceLoaded := true }
  { s with prov := { s.prov with spill := true, spillSize := 0x200000 } }

/-- A flow with a hold for Sleeve B and nothing unacknowledged. -/
def heldFlow : State := { up with tp := { Tp.init with tx := [(flowKey 0x55 0, { aFlow with hold := some .b })] } }

theorem test_met_Migrations :
    (∀ x ∈ [(Move.promote, true), (.demote, true), (.demote, false), (.engine 15, true)], let s := moving x.1 x.2
      s.qp 0 = some { aQp with state := .active } ∧ s.quiesces 0 = true ∧
        s.plc.moves.find? (·.1 == 0) = some (0, x.1, x.2) ∧ s.recordOut 0 = true ∧
        s.quiescent 0 { aQp with state := .active } = true) ∧
    ((moving .promote false).plc.moves.find? (·.1 == 0) = some (0, .promote, false) ∧ (running id).plc.moves.find? (·.1 == 0) = none) ∧
    (let s := { moving .demote true with plc := { (moving .demote true).plc with retry := [0] } }
     s.recordOut 0 = false) ∧
    (let s := running fun p => { p with descs := [descOf 1] }
     s.quiescent 0 { aQp with state := .active, descs := [descOf 1] } = false) ∧
    (let p := { aQp with state := .active, residence := .migrating, record := some 0, loading := true }
     let s := { moving .promote false with qps := [(0, p)] }
     s.qp 0 = some p ∧ s.plc.retry.contains 0 = false ∧ s.qpAway 0 p = true ∧ s.readOver 0 = true) ∧
    (let s := { moving .promote true with tags := [(0, aTag .outstanding .payload)] }
     s.quiesces 0 = false) ∧ 2000 < 2001 ∧
    (loadingQp.qp 0 = some { aQp with state := .active, residence := .spilled, record := some 0, loading := true } ∧
      loadingQp.plc.retry.contains 0 = false ∧
      loadingQp.qpAway 0 { aQp with state := .active, residence := .spilled, record := some 0, loading := true } = true ∧
      loadingQp.readOver 0 = true) ∧
    (let p := { aQp with state := .active, residence := .spilled, record := some 0, serviceLoaded := true }
     servedQp.qp 0 = some p ∧ servedQp.spillOpen = true ∧ servedQp.moving 0 = false ∧ servedQp.quiescent 0 p = true) ∧
    ((tget heldFlow.tp.tx (flowKey 0x55 0)).map (fun f => (f.hold, f.unacked)) = some (some .b, [])) := by decide

/-- The Buttonhole domain in a state, with or without a floor of PF0. -/
def bhIn (st : PwrState) (floor : Nat) : State :=
  (upLink fun l => { l with state := .l12 }).modDom .bh fun x => { x with state := st, pf0Floor := floor }

theorem test_met_PowerDomains :
    (∀ x ∈ [(PwrState.idle, PwrState.run), (.sleep, .idle), (.deepSleep, .sleep)], let s := bhIn x.2 0
      s.pwr.doms.length = 11 ∧ Domain.bh ≠ Domain.aon ∧ (s.dom .bh).state = x.1.above ∧
        (s.dom .bh).entering = none ∧ (s.dom .bh).waking = false ∧ s.refusers .bh x.1 = []) ∧
    (∀ x ∈ [(PwrState.idle, PwrState.run), (.sleep, .idle), (.deepSleep, .sleep)], let s := bhIn x.2 4
      (s.dom .bh).state = x.1.above ∧ s.refusers .bh x.1 ≠ []) ∧
    (let s := { up.modDom .blt (fun x => { x with pf0Floor := 0 }) with belt := { up.belt with enable := false } }
     (s.dom .blt).state = PwrState.idle.above ∧ s.refusers .blt .idle = []) ∧
    (let s := up.modDom .bh fun x => { x with entering := some .sleep }
     (s.dom .bh).entering = some .sleep) ∧
    (let s := bhIn .sleep 0
     (s.dom .bh).entering = none ∧ (s.dom .bh).state ≠ .run ∧ (s.dom .bh).state ≠ .off ∧ (s.dom .bh).waking = false) ∧
    (let s := up.modDom .bh fun x => { x with state := .sleep, waking := true }
     (s.dom .bh).waking = true) ∧ up.regServed 0 = true := by decide

/-! ## Witnesses: packets -/

/-- Receive state at its start. -/
def aRx : RxFlow :=
  { expect := 5, drained := 0, limit := 0, lastLimit := none, acked := none, waiting := [], refused := [], sleeve := .a, fn := none,
    lastAt := 0, seenAt := 0 }

/-- Node 0x12 of epoch 1 with Sleeve A UP, a receive flow from node 3 of epoch 9, and PF0's inbound window 0 of 64 KiB at
offset 0x40000 with tag 0xEE. -/
def fabric : State :=
  { master (wins id id) with
    tp := { Tp.init with node := 0x12, nodeFixed := true, epoch := 1, known := [(3, 9)], rx := [(flowKey 3 0, aRx)] },
    slvA := { Slv.init with state := .up, rate := 3, rxLanes := 8, txLanes := 8, peerDepth := 4096 } }

/-- A packet from node 3 with the expected sequence number. -/
def pk (kind off : Nat) (d : Bytes) : Packet :=
  { kind := BitVec.ofNat 8 kind, flags := 0, len := d.length, src := 3, vc := 0, dst := 0x12, status := 0, srcEpoch := 9,
    dstEpoch := 1, seq := 5, rsv := 0, tag := if kind = 1 ∨ kind = 2 ∨ kind = 5 ∨ kind = 7 ∨ kind = 8 then 0xEE else 0,
    offset := BitVec.ofNat 64 off, payload := d }

/-- What Expected asks, as one condition. -/
def expectedB (sl : Sleeve) (p : Packet) (r : RxFlow) (s : State) : Bool :=
  s.slvUp sl && packetOk p s.tp.node && p.dstEpoch == s.tp.epoch &&
    tget s.tp.known p.src == some p.srcEpoch && decide (tget s.tp.rx p.rxFlow = some r) && p.seq == r.expect

theorem expectedB_expected {sl : Sleeve} {p : Packet} {r : RxFlow} {s : State} (h : expectedB sl p r s = true) :
    Expected sl p r s := by
  simp only [expectedB, Bool.and_eq_true, decide_eq_true_eq, beq_iff_eq] at h
  obtain ⟨⟨⟨⟨⟨b, c⟩, d⟩, e⟩, f⟩, g⟩ := h
  exact ⟨b, c, d, e, f, g⟩

theorem test_met_PacketsDiscarded :
    (let p := pk 1 0x40000 [1]
     up.slvUp .a = false ∧ fabric.slvUp .a = true ∧ packetOk p fabric.tp.node = true ∧
       packetOk { p with dst := 0x13 } fabric.tp.node = false ∧ { p with dstEpoch := 2 }.dstEpoch ≠ fabric.tp.epoch ∧
       fabric.epochOlder 3 8 = true ∧ p.dstEpoch = fabric.tp.epoch ∧ tget fabric.tp.known p.src = some p.srcEpoch ∧ p.kind ≠ 9 ∧
       tget fabric.tp.rx { p with vc := 1 }.rxFlow = none ∧ packetOk { p with vc := 1 } fabric.tp.node = true ∧
       tget fabric.tp.rx p.rxFlow = some aRx) ∧
    (∀ n ∈ [6, 5 + 2 ^ 23 - 1], BitVec.ofNat 24 n ≠ aRx.expect ∧ (BitVec.ofNat 24 n - aRx.expect).toNat < 2 ^ 23) ∧
    (∀ n ∈ [4, 5 + 2 ^ 23], BitVec.ofNat 24 n ≠ aRx.expect ∧ ¬(BitVec.ofNat 24 n - aRx.expect).toNat < 2 ^ 23) := by decide

theorem test_met_InboundAccesses :
    (∀ k ∈ [1, 2], let p := pk k 0x30000 (beBytes 4 64)
      expectedB .a p aRx fabric = true ∧ p.kind = BitVec.ofNat 8 k ∧ fabric.iwinAt p.offset.toNat = none) ∧
    (∀ x ∈ [(0x40000, 0), (0x4FFFC, 0), (0x4FFFD, 2)], let p := pk 1 x.1 (zeros 4)
      expectedB .a p aRx fabric = true ∧ fabric.iwinAt p.offset.toNat = some (0, iwinOf 0 (iwinData 0)) ∧
        fabric.inStatus (iwinOf 0 (iwinData 0)) p p.offset.toNat p.len true = x.2) ∧
    (let s := fabric.modFn 0 fun f => { f with cfg := { f.cfg with atsEn := true } }
     s.atsOn (iwinOf 0 (iwinData 0)).owner = true ∧ expectedB .a (pk 1 0x40000 (zeros 4)) aRx s = true) ∧
    (∀ x ∈ [(64, 0), (4096, 0), (4097, 0), (0x10000, 0), (0x10001, 2)], let p := pk 2 0x40000 (beBytes 4 x.1)
      expectedB .a p aRx fabric = true ∧ beNat (p.payload.take 4) = x.1 ∧
        fabric.inStatus (iwinOf 0 (iwinData 0)) p p.offset.toNat x.1 false = x.2) ∧
    (fabric.slotRoom .a 0 (iwinOf 0 (iwinData 0)) 4097 = true ∧ fabric.prefetched 0 3 0x40000 = none) := by decide

/-- A delayed read of 8 B in slot 0. -/
def aSlot (ready : Bool) (landed : Nat) : DrSlot :=
  { win := 0, node := 3, vc := 0, sl := .a, seq := 2, off := 0x40000, len := 8192, lead := 0, landed := landed, ready := ready,
    data := zeros 8192, collected := [], sequential := false, order := 0 }
def slotted (d : DrSlot) : State := { fabric with win := { fabric.win with slots := [(0, d)] } }

theorem test_met_InboundRetry :
    (let s := { fabric with win := { fabric.win with slots := (List.range 32).map fun n => (n, { aSlot false 0 with data := [] }) } }
     s.slotRoom .a 0 (iwinOf 0 (iwinData 0)) 4097 = false ∧ expectedB .a (pk 2 0x40000 (beBytes 4 4097)) aRx s = true) := by
  decide

theorem test_met_DelayedReadsAndFlush :
    ((aSlot false 8192).ready = false ∧ (aSlot false 8192).data.length ≤ (aSlot false 8192).landed ∧ (aSlot true 8192).ready = true ∧
      (aSlot false 8191).landed < (aSlot false 8191).data.length) ∧
    (∀ x ∈ [(0, 1), (4096, 4096), (8191, 1), (4097, 4096)], let p := pk 5 (x.1 * 2 ^ 16 + x.2) []
      let s := slotted (aSlot true 8192)
      expectedB .a p aRx s = true ∧ p.kind = 5 ∧ p.handle = 0 ∧ (tget s.win.iwins 0).isSome = true ∧
        bits p.offset.toNat 47 16 = x.1 ∧ bits p.offset.toNat 15 0 = x.2 ∧
        (x.1 + x.2 ≤ 8192 → s.inStatus (iwinOf 0 (iwinData 0)) p (0x40000 + x.1) x.2 false = 0)) ∧
    (tget served.win.apts 0 = some (aptOf 0 (aptData 0)) ∧ served.bar2Gate 0 = .served ∧
      ((wins Apt.closing id).win.apts.map fun x => decide (x.2.state ≠ .opened)) = [true]) := by decide +kernel

/-- A GET of QP 0 to node 3 that waits, and a piece of a held aperture read. -/
def awaiting (o : Owner) (f : Qp → Qp) : State :=
  let s := { fabric with qps := [(0, f { aQp with state := .active, descs := [{ descOf 2 with started := true }] })],
                         tp := { fabric.tp with awaits := [{ node := 3, vc := 0, seq := 4, owner := o, len := 64, sentAt := 0 }] } }
  { s with win := { s.win with reads := reading.win.reads } }

/-- A READ_RSP to sequence 4 with a status. -/
def readRspPk (st : Byte) : Packet := { pk 3 0x10800 (zeros 64) with tag := 4, status := st }

theorem test_met_Responses :
    (∀ k ∈ [4, 6], let p := pk k 0 []
      expectedB .a p aRx fabric = true ∧ p.kind = BitVec.ofNat 8 k) ∧
    (expectedB .a (readRspPk 0) aRx fabric = true ∧ fabric.tp.awaits = []) ∧
    (∀ o ∈ [Owner.get 0 0 0, .aptRead 0 0], ∀ st ∈ [0, 2], let s := awaiting o id
      let p := readRspPk (BitVec.ofNat 8 st)
      expectedB .a p aRx s = true ∧ p.kind = 3 ∧
        (s.tp.awaits.find? fun a => a.node == p.src && a.vc == p.vc.toNat && a.seq == BitVec.ofNat 24 p.tag.toNat).map (·.owner) = some o ∧
        ((s.qp 0).bind fun x => (x.desc? 0).map (·.status)) = some none ∧ (s.qp 0).map (·.state) = some .active ∧
        (tget s.win.reads 0).map (·.pieces.length) = some 1) := by decide

/-- A SEND to QP 0 from QP 5 of node 3: a whole message of n bytes with its IMMEDIATE. -/
def sendPk (n : Nat) : Packet := { pk 7 (5 * 2 ^ 32 + (n - 1)) (zeros (n + 8)) with flags := 0x60 }

/-- QP 0 with a RECV of 200 B posted. -/
def receiver (f : Qp → Qp) : State :=
  { fabric with qps := [(0, f { aQp with state := .active, descs := [{ descOf 4 with started := true, len := 200 }] })] }

theorem test_met_Messages :
    (expectedB .a (sendPk 1) aRx fabric = true ∧ fabric.qp (sendPk 1).sendTo = none) ∧
    (∀ n ∈ [1, 200, 201], let s := receiver id
      expectedB .a (sendPk n) aRx s = true ∧ (sendPk n).kind = 7 ∧ (s.qp (sendPk n).sendTo).isSome = true ∧ s.plc.moves = [] ∧
        s.tp.held = [] ∧ s.fnReady 0 = true ∧ s.tagAdmitted 0 (sendPk n) = true ∧
        s.refusalOf (sendPk n) = none ∧
        ((s.qp 0).map fun x => (x.recvFor (sendPk n) 40).toOption.isSome) = some (decide (n ≤ 200))) ∧
    (let s := receiver fun p => { p with residence := .spilled }
     ((s.qp 0).map fun x => s.qpAway 0 x) = some true) ∧
    (∀ b ∈ [false, true], let s := receiver id
      let s := { s with tp := { s.tp with refusing := [{ target := 0, node := 3, from_ := 5, status := 9, lasting := b }] } }
      ∀ n ∈ [1, 200], (s.refusalOf (sendPk n)).isSome = b) ∧
    (sendPk 1).last = true ∧ { sendPk 1 with flags := 0x40 }.last = false ∧
    ((aQp.recvFor (sendPk 1) 40).toOption = none) ∧
    (let s := { receiver id with win := Win.init }
     s.tagAdmitted 0 (sendPk 1) = false ∧ expectedB .a (sendPk 1) aRx s = true) ∧
    (let p := pk 8 (5 * 2 ^ 32) []
     expectedB .a p aRx (receiver id) = true ∧ p.kind = 8 ∧
       ((receiver id).win.iwins.any fun w => (receiver id).tagAdmitted w.2.owner p) = true) := by decide +kernel

/-! ## Witnesses: status frames, Sleeves, transport -/

/-- A map with a sensor entry of 8 bits at bit 0 of frame 9 of node 3, and an output frame. -/
def sensorEntry (at_ : Nat) : Bytes :=
  [1, 0] ++ leBytes 2 9 ++ leBytes 4 3 ++ leBytes 2 at_ ++ leBytes 1 8 ++ [0] ++ leBytes 4 1 ++ leBytes 8 0 ++ leBytes 2 0x1000 ++
    zeros 6
def stitching (at_ : Nat) : State :=
  { fabric with sti := { Sti.init with map := [(0, parseStitch (sensorEntry at_)), (1, parseStitch frameEntry)] } }

/-- A status frame of ID 9 with a body of 1 B. -/
def framePk : Packet := { pk 9 0 (beBytes 2 9 ++ beBytes 2 1 ++ [0x2A]) with seq := 0 }

theorem test_met_StatusFramesAndTelemetry :
    (fabric.slvUp .a = true ∧ packetOk framePk fabric.tp.node = true ∧
      framePk.dstEpoch = fabric.tp.epoch ∧ tget fabric.tp.known framePk.src = some framePk.srcEpoch ∧ framePk.kind = 9 ∧
      (fabric.sti.map.filter fun e => e.2.matches_ framePk.src (beAt 0 2 framePk.payload)) = []) ∧
    (∀ x ∈ [(0, true), (1, false)], let s := stitching x.1
      let e := parseStitch (sensorEntry x.1)
      (s.sti.map.filter fun e => e.2.matches_ framePk.src (beAt 0 2 framePk.payload)) = [(0, e)] ∧ tget s.sti.map 0 = some e ∧
        decide (e.srcBit + e.srcWidth ≤ 8 * min (beAt 2 2 framePk.payload) (framePk.payload.length - 4)) = x.2) ∧
    (let s := stitching 0
     s.boot.mode = .oper ∧ (tget s.sti.map 1).map (·.kind) = some 5 ∧ s.slvUp .b = false ∧
       s.slvReady .a (packetFlits (parseStitch frameEntry).frameBytes.length) = true ∧ (tget s.sti.map 0).map (·.kind) = some 1 ∧
       s.sti.due = [] ∧ s.sti.awaiting = [] ∧ (s.dom .dp).state = .run ∧
       ({ s with slvA := { s.slvA with nextSeq := 1537 } } : State).slvReady .a (packetFlits (parseStitch frameEntry).frameBytes.length) = false ∧
       (List.replicate 64 ((0 : Nat), ([] : Bytes))).length = 64) ∧
    (stitched.slvUp .a = false ∧ stitched.slvUp .b = false) ∧
    (let s := upFn 0 fun f => { f with telemInterval := 100, telemMask := 7 }
     s.boot.mode = .oper ∧ s.fnReady 0 = true ∧ (s.fn 0).flr = false ∧ (s.fn 0).telemInterval ≠ 0) := by decide

/-- Sleeve A in a state. -/
def slvA (f : Slv → Slv) : State :=
  { up with slvA := f { Slv.init with
    rxMask := 0xFF, txMask := 0xFF, txSet := 0xFF, rate := 3, rxLanes := 8, txLanes := 8, tryRate := 3, peerRates := 7,
    rxMap := (List.range 8).map some } }
def slvIn (st : SlvState) : State := slvA fun v => { v with state := st }

/-- What TRAIN settles on. -/
def settled (lanes : Byte) : Trained := { rate := 3, best := 3, rxLocked := lanes, txLocked := lanes, coefs := List.replicate 8 0 }

/-- Training words of the first n transmit lanes of a peer that offers every rate, in order, lane 1 inverted. -/
def peerWords (n : Nat) : List (Option W64) :=
  (List.range 8).map fun l =>
    let w := trainWord l 7 3 0 0 0xFF false false 0
    if l < n then some (if l = 1 then ~~~w else w) else none

theorem test_met_SleeveDetect :
    (∀ n ∈ [2, 8], ((slvIn .detect).slv .a).state = .detect ∧ 2 ≤ laneCount (laneMask (trainWords (peerWords n)) (·.isSome))) ∧
    ¬2 ≤ laneCount (laneMask (trainWords (peerWords 1)) (·.isSome)) ∧ ((slvIn .up).slv .a).state ≠ .detect := by decide +kernel

theorem test_met_SleeveLinkUp :
    (∀ x ∈ [(0xFF, 8), (0xF, 4), (3, 2), (1, 0)], let v := (slvIn .train).slv .a
      let t := settled (BitVec.ofNat 8 x.1)
      v.state = .train ∧ t.rate ≠ 0 ∧ t.rate = v.tryRate ∧ t.rate.toNat ≤ t.best.toNat ∧
        t.best.toNat = commonRate ((slvIn .train).slvMax .a).toNat v.peerRates ∧
        widthFor (laneCount (t.rxLocked &&& ~~~v.retiredRx)) = x.2) ∧
    (∀ n ∈ [1, 2], let v := (slvA fun v => { v with state := .train, tryRate := BitVec.ofNat 2 n }).slv .a
      commonRate (v.tryRate.toNat - 1) v.peerRates = n - 1) ∧
    ((slvIn .align).slv .a).state = .align ∧
    (∀ n ∈ [0, 0xFFFFF], n = 0 ∨ 0xFFFFF ≤ n) ∧
    (let s := { slvIn .param with tp := { Tp.init with node := 0x12, nodeFixed := true } }
     (s.slv .a).state = .param ∧ (1 : Nat) ≠ 0 ∧ 1 < 0xFFFFF ∧ s.tp.nodeFixed = true ∧ 1 ≠ s.tp.node) ∧
    (slvIn .param).tp.nodeFixed = false ∧
    (let s := slvA fun v => { v with state := .param, helloRcvd := true, nodeOk := true, assigned := 0x12 }
     (s.slv .a).state = .param ∧ (s.slv .a).helloAcked = true ∧ (s.slv .a).helloRcvd = true ∧ (s.slv .a).nodeOk = true ∧
       s.encMet .a = true) ∧
    (let s := { slvA fun v => { v with state := .param, encMode := 1, helloRcvd := true, nodeOk := true, assigned := 0x12, peerCap := 1 } with
                lin := { up.lin with anchorA := true } }
     (s.slv .a).encApplies = true ∧ s.anchored .a = true ∧ s.encMet .a = true) ∧
    ((slvIn .param).slv .a).encApplies = false ∧ (slvIn .param).nodeMismatch .a = false ∧
    (let s := { slvA (fun v => { v with state := .param, assigned := 1 }) with tp := { Tp.init with node := 0x12, nodeFixed := true } }
     (s.slv .a).state = .param ∧ s.nodeMismatch .a = true) ∧
    (((slvIn .down).slv .a).state = .down ∧ ((slvIn .down).slv .a).enable = true) := by decide

theorem test_met_SleeveFlits :
    (∀ st ∈ [SlvState.param, .up], ((slvIn st).slv .a).state = .param ∨ ((slvIn st).slv .a).state = .up) ∧
    (let v := (slvA fun v => { v with state := .up, nextSeq := 3 }).slv .a
     v.outstanding ≠ 0 ∧ v.timerReplays < 3 ∧ v.ackValid 0 = true) ∧
    (let v := (slvA fun v => { v with state := .up, nextSeq := 3, timerReplays := 3 }).slv .a
     v.outstanding ≠ 0 ∧ 3 ≤ v.timerReplays) ∧
    ((slvIn .up).slv .a).outstanding = 0 ∧ (∀ l ∈ [0, 7], ((slvIn .up).slv .a).rxActive l = true) ∧
    ((slvA fun v => { v with state := .up, rxMask := 0xF }).slv .a).rxActive 7 = false ∧
    (∀ l ∈ [0, 7], ((slvIn .retrain).slv .a).state = .retrain ∧ bitAt ((slvIn .retrain).slv .a).retiredRx.toNat l = false) ∧
    (∀ x ∈ [(3, 2), (1, 0)], let v := (slvIn .retrain).slv .a
      let t := settled (BitVec.ofNat 8 x.1)
      t.rate ≠ 0 ∧ t.rate.toNat ≤ t.best.toNat ∧ t.best.toNat = commonRate ((slvIn .retrain).slvMax .a).toNat v.peerRates ∧
        (v.trained t).rxLanes = x.2 ∧ (v.trained t).txLanes = x.2) ∧
    (∀ st ∈ [SlvState.align, .param, .up, .retrain, .quiet], ((slvIn st).slv .a).linked = true) ∧
    ((slvIn .detect).slv .a).linked = false := by decide

/-- A flit as a peer sends it: it acknowledges sequence a and has sequence n. -/
def peerFlit (a : BitVec 12) (kind n : Nat) (body : Bytes) : Bytes :=
  flitBytes (flitHeader a false kind 0) (BitVec.ofNat 12 n) body (zeros 224)

theorem test_met_FlitChecks :
    let v := (slvA fun v => { v with state := .up, oldest := 0, nextSeq := 1 }).slv .a
    (∀ x ∈ [(0, []), (0, [5]), (0, [6]), (1, [1]), (5, [])], let f := peerFlit 0 x.1 0 x.2
      f.length = 256 ∧ beAt 248 8 f = crc64 (f.take 248) v.expect.toNat ∧ flitReserved (beAt 0 4 f) x.1 f = false ∧
        bits (beAt 0 4 f) 18 15 = x.1 ∧ BitVec.ofNat 12 (bits (beAt 0 4 f) 31 20) = (0 : BitVec 12) ∧
        beAt 0 1 (slice 4 16 f) = x.2.headD 0) ∧
      v.ackValid 0 = true ∧ v.ackValid 2 = false ∧ v.tagDue = false ∧ v.rxKeyed.rxOn = false ∧
      flitReserved (beAt 0 4 (peerFlit 0 6 0 [])) 6 (peerFlit 0 6 0 []) = true ∧
      beAt 248 8 (peerFlit 0 0 1 []) ≠ crc64 ((peerFlit 0 0 1 []).take 248) v.expect.toNat := by decide +kernel

/-- Sleeve A UP with encryption in force for what it receives, a group of flits accepted. -/
def grouped (l : List Bytes) (n : Nat) (times : List Nat) : State :=
  slvA fun v => { v with state := .up, keysIn := true, encOn := true, rxOn := true, rxGroup := l, expect := BitVec.ofNat 12 n, macTimes := times }

theorem test_met_SleeveWidthsAndQuiet :
    (∀ x ∈ [(0xFF, 0, 6), (0xFF, 7, 6), (3, 0, 0)],
      let v := (slvA fun v => { v with state := .up, rxMask := BitVec.ofNat 8 x.1 }).slv .a
      let bit := BitVec.ofNat 8 (2 ^ x.2.1)
      v.state = .up ∧ v.retiredRx &&& bit = 0 ∧ v.rxMask &&& bit ≠ 0 ∧ widthFor (laneCount (v.rxMask &&& ~~~bit)) = x.2.2) ∧
    ((slvA fun v => { v with state := .up, shedMask := 1 }).slv .a).shedMask ≠ 0 ∧ ((slvIn .up).slv .a).shedMask = 0 ∧
    (let v := (slvA fun v => { v with state := .up, txMask := 0x0F, txLanes := 4 }).slv .a
     maskOk 0x01 v.retiredTx = false ∧ maskOk 0x03 v.retiredTx = true ∧ (0x03 : Byte) &&& ~~~v.txSet = 0 ∧
       (0x03 : Byte) &&& ~~~v.txMask = 0 ∧ maskOk 0xFF v.retiredTx = true ∧ (0xFF : Byte) &&& ~~~v.txMask ≠ 0) ∧
    (∀ m ∈ [0x0F, 0xFF], let v := (slvA fun v => { v with
        state := .up, shedMask := 0xFF, shedWide := true, txMask := 0x0F, txLanes := 4 }).slv .a
      let have_ := (v.txMask ||| BitVec.ofNat 8 m) &&& v.shedMask
      v.shedWide = true ∧ decide (v.txLanes < laneCount (lowestLanes have_ (widthFor (laneCount have_)))) = decide (m = 0xFF)) ∧
    (∀ n ∈ [3, 0xFF], maskOk (BitVec.ofNat 8 n) (((slvIn .up).slv .a).toPeer ((slvIn .up).slv .a).retiredRx) = true) ∧
    maskOk 1 (((slvIn .up).slv .a).toPeer ((slvIn .up).slv .a).retiredRx) = false ∧
    (let v := (slvA fun v => { v with state := .up, retiredRx := 1 }).slv .a
     v.rxMask &&& v.retiredRx ≠ 0 ∧ ((slvIn .up).slv .a).rxMask &&& ((slvIn .up).slv .a).retiredRx = 0) ∧
    (slvIn .up).slvIdle .a = true ∧
    (slvA fun v => { v with state := .up, nextSeq := 3 }).slvIdle .a = false ∧ ((slvIn .up).slv .a).quietAsked = false ∧
    (let f : LinkFlit := { seq := 1, kind := 1, vc := 0, body := [0x04, 0x01], payload := [], sentAt := 0 }
     let v := (slvA fun v => { v with state := .up, quietAsked := true, nextSeq := 2, buffer := [f] }).slv .a
     v.quietAsked = true ∧ v.onlyRequest = true ∧ { v with buffer := [{ f with body := [] }] }.onlyRequest = false) ∧
    ((slvIn .quiet).slv .a).state = .quiet := by decide

theorem test_met_QuietAsked :
    let s := { slvIn .up with link := { up.link with state := .l12 }, clk := { up.clk with localCount := 1000000 } }
    s.mayQuiet .a = true ∧ (s.slv .a).quietAsked = false := by decide

theorem test_met_SleeveKeysAndControl :
    (let v := (slvA fun v => { v with state := .up, keysIn := true, encOn := true }).slv .a
     v.state = .up ∧ v.keysIn = true ∧ v.encOn = true ∧ v.txNext = none) ∧ ((slvIn .up).slv .a).keysIn = false ∧
    (∀ l ∈ [[], [0], [0, 0]], ((l : List Nat).filter fun t => decide (up.clk.localCount < t + 1000000)).length = l.length ∧
      ((grouped [peerFlit 0 1 63 [1]] 64 l).slv .a).tagDue = true) ∧
    ((grouped [peerFlit 0 1 62 [1]] 63 []).slv .a).tagDue = false ∧ flitKind (peerFlit 0 1 63 [1]) = 1 ∧
    (∀ n ∈ [1, 13], 1 ≤ (BitVec.ofNat 8 n).toNat ∧ (BitVec.ofNat 8 n).toNat ≤ 13) ∧ up.regServed 0 = true ∧
    (∀ b ∈ [false, true], let v := (slvA fun v => { v with state := .up, mgmt := [1], mgmtNext := 2 }).slv .a
      (v.mgmt ≠ [] ∧ (bits (BitVec.ofNat 8 (if b then 0x20 else 0x10)).toNat 5 4 = v.mgmtNext ↔ b = true))) ∧
    (((slvIn .up).slv .a).enable = true ∧ ((slvIn .up).slv .a).state ≠ .fray) ∧
    ((slvA fun v => { v with state := .disabled, enable := false }).slv .a).enable = false ∧
    (∀ st ∈ [SlvState.up, .down], (1 : BitVec 2) ≠ 0 ∧ 1 ≠ ((slvIn st).slv .a).maxRate ∧ ((slvIn st).slv .a).state = st) := by
  decide +kernel

/-- A transport message of node 3 to this node. -/
def tm : TMsg := { src := 3, dst := 0x12, vc := 0, srcEpoch := 9, dstEpoch := 1 }

/-- A packet of ours in UNACKED with sequence n, fed by unit n. -/
def unack (n : Nat) (o : Owner) : TxPkt :=
  { seq := BitVec.ofNat 24 n, pkt := mkPacket 1 3 0 8 0 0, units := 1, sentAt := 0, firstAt := 5, xunit := some n, owner := o,
    fn := 0, resent := false, again := false, sampled := false, order := n }

/-- Send state to node 3. -/
def flowing (f : TxFlow → TxFlow) : State :=
  { fabric with tp := { fabric.tp with tx := [(flowKey 3 0, f aFlow)] }, qps := [(0, { aQp with state := .active })], nextUnit := 8 }

/-- What Heard asks. -/
def heardB (sl : Sleeve) (m : TMsg) (s : State) : Bool :=
  s.slvUp sl && m.dst == s.tp.node && m.dstEpoch == s.tp.epoch && tget s.tp.known m.src == some m.srcEpoch

theorem heardB_heard {sl : Sleeve} {m : TMsg} {s : State} (h : heardB sl m s = true) : Heard sl m s := by
  simp only [heardB, Bool.and_eq_true, beq_iff_eq] at h
  obtain ⟨⟨⟨b, c⟩, d⟩, e⟩ := h
  exact ⟨b, c, d, e⟩

/-- Receive states of flows j to j + n - 1, of which none is idle. -/
def busyFlows (j n : Nat) : Table RxFlow := (List.range n).map fun i => (j + i, aRx)

theorem busyFlows_young (j n at_ : Nat) (h : at_ < 2000000) :
    ∀ x ∈ busyFlows j n, at_ < x.2.seenAt + 2000000 := by
  intro x m
  obtain ⟨i, -, rfl⟩ := List.mem_map.mp m
  exact Nat.lt_of_lt_of_le h (Nat.le_add_left _ _)

theorem idlest_young (s : State) (l : Table RxFlow) (h : ∀ x ∈ l, s.clk.localCount < x.2.seenAt + 2000000)
    (b : Option (Nat × RxFlow)) :
    l.foldl (fun (b : Option (Nat × RxFlow)) x =>
      if decide (s.clk.localCount < x.2.seenAt + 2000000) then b
      else
        match b with
        | none => some x
        | some y => if decide (x.2.seenAt < y.2.seenAt) then some x else b) b = b := by
  induction l generalizing b with
  | nil => rfl
  | cons x l ih =>
    have hx := h x (by simp)
    rw [List.foldl_cons, if_pos (decide_eq_true hx)]
    exact ih (fun y m => h y (by simp [m])) b

/-- The receive states of the table given, at a local count. -/
def crowded (l : Table RxFlow) (n : Nat) : State :=
  { fabric with tp := { fabric.tp with rx := l }, clk := { fabric.clk with localCount := n } }

theorem idlest_first (n : Nat) (x : Nat × RxFlow) (l : Table RxFlow) (hx : ¬(n < x.2.seenAt + 2000000))
    (h : ∀ y ∈ l, n < y.2.seenAt + 2000000) : (crowded (x :: l) n).idlestRx = some x := by
  show List.foldl _ _ (x :: l) = _
  have hx : ¬(decide ((crowded (x :: l) n).clk.localCount < x.2.seenAt + 2000000) = true) := fun h => hx (of_decide_eq_true h)
  rw [List.foldl_cons, if_neg hx]
  exact idlest_young (crowded (x :: l) n) l h (some x)

theorem idlest_none (n : Nat) (l : Table RxFlow) (h : ∀ y ∈ l, n < y.2.seenAt + 2000000) : (crowded l n).idlestRx = none :=
  idlest_young (crowded l n) l h none

/-- n receive states of which none has been idle for 2 ms at the local count, and n + 1 of which the first alone has. -/
theorem crowd_none (n : Nat) : ∃ l : Table RxFlow, l.length = n ∧ (crowded l 0).idlestRx = none := by
  refine ⟨busyFlows 8000 n, ?_, idlest_none 0 _ (busyFlows_young 8000 n 0 (by omega))⟩
  rw [busyFlows, List.length_map, List.length_range]

theorem crowd_first (n : Nat) : ∃ l : Table RxFlow, l.length = n + 1 ∧
    ∃ x, (crowded l (aRx.seenAt + 2000000)).idlestRx = some x ∧ tget l x.1 = some x.2 := by
  refine ⟨(7999, aRx) :: (busyFlows 8000 n).map fun x => (x.1, { x.2 with seenAt := aRx.seenAt + 1 }), ?_, (7999, aRx), ?_,
    by simp [tget]⟩
  · rw [List.length_cons, List.length_map, busyFlows, List.length_map, List.length_range]
  · refine idlest_first _ _ _ (Nat.lt_irrefl _) fun y m => ?_
    obtain ⟨z, -, rfl⟩ := List.mem_map.mp m
    exact Nat.add_lt_add_right (Nat.lt_succ_self _) _

/-- Every one of the 16,384 receive states is taken: none has been idle for 2 ms, or one has. -/
theorem test_met_Windows_full : ∃ l : Table RxFlow, l.length = 16384 ∧ (crowded l 0).idlestRx = none :=
  crowd_none 16384

theorem test_met_Windows_idle : ∃ l : Table RxFlow, l.length = 16384 ∧
    ∃ x, (crowded l (aRx.seenAt + 2000000)).idlestRx = some x ∧ tget l x.1 = some x.2 :=
  crowd_first 16383

theorem test_met_TransportMessages :
    up.slvUp .a = false ∧ fabric.slvUp .a = true ∧ { tm with dst := 1 }.dst ≠ fabric.tp.node ∧
    { tm with dstEpoch := 2 }.dstEpoch ≠ fabric.tp.epoch ∧ fabric.epochOlder 3 8 = true ∧ heardB .a tm fabric = true ∧
    (∀ f ∈ [{ aFlow with granted := false }, aFlow, { aFlow with silent := true }],
      let s := flowing fun _ => f
      heardB .a tm s = true ∧ tget s.tp.tx (flowKey tm.src tm.vc) = some f) ∧
    0 < ((65 : W32) - aFlow.limit).toInt ∧ ((64 : W32) - aFlow.limit).toInt ≤ 0 ∧
    (let s := { fabric with tp := { fabric.tp with rx := [] } }
     heardB .a tm s = true ∧ tget s.tp.rx (flowKey tm.src tm.vc) = none ∧ s.tp.rx.length < 16384 ∧ s.tp.stalled = [] ∧
       0 < s.grantMax ∧ s.grantMax ≤ s.grantRoom) ∧
    (∀ b ∈ [false, true], let r := { aRx with lastLimit := if b then some 64 else none }
      let s := { fabric with tp := { fabric.tp with rx := [(flowKey 3 0, r)] } }
      heardB .a tm s = true ∧ tget s.tp.rx (flowKey tm.src tm.vc) = some r) ∧
    (∀ t ∈ [1999999, 2000000], let s := { fabric with clk := { fabric.clk with localCount := t } }
      tget s.tp.rx (flowKey tm.src tm.vc) = some aRx ∧ decide (s.clk.localCount < aRx.lastAt + 2000000) = decide (t = 1999999)) ∧
    (let f := { aFlow with granted := false }
     f.granted = false ∧ f.silent = false ∧ fabric.slvUp f.sleeve = true) := by decide +kernel

theorem test_met_TransportAnswers :
    (let f := { aFlow with unacked := [unack 0 (.unit 0 0 0), unack 1 (.get 0 0 0)], next := 2, sent := 2 }
     let s := flowing fun _ => f
     heardB .a tm s = true ∧ tget s.tp.tx (flowKey tm.src tm.vc) = some f ∧ f.silent = false ∧ f.answers 1 = true ∧
       f.answers 2 = false ∧ f.endedAt 1 = false ∧ (f.coveredBy 1).map (·.seq) = [0, 1] ∧
       (f.coveredBy ((1 : BitVec 24) - 1)).map (·.seq) = [0] ∧ (f.coveredBy ((0 : BitVec 24) - 1)).map (·.seq) = [] ∧
       (s.qp 0).map (·.state) = some .active) ∧
    (let f := { aFlow with silent := true, ended := some (4, 2) }
     f.endedAt 4 = true ∧ f.endedAt 5 = true ∧ f.endedAt 6 = false ∧ f.endedAt 3 = false ∧
       tget (flowing fun _ => f).tp.tx (flowKey tm.src tm.vc) = some f) ∧
    (tget fabric.tp.tx (flowKey tm.src tm.vc) = none ∧ heardB .a tm fabric = true) := by decide

theorem test_met_FlowEnds :
    (let f := { aFlow with unacked := [unack 0 (.get 0 0 0)] }
     let s := flowing fun _ => f
     tget s.tp.tx (flowKey 3 0) = some f ∧ heardB .a tm s = true ∧ f.silent = false ∧ f.wait = false ∧
       s.flowHolds (flowKey 3 0) f = true ∧ s.getFirst (flowKey 3 0) f = false ∧ f.unacked ≠ [] ∧
       (s.qp 0).map (·.state) = some .active) ∧
    (let s := { flowing (fun f => { f with unacked := [unack 0 (.unit 0 0 0)] }) with units := [(0, aUnit .put)] }
     (tget s.units 0).isSome = true) ∧
    (∀ f ∈ [aFlow, { aFlow with silent := true }], let s := flowing fun _ => f
      tget s.tp.tx (flowKey 3 0) = some f ∧ f.unacked = [] ∧ f.queue = [] ∧ f.kept = [] ∧ f.wait = false ∧
        s.flowPending (flowKey 3 0) = false) ∧
    (∀ f ∈ [{ aFlow with queue := [unack 0 .other] }, { aFlow with silent := true, kept := [unack 0 .other] }],
      (f.queue ≠ [] ∨ f.kept ≠ []) ∧ (flowing fun _ => f).txRoomFor (flowKey 3 0) = true) ∧
    ({ aFlow with wait := true } : TxFlow).wait = true := by decide

/-- Send state to n flows, none of them to node 3. -/
theorem tx_crowd (n : Nat) : ∃ l : Table TxFlow, (l.filter fun p => p.2.live && p.1 != flowKey 3 0).length = n := by
  refine ⟨(List.range n).map fun i => (8000 + i, aFlow), ?_⟩
  rw [List.filter_eq_self.mpr, List.length_map, List.length_range]
  intro p m
  obtain ⟨i, -, rfl⟩ := List.mem_map.mp m
  have : flowKey 3 0 = 24 := rfl
  have h2 : aFlow.live = true := rfl
  simp [h2, this]; omega

theorem tx_full (l : Table TxFlow) (h : (l.filter fun p => p.2.live && p.1 != flowKey 3 0).length = 16384) :
    ({ fabric with tp := { fabric.tp with tx := l } } : State).txRoomFor (flowKey 3 0) = false := by
  simp only [State.txRoomFor]
  rw [h]
  rfl

/-- Every one of the 16,384 send states is taken. -/
theorem test_met_FlowEnds_full :
    ∃ l : Table TxFlow, ({ fabric with tp := { fabric.tp with tx := l } } : State).txRoomFor (flowKey 3 0) = false := by
  obtain ⟨l, h⟩ := tx_crowd 16384
  exact ⟨l, tx_full l h⟩

theorem test_met_EpochsAndRecords :
    (let s := awaiting (.get 0 0 0) id
     tget s.tp.tx (flowKey 3 0) = none ∧
       (s.getDue (flowKey 3 0)).map (·.owner) = some (.get 0 0 0) ∧ (s.qp 0).map (·.state) = some .active) ∧
    (let s := awaiting (.get 0 0 0) id
     let f := { aFlow with unacked := [unack 0 .other] }
     let s := { s with tp := { s.tp with tx := [(flowKey 3 0, f)] } }
     s.getFirst (flowKey 3 0) f = true) ∧
    (tget up.tp.tx (flowKey 3 0) = none ∧ up.getDue (flowKey 3 0) = none) ∧
    tget fabric.tp.rx (flowKey 3 0) = some aRx ∧ fabric.epochOlder 3 8 = true ∧
    (tget fabric.tp.known 3 = some 9 ∧ fabric.holdsState 3 = true ∧ epochNewer 10 9 = true ∧ epochNewer (9 + 32767) 9 = true ∧
      epochNewer (9 + 32768) 9 = false ∧ epochNewer 9 9 = false ∧ epochNewer 9 (9 + 32768) = false) ∧
    fabric.holdsState 4 = false ∧ tget fabric.tp.known 4 = none := by decide

/-! ## Witnesses: the Belt -/

/-- Node 0x12, at position 2 of a belt whose bypass is open. -/
def belted (f : Belt → Belt) : State :=
  { fabric with belt := f { Belt.init with enable := true, rxLock := true, txReady := true, bypassOpen := true, position := 2,
                                           summary := 1 } }

/-- A flit of the belt with its CRC, and one with a wrong CRC. -/
def beltData (kind type dst src hops : Nat) : Bytes := beBytes 4 (kind * 2 ^ 15) ++ [type, dst, src, hops].map (BitVec.ofNat 8) ++ zeros 240
def beltFlit (kind type dst src hops : Nat) : Bytes :=
  let d := beltData kind type dst src hops
  d ++ beBytes 8 (crc64 d 0)
def badFlit : Bytes := beltData 0 0 0 0 0 ++ beBytes 8 1

/-- A flit that passes its CRC, its KIND and its TYPE. -/
def flitIs (good : Bool) (kind type dst src hops : Nat) (f : Bytes) : Bool :=
  f.length == 256 && (beAt 248 8 f == crc64 (f.take 248) 0) == good && bits (beAt 0 4 f) 18 15 == kind && beAt 4 1 f == type &&
    beAt 5 1 f == dst && beAt 6 1 f == src && beAt 7 1 f == hops

theorem test_met_BeltFlits :
    (∀ x ∈ [(0, 0, 0, 0, 0), (2, 0, 0, 0, 0), (1, 0x45, 0, 1, 0), (5, 0x5F, 0, 1, 0), (1, 0x44, 9, 2, 0), (1, 0x44, 9, 1, 16),
      (1, 0x60, 2, 1, 15), (1, 0x44, 9, 1, 15)], flitIs true x.1 x.2.1 x.2.2.1 x.2.2.2.1 x.2.2.2.2
        (beltFlit x.1 x.2.1 x.2.2.1 x.2.2.2.1 x.2.2.2.2) = true) ∧
    flitIs false 0 0 0 0 0 badFlit = true := by decide +kernel

theorem test_met_BeltLockAndFlits :
    (belted id).belt.rxLock = true ∧ (belted id).boot.mode ≠ .noPower ∧
    (belted fun b => { b with rxLock := false }).belt.rxLock = false ∧
    (∀ n ∈ [0, 2], (belted fun b => { b with goodRun := n }).belt.goodRun < 3) ∧
    3 ≤ (belted fun b => { b with goodRun := 3 }).belt.goodRun ∧
    (∀ n ∈ [0, 6], (belted fun b => { b with crcRun := n }).belt.crcRun < 7) ∧
    7 ≤ (belted fun b => { b with crcRun := 7 }).belt.crcRun ∧
    (belted id).belt.txQueue = [] ∧ (belted fun b => { b with txQueue := [([], [])] }).belt.txQueue = ([], []) :: [] ∧
    (belted fun b => { b with bypassOpen := false }).belt.bypassOpen = false ∧
    ((belted id).belt.position ≠ 0xFE ∧ (2 : Nat) = (belted id).belt.position.toNat) := by decide

/-- A routed message for position 2, and a TIME message as it arrives. -/
def route (cls n : Nat) : RouteMsg :=
  { dstPos := 2, srcPos := 1, hops := 15, cls := BitVec.ofNat 8 cls, len := n, srcNode := 3, dstNode := 0x12 }
def time (t arrival : Nat) : TimeMsg := { hops := 15, t := BitVec.ofNat 64 t, corr := 0, arrival := arrival, residence := 40 }
def timed : State := { belted id with clk := { up.clk with timeSet := true } }

theorem test_met_BeltMessages :
    (∀ n ∈ [1, 224], (zeros n).length = (route 2 n).len ∧ 1 ≤ (route 2 n).len ∧ (route 2 n).len ≤ 224) ∧
    (let m := route 2 4
     (belted id).belt.bypassOpen = true ∧ m.srcPos ≠ (belted id).belt.position ∧ m.hops.toNat < 16 ∧
       (belted id).belt.position ≠ 0xFE ∧ m.dstPos = (belted id).belt.position ∧ m.cls = 0x02 ∧ (belted id).boot.mode = .oper) ∧
    (let m := route 3 (epochBody 3 8).length
     (epochBody 3 8).length = m.len ∧ 1 ≤ m.len ∧ m.len ≤ 224 ∧ m.cls = 0x03 ∧ (belted id).epochOlder 3 8 = true ∧ 3 < 2 ^ 20) ∧
    (let m := route 3 (epochBody 4 8).length
     (epochBody 4 8).length = m.len ∧ (belted id).holdsState 4 = false) ∧
    (∀ x ∈ [((10001, 0), (10001 : Int)), ((0, 10001), -10001), ((10000, 0), 10000), ((0, 10000), -10000), ((5, 5), 0)],
      let m := time x.1.1 x.1.2
      timed.belt.bypassOpen = true ∧ m.hops ≠ 16 ∧ timed.clk.timeSet = true ∧
        ((m.t.toNat + m.corr.toNat + timed.belt.wireNs.toNat : Nat) : Int) - (m.arrival : Int) = x.2) ∧
    ((belted id).clk.timeSet = false ∧ { time 0 0 with hops := 16 }.hops = 16) ∧
    (∀ n ∈ [0, 0x10], (BitVec.ofNat 8 n).toNat ≤ 0x10) ∧ (∀ n ∈ [0x11, 0xFF], 0x10 < (BitVec.ofNat 8 n).toNat) := by decide +kernel

theorem test_met_BeltControl :
    (belted id).regServed 0 = true ∧ (belted id).belt.enable = true ∧ (belted fun b => { b with enable := false }).belt.enable = false ∧
    (let s := (belted fun b => { b with enable := false, sleepOk := false }).modDom .blt fun x => { x with state := .sleep }
     s.regServed 0 = true ∧ s.belt.enable = false ∧ s.belt.sleepOk = false ∧ (s.dom .blt).state = .sleep ∧
       (s.dom .blt).entering = none) ∧
    (upLink fun l => { l with state := .down }).regServed 0 = false ∧
    (((belted id).dom .blt).state = .run ∧ ((belted id).dom .blt).entering = none) ∧
    ((((belted id).modDom .blt fun x => { x with entering := some .idle }).dom .blt).entering.isSome = true) ∧
    ((((belted id).modDom .blt fun x => { x with state := .deepSleep }).dom .blt).state = .deepSleep) ∧
    ((belted id).belt.summary ≠ 0 ∧ (belted id).boot.mode = .oper ∧ (belted id).belt.txQueue.length < 32) ∧
    32 ≤ (belted fun b => { b with txQueue := List.replicate 32 ([], []) }).belt.txQueue.length ∧
    (belted fun b => { b with summary := 0 }).belt.summary = 0 := by decide

/-- A bypass message of a Belt TYPE on a Sleeve, with the sequence number n, that acknowledges 0xFFF. -/
def sleeveBypass (type n : Nat) : Bytes :=
  let d := beBytes 4 (0xFFF * 2 ^ 20 + 2 ^ 15) ++ beBytes 1 type ++ zeros 243
  d ++ beBytes 8 (crc64 (d ++ zeros 8) n)

theorem test_met_UnknownBypassMessages :
    (let s := belted id
     s.belt.rxLock = true ∧ s.belt.bypassOpen = true) ∧
    (∀ t ∈ [0x45, 0x5F], let f := beltFlit 1 t 0 1 0
      f.length = 256 ∧ beAt 248 8 f = crc64 (f.take 248) 0 ∧ bits (beAt 0 4 f) 18 15 = 1 ∧ beAt 4 1 f = t) ∧
    (∀ st ∈ [SlvState.param, .up], ∀ t ∈ [0x40, 0x5F], let v := (slvIn st).slv .a
      let f := sleeveBypass t 0
      f.length = 256 ∧ (v.state = .param ∨ v.state = .up) ∧ beAt 248 8 f = crc64 f v.expect.toNat ∧
        bits (beAt 0 4 f) 18 15 ≠ 0 ∧ flitReserved (beAt 0 4 f) (bits (beAt 0 4 f) 18 15) f = false ∧
        v.ackValid (BitVec.ofNat 12 (bits (beAt 0 4 f) 31 20)) = true ∧ beAt 4 1 f = t) := by decide +kernel

/-! ## Witnesses: faults, sensors, management -/

theorem up_calm : up.Calm := ⟨rfl, rfl, rfl, rfl, rfl⟩

/-- A state whose collector answers a source with a reaction code. -/
def reacting (src : Nat) (c : Byte) : State := { up with fc := { up.fc with react := [(src, c)] } }

theorem reacting_calm (src : Nat) (c : Byte) : (reacting src c).Calm := ⟨rfl, rfl, rfl, rfl, rfl⟩

/-- Block resets of Jalid just taken. -/
def resetTimes (n : Nat) : State := { up with fc := { up.fc with recentResets := List.replicate n (0, 0) } }

theorem test_met_FaultReactions :
    (∀ s ∈ [up, reacting 128 6, reacting 64 1, reacting 751 9], s.bh.traceEn = false ∧ s.boot.mode = .oper) ∧
    (∀ n ∈ [0, 705, 128], srcExists n = true ∧ n ≠ 961) ∧
    (∀ c ∈ [0, 2, 4, 6], let x := (reacting 128 (BitVec.ofNat 8 c)).reactOf 128
      actionOf x = 0 ∧ bitAt x.toNat 0 = false) ∧
    (let s := reacting 64 7
     actionOf (s.reactOf 64) = 0 ∧ tgetD s.fc.sticky 64 false = false ∧ bitAt (s.reactOf 64).toNat 0 = true ∧
       s.eventsHeld 0 = true ∧ (s.fn 0).flr = false ∧ ((s.fn 0).pocket.held.filter fun h => !h.final).length < 256) ∧
    (∀ n ∈ [0, 35, 752], srcExists n = true ∧ actionOf (up.reactOf n) = 3) ∧ (srcExists 2 = true ∧ actionOf (up.reactOf 2) = 2) ∧
    (∀ n ∈ [2, 3], let s := resetTimes n
      actionOf (s.reactOf 433) = 1 ∧ blockOf 433 = some .ctl ∧ s.fc.chipResetDue = false ∧
        (s.fc.recentResets.filter fun x => decide (x.1 = Block.ctl.num) && decide (s.clk.localCount < x.2 + 1000000000)).length = n) ∧
    (let s := slvIn .up
     actionOf (s.reactOf 751) = 1 ∧ blockOf 751 = some (.sleeve .a) ∧ (s.slv .a).enable = true ∧ s.slvUp .a = true ∧
       (∀ n ∈ [519, 642, 704, 744, 745, 746, 747, 748, 749, 750, 840, 841, 842, 843, 844, 845, 846, 961], actionOf (s.reactOf n) ≠ 3)) ∧
    (upBoot fun b => { b with mode := .safe }).boot.mode = .safe := by decide +kernel

/-- A collector with bits of its control set. -/
def fcs (f : Fc → Fc) : State := { up with fc := f up.fc }

theorem test_met_FaultControls :
    (up.boot.mode ≠ .noPower ∧ up.boot.mode ≠ .off ∧ srcExists 0 = true ∧ srcExists 961 = true ∧ srcExists 4 = false ∧
      srcExists 962 = false) ∧
    ((fcs fun f => { f with traps := [7] }).fc.traps = 7 :: [] ∧ (up.dom .ctl).state = .run ∧ (up.dom .lin).state = .run) ∧
    up.fc.traps = [] ∧ ((fcs fun f => { f with pulse := true }).fc.pulse = true ∧ up.fc.hold = false) ∧
    ((fcs fun f => { f with pulse := true, hold := true, releaseDue := true }).fc.releaseDue = true) ∧
    ((fcs fun f => { f with pulse := true, hold := true }).fc.releaseDue = false) ∧ up.fc.pulse = false ∧ up.regServed 0 = true ∧
    (upLink fun l => { l with state := .down }).regServed 0 = false ∧ State.reset.boot.mode = .off ∧
    up.lin.firmware = true ∧ (upLin fun l => { l with firmware := false }).lin.firmware = false ∧
    (up.boot.mode = .oper ∧ up.boot.reloading = false) ∧ (upBoot fun b => { b with reloading := true }).boot.reloading = true := by decide

/-- A record in Lining's queue. -/
def aRecord : LogRec := { seq := 0, type := 1, flags := 0, code := 0, time := 0, data := zeros 16 }

/-- A sample at the top of the range. -/
def readings : Readings :=
  { temps := List.replicate 32 tMax, volts := List.replicate 16 800, amps := List.replicate 8 0, power := 0,
    droops := List.replicate 64 16, aonLoad := 0 }

theorem test_met_SensorsAndLog :
    (let r := readings
     up.liningRuns = true ∧ r.temps.length = 32 ∧ r.volts.length = 16 ∧ r.amps.length = 8 ∧ r.droops.length = 64) ∧
    (let s := upLin fun l => { l with firmware := false }
     s.liningRuns = false ∧ s.boot.mode ≠ .noPower) ∧
    (∀ n ∈ [0, 1], let s := upLin fun l => { l with logQueue := [aRecord], logLost := BitVec.ofNat 32 n }
      s.liningRuns = true ∧ s.lin.logQueue = aRecord :: [] ∧ s.lin.log.length < 262144 ∧ ([] : List LogRec).length < 1024) ∧
    (up.lin.logQueue = [] ∧ up.lin.logLost = 0) ∧
    (let s := upLin fun l => { l with warn := true }
     s.liningRuns = true ∧ s.lin.bus = none ∧ s.lin.warn = true) ∧
    (upLin fun l => { l with bus := some .i3c }).lin.bus = some .i3c ∧ (up.lin.warn = false ∧ up.fc.errLow = false) ∧
    (upLin fun l => { l with bus := some .smbus }).lin.bus = some .smbus := by decide

/-- A state in which every binding is open. -/
def managed (b : Binding) (f : Lin → Lin) : State :=
  { master (belted id) with lin := f { up.lin with bus := if b = .smbus ∨ b = .i3c then some b else none } }

theorem test_met_ManagementAnswers :
    (∀ b ∈ [Binding.smbus, .i3c, .vdm, .belt, .bh], (managed b id).endpointOpen b = true) ∧
    (∀ b ∈ [Binding.smbus, .i3c, .vdm, .belt], (managed b id).bindingOpen b = true) ∧
    ((managed .smbus id).endpointOpen .i3c = false ∧ (managed .smbus id).bindingOpen .i3c = false) ∧
    (∀ e ∈ [1, 0xFE], BitVec.ofNat 8 e ≠ 0 ∧ BitVec.ofNat 8 e ≠ 0xFF) ∧
    (∀ n ∈ [1, 47], leAt 4 2 (zeros 4 ++ leBytes 2 n) = n) ∧ (∀ n ∈ [0, 48], leAt 4 2 (zeros 4 ++ leBytes 2 n) = n) ∧
    (∀ t ∈ [1, 3, 4, 6], BitVec.ofNat 8 t ≠ 0 ∧ BitVec.ofNat 8 t ≠ 2 ∧ BitVec.ofNat 8 t ≠ 5) ∧
    (∀ t ∈ [2, 0xFE], BitVec.ofNat 8 t ≠ 0 ∧ BitVec.ofNat 8 t ≠ 0xFF ∧ BitVec.ofNat 8 t ≠ 0x7E ∧ BitVec.ofNat 8 t ≠ 1) := by decide

theorem test_met_SensorsAndEffecters :
    (up.lin.tempC ≠ []) ∧ (up.fixedSensor 0 = none ∧ up.stitchSensor 0 = none) ∧
    (∀ n ∈ [0x22, 0x40, 0x51, 0x60, 0x69, 0xC1, 0xD1], up.fixedSensor n = none) ∧
    (let s := stitching 0
     s.fixedSensor 0x1000 = none ∧ s.stitchSensor 0x1000 = some (parseStitch (sensorEntry 0))) ∧
    up.stitchSensor 0x3000 = none ∧ 1 ∉ ([] : List Nat) ∧ (0x3001 ∉ up.pdrHandles) ∧
    (∀ v ∈ [12000, 44000, 0], v = 0 ∨ (12000 ≤ v ∧ v ≤ 44000)) ∧ (∀ v ∈ [11999, 44001], v ≠ 0 ∧ (v < 12000 ∨ 44000 < v)) ∧
    (∀ v ∈ [10, 10000], 10 ≤ v ∧ v ≤ 10000) ∧ (∀ v ∈ [9, 10001], v ≠ 0 ∧ (v < 10 ∨ 10000 < v)) ∧
    up.resettable = true ∧ (upBoot fun b => { b with mode := .safe }).boot.mode = .safe ∧
    (upBoot fun b => { b with mode := .factory }).resettable = false ∧
    (upBoot fun b => { b with mode := .factory }).bindingOpen .i3c = true := by decide +kernel

/-- A PLDM session with a component of 4 KiB named, got bytes there. -/
def pldm (f : Session → Session) (g : Boot → Boot) : State :=
  { upLin (fun l => { l with session := f { up.lin.session with isOpen := true, pldm := true, slot := .b, imageLen := 4096,
                                                                  named := true, maxXfer := 4096, got := 0, via := .smbus } }) with
    boot := g up.boot }

theorem test_met_ManagementUpdate_a :
    (pldm id id).bindingOpen .smbus = true ∧ ((pldm id id).lin.session.isOpen = true ∧ (pldm id id).lin.session.pldm = true) ∧
    (up.lin.session.isOpen = false ∧ up.imageTarget.isSome = true) ∧
    (upBoot fun b => { b with recordBad := true }).lin.session.isOpen = false ∧
    (pldm (fun u => { u with named := false }) id).lin.session.named = false ∧
    (∀ n ∈ [0, 4096, 2 ^ 25], n % 4096 = 0 ∧ n ≤ 2 ^ 25) ∧ (∀ n ∈ [1, 4095, 2 ^ 25 + 1], n % 4096 ≠ 0 ∨ 2 ^ 25 < n) ∧
    (let s := pldm (fun u => { u with isOpen := false }) fun b => b.setSlot .b { b.slot .b with valid := true }
     s.lin.session.isOpen = false ∧ s.lin.session.pldm = true ∧ (s.boot.slot s.lin.session.slot).valid = true ∧
       s.lin.session.slot ≠ .recovery) ∧
    (let s := pldm (fun u => { u with isOpen := false, slot := .recovery }) fun b => b.setSlot .recovery { b.slot .b with valid := true }
     (s.boot.slot s.lin.session.slot).valid = true ∧ s.lin.session.slot = .recovery) ∧
    (up.lin.session.pldm = false) ∧ (managed .smbus id).bindingOpen .i3c = false := by decide

theorem test_met_ManagementUpdate_b :
    (let u := (pldm (fun u => { u with maxXfer := 32 }) id).lin.session
     (pldm id id).liningRuns = true ∧ u.named = true ∧ u.transferred = false ∧ (zeros 32).length = min u.maxXfer (u.imageLen - u.got) ∧
       zeros 32 ≠ []) ∧
    (let u := (pldm (fun u => { u with got := 4096 }) id).lin.session
     u.named = true ∧ u.got = u.imageLen) ∧
    (let s := pldm (fun u => { u with transferred := true }) id
     s.lin.session.transferred = true ∧ manifestGood good = true ∧ sectionsGood good = true ∧
       s.boot.fuses ≤ good.manifest.secVer ∧ s.lin.session.slot ≠ .recovery ∧ s.boot.stage ≠ .noImage) ∧
    (let s := pldm (fun u => { u with transferred := true, slot := .recovery }) id
     (s.boot.slot s.boot.running).secVer ≤ good.manifest.secVer) ∧
    (let s := pldm (fun u => { u with transferred := true }) fun b => { b with fuses := 1 }
     good.manifest.secVer < s.boot.fuses) ∧
    (let s := pldm (fun u => { u with transferred := true, slot := .a }) fun b => { b with stage := .noImage }
     s.liningRuns = true ∧ s.lin.session.slot = .a ∧ s.boot.stage = .noImage) ∧
    manifestGood { good with ecdsa := false } = false ∧ manifestGood { good with keys := false } = false ∧
    sectionsGood { good with hashes := false } = false := by decide

/-- What the day after a quiet one brings: the re-fit's residual is below the limit or not. -/
def aDay (b : Bool) : DayFigures := { residualBelow := b, hostMargin := none }

theorem test_met_AgeingCommands :
    (up.liningRuns = true ∧ up.lin.ledger.length ≤ 12288) ∧ (upLin fun l => { l with firmware := false }).liningRuns = false ∧
    ((upLin fun l => { l with days := 29 }).lin.days + 1) % 30 = 0 ∧ 31 ∈ ((upLin fun l => { l with days := 30, refitDays := [31] }).lin.refitDays) ∧ (aDay true).residualBelow = true ∧ ¬((aDay false).residualBelow = true) ∧
    (∀ i ∈ [0, 47], let s := upLin fun l => { l with toMeasure := [i] }
      s.liningRuns = true ∧ i < 48 ∧ s.lin.drift.length = 48 ∧ s.lin.ageAt.length = 48 ∧ s.lin.planned.length = 48 ∧
        i ∈ s.lin.toMeasure ∧ (s.dom (pairDomain i)).state = .run) ∧
    (∀ v ∈ [842, 849], let s := upLin fun l => { l with toMeasure := [19], vddMv := BitVec.ofNat 10 v }
      s.lin.toMeasure = [19] ∧ 100 / 100 = lget s.lin.planned 19 0 + 1 ∧ s.lin.vddMv.toNat < 850) ∧
    (let s := upLin fun l => { l with toMeasure := [19], vddMv := 850 }
     850 ≤ s.lin.vddMv.toNat) ∧
    (let s := upLin fun l => { l with deferA := [(3, 7), (4, 0)], slaRate := 2 }
     (3, 7) ∈ s.lin.deferred .a ∧ (4, 0) ∈ s.lin.deferred .a ∧ 1 < (s.lin.planRate .a).toNat) ∧
    up.lin.deferred .a = [] ∧ up.regServed 0 = true ∧ (upLink fun l => { l with state := .down }).regServed 0 = false ∧
    ((slvIn .up).slv .a).state = .up ∧ ((slvIn .down).slv .a).state ≠ .up := by decide

/-! ## Witnesses: Buttonhole, registers, the block as a whole -/

/-- A device whose trace runs, or does not. -/
def tracing (f : Bh → Bh) : State := { master up with bh := f { Bh.init with traceEn := true, running := true, sinceSync := 5 } }

theorem test_met_Buttonhole :
    ((tracing id).vdmOpen = true ∧ (0 : Byte).toNat ≤ 1 ∧ 4091 + 5 ≤ 4096 ∧ (upLink fun l => { l with state := .down }).vdmOpen = false) ∧
    (∀ x ∈ [(2, 0, 1), (1, 0, 0), (0, 0, 6), (0, 4092, 5)],
      1 < (BitVec.ofNat 8 x.1).toNat ∨ x.2.2 = 0 ∨ 5 < x.2.2 ∨ 4096 < x.2.1 + x.2.2) ∧
    ((tracing id).regServed 1 = true ∧ up.bh.traceEn = false ∧ up.bh.buffer.length < 4096 ∧ (tracing id).bh.traceEn = true ∧
      (tracing id).bh.buffer.length < 4090 ∧ (upLink fun l => { l with state := .down }).regServed 1 = false) ∧
    (let s := tracing fun b => { b with cntTrace := 0x01002001 }
     s.bh.traceEn = true ∧ bits s.bh.cntTrace.toNat 31 24 ≠ 0 ∧ bits s.bh.cntTrace.toNat 11 0 = 1 ∧
       s.bh.buffer.length + (bits s.bh.cntTrace.toNat 23 12 + 1 - bits s.bh.cntTrace.toNat 11 0) ≤ 4096) ∧
    bits (tracing id).bh.cntTrace.toNat 31 24 = 0 := by decide

theorem test_met_RegisterWrites :
    up.regServed 0 = true ∧ up.regServed 1 = true ∧ up.regServed 3 = false ∧ inBells 0 0x0F0000 = false ∧
    (∀ x ∈ [pocketBase 0 + 0x100, pocketBase 0 + 0x8FC], up.regServed 0 = true ∧ x % 4 = 0 ∧ inBells 0 x = false ∧
      pocketBase 0 + 0x100 ≤ x ∧ x < pocketBase 0 + 0x900) ∧ (up.fn 0).pocket.state ≠ .working ∧
    ((up.modPocket 0 fun p => { p with state := .working }).fn 0).pocket.state = .working ∧
    (∀ o ∈ [0x1010000, 0x101FFFF], inBells 0 o = true) ∧
    (let s := slvA fun v => { v with evt := 1 }
     s.lineHeld 744 = true ∧ 744 / 32 = 23 ∧ bitAt 0x100 (744 % 32) = true) ∧
    (let s := { slvA (fun v => { v with evt := 1 }) with fc := { up.fc with sticky := [(744, true)] } }
     s.lineHeld 744 = true ∧ tget s.fc.sticky 744 = some true) ∧
    (srcExists 128 = true ∧ srcFixed 128 = false ∧ up.fc.lock = false ∧ actionOf 5 ≠ 1 ∧ (blockOf 128).isSome = false) ∧
    ((blockOf 433).isSome = true ∧ srcFixed 433 = false) ∧ srcFixed 0 = true ∧ srcExists 4 = false := by decide

theorem test_met_EmptyQueueTicks :
    up.pending = [] ∧ (upBoot fun b => { b with mode := .noPower }).boot.mode = .noPower ∧ up.boot.mode ≠ .noPower ∧
    (up.clk.slew = 0 ∧ up.clk.ratePpm = 0 ∧ up.clk.frac = 0) ∧
    (let s := { up with clk := { up.clk with slew := 1 } }
     0 < s.clk.slew) ∧
    (let s := { tracing id with clk := { up.clk with localCount := 8 } }
     (s.clk.localCount + 2) % 10 = 0 ∧ s.bh.running = true ∧ s.bh.sinceSync < 1023 ∧ s.bh.buffer = [] ∧ s.bh.traceEn = true) ∧
    (up.clk.localCount + 2) % 10 ≠ 0 ∧
    (let s := tracing fun b => { b with sinceSync := 1023 }
     1023 ≤ s.bh.sinceSync) ∧
    (let s := tracing fun b => { b with sinceSync := 1022, buffer := [zeros 16] }
     s.bh.sinceSync < 1023 ∧ s.bh.buffer = zeros 16 :: [] ∧ s.bh.lostSince = 0) ∧
    (tracing fun b => { b with traceEn := false }).bh.traceEn = false := by decide

theorem test_met_EveryCommandCompletes :
    (upBoot fun b => { b with mode := .factory }).boot.mode = .factory := by decide

theorem test_met_RequestsRefused_a :
    (∀ x ∈ [(rq []).doorbell.toNat, 65535], x < 65536) ∧ up.pocketServed 0 = true ∧
    up.pocketServed 3 = false ∧ ((up.modPocket 0 fun p => { p with state := .working }).fn 0).pocket.state = .working ∧
    65536 ≤ { rq [] with doorbell := 65536 }.doorbell.toNat ∧ (up.fn 0).pocket.state ≠ .working ∧ up.headerOk 0 (rq []) = true ∧
    (∀ r ∈ [{ rq [] with len := 2033 }, { rq [] with flags := 2 }, { rq [] with rsv := [1, 0, 0, 0, 0, 0] },
      { rq [] with doorbell := (rq []).doorbell + 1 }], up.headerOk 0 r = false) := by decide

theorem test_met_RequestsRefused_b :
    (∀ n ∈ [2, 3], decide (2 < (BitVec.ofNat 8 n).toNat) = (n == 3)) ∧ opUpdateStatus.minor = 2 ∧ (1 : Byte).toNat < opUpdateStatus.minor ∧
    (bitAt opTenantCreate.issuers (issuerBit 2) = false ∧ up.pocketServed 0 = true) ∧
    (let s := vf1Free
     isVf 2 = true ∧ s.tenant (vfOf 2) = none ∧ opQpCreate.cls ≠ 1 ∧ s.pocketServed 2 = true) ∧
    ((up.fn 0).pocket.enable = false ∧ ((evq 0 up).fn 0).pocket.enable = true ∧ opTenantCreate.long = true ∧
      opTenantCreate.minor ≤ (rq []).minor.toNat ∧ bitAt opTenantCreate.issuers (issuerBit 0) = true ∧ isVf 0 = false) ∧
    (let s := longs (List.replicate 64 { kind := .tenantCreate, token := 1, obj := 0, payload := [] }) (evq 0 up)
     64 ≤ (s.fn 0).pocket.longs.length ∧ (s.fn 0).pocket.enable = true) := by decide

theorem test_met_FixedReactionsStay : State.reset.ReactionsKept := fun _ _ => rfl

/-- What a step answers satisfies p. -/
def stepIs (s : State) (p : State → Bool) : Bool :=
  match step s with
  | .next t => p t
  | _ => false

theorem test_met_FusesNeverFall :
    stepIs { up with pending := [.faultScrub false false] } (fun t => t.boot.fuses == up.boot.fuses) = true := by decide +kernel

theorem test_met_LocalCountOnlyAdvances :
    up.pending = [] ∧ up.boot.mode ≠ .noPower ∧ stepIs up (fun t => t.clk.localCount == up.clk.localCount + 2) = true ∧
    stepIs { up with pending := [.timeLockTimeout] } (fun t => t.clk.localCount == up.clk.localCount) = true := by decide +kernel

theorem test_met_TokensOfAPocket :
    (let r := rq []
     let c : LongCmd := { kind := .tenantCreate, token := r.token, obj := 0, payload := [] }
     let s := longs [c] up
     s.pocketServed 0 = true ∧ (s.fn 0).pocket.state ≠ .working ∧ r.doorbell.toNat < 65536 ∧
       (s.fn 0).pocket.longs = [c] ∧ c.token.toNat = r.doorbell.toNat) ∧
    (let r := { rq [] with rsv := [0, 0, 0, 0, 0, 0] }
     r.len ≤ 2032 ∧ r.flags.toNat < 2 ∧ r.doorbell.toNat = r.token.toNat ∧ (up.fn 0).pocket.longs = []) := by decide

theorem test_met_BothSignatures :
    (let s := rom id
     s.boot.stage = .rom ∧
       stepIs { s with pending := [.manifestAccepted good good ⟨good, false⟩] } (fun t => t.boot.stage == .lining) = true) ∧
    (∀ f ∈ [{ good with ecdsa := false }, { good with mldsa := false }], f.ecdsa = false ∨ f.mldsa = false) ∧
    (let c : LongCmd := { kind := .updateCommit, token := 1, obj := 0, payload := [] }
     let s := longs [c] up
     (s.fn 0).flr = false ∧ s.boot.mode ≠ .safe ∧ (s.fn 0).pocket.longs.find? (fun x => x.kind == .updateCommit) = some c) ∧
    (let s := pldm (fun u => { u with transferred := true }) id
     s.liningRuns = true ∧ s.pldmOpen = true ∧ s.lin.session.transferred = true) := by decide +kernel

/-! ## An ill-formed command for each check of WellFormed -/

/-- A packet and a transport message that fit their fields at the upper ends. -/
def edgePk : Packet := { pk 1 0 [] with len := 8191, src := 2 ^ 20 - 1, dst := 2 ^ 20 - 1, payload := [] }
def edgeTm : TMsg := { tm with src := 2 ^ 20 - 1, dst := 2 ^ 20 - 1, vc := 255 }

theorem test_wf_functions :
    Instr.wf (.flrStart 1025) = true ∧ Instr.wf (.flrStart 1026) = false ∧
    Instr.wf (.lockInterfaceRequest 1024) = true ∧ Instr.wf (.lockInterfaceRequest 1) = true ∧
    Instr.wf (.lockInterfaceRequest 0) = false ∧ Instr.wf (.lockInterfaceRequest 1025) = false ∧
    Instr.wf (.identify 1026 (rq [])) = false ∧ Instr.wf (.identify 0 { rq [] with len := 65536 }) = false ∧
    Instr.wf (.identify 0 { rq [] with rsv := zeros 7 }) = false ∧ Instr.wf (.identify 1025 (rq [])) = true := by decide

theorem test_wf_objects :
    Instr.wf (.qpDestroyComplete 65535) = true ∧ Instr.wf (.qpDestroyComplete 65536) = false ∧
    Instr.wf (.aptCloseComplete 255) = true ∧ Instr.wf (.aptCloseComplete 256) = false ∧
    Instr.wf (.iwinCloseComplete 1023) = true ∧ Instr.wf (.iwinCloseComplete 1024) = false ∧
    Instr.wf (.sensorStale 4095) = true ∧ Instr.wf (.sensorStale 4096) = false ∧
    Instr.wf (.tokenBucketRefill 0 15) = true ∧ Instr.wf (.tokenBucketRefill 0 16) = false ∧
    Instr.wf (.queueSetPause 0 none) = true ∧ Instr.wf (.queueSetPause 0 (some 16)) = false ∧
    Instr.wf (.sqDoorbell 0 1023 (bell 0 0)) = true ∧ Instr.wf (.sqDoorbell 0 1024 (bell 0 0)) = false ∧
    Instr.wf (.cqDoorbell 0 1024 (bell 0 0)) = false ∧ Instr.wf (.delayedReadDiscard 65536) = false := by decide

theorem test_wf_fabric :
    Instr.wf (.writePkt .a edgePk) = true ∧ Instr.wf (.writePkt .a { edgePk with len := 8192 }) = false ∧
    Instr.wf (.writePkt .a { edgePk with src := 2 ^ 20 }) = false ∧ Instr.wf (.readPkt .a { edgePk with dst := 2 ^ 20 }) = false ∧
    Instr.wf (.want .a edgeTm) = true ∧ Instr.wf (.want .a { edgeTm with src := 2 ^ 20 }) = false ∧
    Instr.wf (.want .a { edgeTm with dst := 2 ^ 20 }) = false ∧ Instr.wf (.want .a { edgeTm with vc := 256 }) = false ∧
    Instr.wf (.wantRepeat (2 ^ 20 - 1) 7) = true ∧ Instr.wf (.wantRepeat (2 ^ 20) 7) = false ∧ Instr.wf (.wantRepeat 0 8) = false ∧
    Instr.wf (.laneRetire .a 7) = true ∧ Instr.wf (.laneRetire .a 8) = false ∧
    Instr.wf (.route (route 2 65535) []) = true ∧ Instr.wf (.route (route 2 65536) []) = false ∧
    Instr.wf (.route { route 2 1 with srcNode := 2 ^ 20 } []) = false ∧
    Instr.wf (.route { route 2 1 with dstNode := 2 ^ 20 } []) = false ∧
    Instr.wf (.eyeMeasurement .a (List.replicate 8 0)) = true ∧ Instr.wf (.eyeMeasurement .a (List.replicate 7 0)) = false := by decide

theorem test_wf_lengths :
    Instr.wf (.flitReceive .a ⟨false, List.replicate 8 0⟩ (zeros 256)) = true ∧ Instr.wf (.flitReceive .a ⟨false, List.replicate 8 0⟩ (zeros 255)) = false ∧
    Instr.wf (.flitReceive .a ⟨false, []⟩ (zeros 256)) = false ∧
    Instr.wf (.beltFlitReceive (zeros 257)) = false ∧ Instr.wf (.writePkt .a { edgePk with payload := zeros 4104 }) = true ∧
    Instr.wf (.writePkt .a { edgePk with payload := zeros 4105 }) = false ∧
    Instr.wf (.apertureWrite 0 0 (zeros 4096)) = true ∧ Instr.wf (.apertureWrite 0 0 (zeros 4097)) = false ∧
    Instr.wf (.apertureRead 0 0 4097 0) = false ∧ Instr.wf (.bar2UnmappedAccess 0 0 4097 true) = false := by decide +kernel

/-- A training that changed nothing. -/
def plain : HostTraining := { laneFailure := true, reversed := false, inverted := 0, eqs := [] }

theorem test_wf_host :
    Instr.wf (.pllLockLoss 7) = true ∧ Instr.wf (.pllLockLoss 8) = false ∧
    (∀ n ∈ [1, 2, 4, 8, 16], Instr.wf (.l0pWidthChange n) = true) ∧ (∀ n ∈ [0, 3, 32], Instr.wf (.l0pWidthChange n) = false) ∧
    Instr.wf (.hostLinkTrained 16 1 true plain) = true ∧ Instr.wf (.hostLinkTrained 16 7 true plain) = true ∧
    Instr.wf (.hostLinkTrained 16 0 true plain) = false ∧ Instr.wf (.hostLinkTrained 16 8 true plain) = false ∧
    Instr.wf (.msixEntryWrite 0 2047 3 0) = true ∧ Instr.wf (.msixEntryWrite 0 2048 0 0) = false ∧
    Instr.wf (.configRequest 0 4092 15 none) = true ∧ Instr.wf (.configRequest 0 4096 15 none) = false ∧
    Instr.wf (.configRequest 0 2 15 none) = false ∧ Instr.wf (.completionArrival 0 16383 .sc false none []) = true ∧
    Instr.wf (.completionArrival 0 16384 .sc false none []) = false ∧ Instr.wf (.invalidateRequest 0 32 0 0 false) = false ∧
    Instr.wf (.invalidateRequest 0 31 0 0 false) = true ∧ Instr.wf (.hello .a 1 0 3 65535) = true ∧
    Instr.wf (.hello .a 1 0 3 65536) = false ∧
    Instr.wf (.msixEntryWrite 0 0 4 0) = false ∧ Instr.wf (.bar2Resize 43) = true ∧ Instr.wf (.bar2Resize 44) = false ∧
    Instr.wf (.poolIdeBindWrite 255 0) = true ∧ Instr.wf (.poolIdeBindWrite 256 0) = false := by decide

theorem test_wf_control :
    Instr.wf (.faultAssert 1023 faultPlain) = true ∧ Instr.wf (.faultAssert 1024 faultPlain) = false ∧
    Instr.wf (.sensorSample readings) = true ∧ Instr.wf (.sensorSample { readings with temps := [] }) = false ∧
    Instr.wf (.sensorSample { readings with volts := [] }) = false ∧ Instr.wf (.sensorSample { readings with amps := [] }) = false ∧
    Instr.wf (.sensorSample { readings with droops := [] }) = false ∧
    Instr.wf (.registerWrite 0 0 0 4 0) = true ∧ Instr.wf (.registerWrite 0 2 0 8 0) = true ∧
    Instr.wf (.registerWrite 0 1 0 4 0) = false ∧ Instr.wf (.registerWrite 0 0 0 2 0) = false ∧
    Instr.wf (.planningEpoch (List.replicate 8 0)) = true ∧ Instr.wf (.planningEpoch []) = false ∧
    Instr.wf (.spdmGetCertificate 8 0 0) = false ∧ Instr.wf (.spdmGetCertificate 0 65536 0) = false ∧
    Instr.wf (.spdmGetCertificate 0 0 65536) = false := by decide +kernel

/-! ## The spec's own examples -/

/-- The state that a command answers. -/
def after (c : Instr) (s : State) : Option State :=
  match exec c s with
  | .next t => some t
  | _ => none

/-- Entry 40 of the example at R228, byte for byte. -/
def entry40 : Bytes :=
  [0x01, 0x00, 0x31, 0x00, 0xA2, 0x00, 0x00, 0x00, 0x30, 0x00, 0x10, 0x07, 0x0A, 0x00, 0x00, 0x00, 0x80, 0xFD, 0xFF, 0xFF, 0xFF,
   0xFF, 0xFF, 0xFF, 0x28, 0x10, 0x00, 0x00, 0x03, 0x02, 0xFF, 0x00]

/-- 07, example at R228: raw 0x4B40 of frame 0x0031 from node 0x0A2 becomes 865. -/
theorem test_stitch_example :
    let s := ({ up with sti := { Sti.init with map := [(40, parseStitch entry40)] } }).stitchFrame 0xA2
      (beBytes 2 0x31 ++ beBytes 2 8 ++ [0, 0, 0, 0, 0, 0, 0x4B, 0x40])
    (tget s.sti.map 40).map (fun e => (e.lastIn, e.lastOut)) = some (0x4B40, 865) := by decide

/-- 07, the table at R215: 8, 4 and 2 bytes under each rule. -/
theorem test_byte_lanes :
    laneData true [0x88, 0x77, 0x66, 0x55, 0x44, 0x33, 0x22, 0x11] = [0x11, 0x22, 0x33, 0x44, 0x55, 0x66, 0x77, 0x88] ∧
    laneData true [0x44, 0x33, 0x22, 0x11] = [0x11, 0x22, 0x33, 0x44] ∧ laneData true [0x22, 0x11] = [0x11, 0x22] ∧
    laneData false [0x44, 0x33, 0x22, 0x11] = [0x44, 0x33, 0x22, 0x11] := by decide

/-- 18, example at R480: at 100 degrees C, AF is 1.344. -/
theorem test_stress_af : stressAf 1000 / 1000 = 1344 := by decide +kernel

/-- 19, example at R496: the EVENT message of the PUT that starts at 500,000,000 ns, its descriptor 820 ns later. -/
theorem test_trace_example :
    (({ tracing (fun b => { b with filter := 0x40260004 }) with clk := { up.clk with timebase := 500000820 } }).occ 0x0200 1 (some 38)
      (some 5)).bh.buffer = [[0x03, 0, 0, 0, 0x1D, 0xCD, 0x68, 0x34, 0x02, 0, 0x04, 0xC0, 0, 0, 0, 1]] := by decide

/-- 17, example at R450: source 449 in RUN leads to the safe state with bit 1 of FC_STATUS14 set. -/
theorem test_safe_example :
    (after (.faultAssert 449 faultPlain) (belted id)).map (fun s => (s.boot.mode, s.fc.lastSafeValid, s.fc.lastSafe, s.fc.errLow)) =
      some (.safe, true, 449, true) ∧
    (after (.faultAssert 449 faultPlain) (belted id)).map (fun s => (s.slvA.state, s.slvB.state, s.belt.bypassOpen,
      s.fc.sticky)) = some (.fray, .fray, false, [(14 * 32 + 1, true)]) := by decide +kernel

/-- 05, example at R118: minor 1 reaches BORROW and not NUMA_MAP. -/
theorem test_minor_example :
    up.admitStatus opNumaMap 0 { rq [] with minor := 1 } = stUnsupportedVersion ∧ up.admitStatus opBorrow 0 { rq [] with minor := 1 } = 0 := by decide

/-! ## Witnesses of further clauses -/

theorem test_met_ConfigRequests_b :
    (∀ off ∈ [0, 4095], let s := upBoot fun b => { b with mode := .safe }
      s.boot.mode = .safe ∧ s.fnExists 0 = true ∧ off < 4096 ∧ s.link.state ≠ .down ∧ s.nonPostedFull = false) ∧
    up.nonPostedFull = false ∧ up.link.state ≠ .down := by decide

theorem test_met_EmptyQueueTicks_b :
    (let s := up.modDom .lin fun x => { x with state := .sleep }
     s.pending = [] ∧ (s.dom .lin).state ≠ .run ∧ s.boot.mode ≠ .noPower) ∧
    (∀ n ∈ [1, 62], let s := { up with clk := { up.clk with slew := n } }
      (s.dom .lin).state = .run ∧ 2 / 2 ≤ s.clk.slew ∧ 0 < s.clk.slew) ∧
    ((slvA fun v => { v with state := .up, stalling := true }).slv .a).stalling = true ∧
    (up.slvA.stalling = false ∧ up.slvB.stalling = false) := by decide

theorem test_met_SqDoorbells_b :
    (let p := { aQp with residence := .spilled, record := some 0 }
     let s := { running fun _ => p with prov := { set0.prov with spill := true, spillSize := 0x200000 } }
     s.qp 0 = some p ∧ s.qpAway 0 p = true ∧ s.spillOpen = true ∧ 0 ∉ s.plc.retry ∧ p.loading = false) ∧
    (bell 0 0).rsvHi = 0 ∧ { bell 0 0 with rsvLo := 1 }.rsvLo ≠ 0 := by decide

theorem test_met_Messages_b :
    (let p := { pk 7 (5 * 2 ^ 32) (zeros 8) with flags := 0x60 }
     let s := receiver id
     expectedB .a p aRx s = true ∧ p.sendData = [] ∧ s.refusalOf p = none ∧
       ((s.qp 0).map fun x => (x.recvFor p 40).toOption.isSome) = some true) ∧
    (let p := pk 8 (5 * 2 ^ 32) []
     let s := { receiver id with win := Win.init }
     (s.win.iwins.any fun w => s.tagAdmitted w.2.owner p) = false ∧ expectedB .a p aRx s = true) := by decide +kernel

theorem test_met_BeltMessages_b :
    (belted id).belt.bypassOpen = true ∧ { route 2 4 with srcPos := 2 }.srcPos = (belted id).belt.position ∧
    { route 2 4 with hops := 16 }.hops = 16 ∧ { route 2 4 with dstPos := 9 }.dstPos ≠ (belted id).belt.position ∧
    { route 2 4 with dstPos := 0xFF }.dstPos = 0xFF ∧ (belted fun b => { b with bypassOpen := false }).belt.bypassOpen = false := by
  decide

theorem test_met_RegisterReads :
    up.link.state ≠ .down ∧ (upLink fun l => { l with state := .down }).link.state = .down ∧ up.nonPostedFull = false ∧
    (∀ fn ∈ [0, 1], up.barGate fn = .served) ∧ (upBoot fun b => { b with mode := .safe }).boot.mode = .safe ∧
    (up.fnExists 3 = false ∧ State.reset.operating = false) ∧
    (up.boot.mode = .oper ∧ up.boot.reloading = false ∧ (upBoot fun b => { b with reloading := true }).boot.reloading = true) ∧
    up.romOn = false ∧ (up.cfgWrite 0 12 0xF 0xFFF00001).romOn = true ∧
    (isVf 2 = true ∧ vf1Free.tenant (vfOf 2) = none) := by decide

/-- 03, R73 and 02's table of identity: the image header, the pointer 0x0040, and the PCI Data Structure's identity. -/
theorem test_rom_header :
    ((List.range 2).map up.romByte) = [0x55, 0xAA] ∧ ((List.range 2).map fun i => up.romByte (0x18 + i)) = [0x40, 0x00] ∧
    ((List.range 4).map fun i => up.romByte (0x44 + i)) = [0x3C, 0x1F, 0x60, 0x71] ∧
    ((List.range 2).map fun i => up.romByte (0x50 + i)) = [0x00, 0x08] ∧ up.romByte 0x54 = 0x70 := by decide +kernel

/-- 00, R10 and R13: a 64-bit register in one read and in two halves; a write-only register reads 0. -/
theorem test_read_halves :
    (let s := up.modPocket 0 fun p => { p with base := 0x1122334455667000 }
     s.bar0Read 0 (pocketBase 0 + 0x10) 8 = [0x00, 0x70, 0x66, 0x55, 0x44, 0x33, 0x22, 0x11] ∧
       s.bar0Read 0 (pocketBase 0 + 0x14) 4 = [0x44, 0x33, 0x22, 0x11] ∧ s.bar0Read 0 (pocketBase 0) 4 = [0, 0, 0, 0]) := by
  decide +kernel

/-- 12, R329 and R339: an MCTP answer on the Belt is queued as a ROUTE of CLASS 0x01, 68 B at most, with version 1 and the
EID of the binding. -/
theorem test_belt_mctp :
    (((managed .belt fun l => { l with eids := [0, 0, 0, 9, 0] }).ctlSay .belt 0x02 0 [9, 0, 0]).belt.txQueue.map fun x =>
      (x.1.take 6, x.2.length, lget x.2 0 0, lget x.2 2 0, (x.2.drop 6).take 5)) =
      [([0x40, 0, 2, 0, 1, 0], 11, 1, 9, [0x02, 0, 9, 0, 0])] := by decide +kernel

/-- 13, R346: a spilled QP on an engine outside the mask moves too, its context still in its record. -/
theorem test_spilled_evacuation :
    (let p := { aQp with residence := .spilled, record := some 0 }
     let s := { running fun _ => p with plc := { Plc.init with engineMask := 0xFFFE } }
     (s.evacuate.plc.moves, (s.evacuate.qp 0).map (·.residence)) = ([(0, .engine 1, false)], some .spilled) ∧
     ((s.evacuate.migrate 0 0).qp 0).map (fun x => (x.engine, x.residence)) = some (1, .spilled)) := by decide +kernel

end Sys2Proof.Tests
end

section
/-! Requests refused at steps 1 to 5 of R113, for every command of Jalid, and the tokens of a Pocket (R85). -/
namespace Sys2Proof.Machine

/-! ## The header of a request -/

/-- R84, R85: what step 1 of R113 asks of a request. -/
theorem headerOk_iff (s : State) (fn : Nat) (r : Request) :
    s.headerOk fn r = true ↔
      r.len ≤ 2032 ∧ r.flags.toNat < 2 ∧ (∀ b ∈ fit 6 r.rsv, b = 0) ∧ r.doorbell.toNat % 65536 = r.token.toNat ∧
        ∀ c ∈ (s.fn fn).pocket.longs, c.token ≠ r.token := by
  simp [State.headerOk, and_assoc]

/-- Step 1 reads nothing but the Pocket of the request. -/
theorem headerOk_congr {s t : State} {fn : Nat} (h : t.fn fn = s.fn fn) (r : Request) :
    t.headerOk fn r = s.headerOk fn r := by
  simp only [State.headerOk, h]

/-- A doorbell that names an outstanding token fails step 1, whether or not the header's TOKEN agrees with it. -/
theorem headerOk_of_outstanding {s : State} {fn : Nat} {r : Request} {c : LongCmd} (hd : r.doorbell.toNat < 65536)
    (hc : c ∈ (s.fn fn).pocket.longs) (ht : c.token.toNat = r.doorbell.toNat) : s.headerOk fn r = false := by
  refine Bool.eq_false_iff.2 fun h => ?_
  obtain ⟨-, -, -, hbell, hfree⟩ := (headerOk_iff s fn r).1 h
  exact hfree c hc (BitVec.eq_of_toNat_eq (by omega))

theorem admitStatus_of_not_headerOk {s : State} {fn : Nat} {r : Request} (h : s.headerOk fn r = false) (o : OpInfo) :
    s.admitStatus o fn r = stBadArgument := by
  simp [State.admitStatus, h]

/-! ## A request turned away -/

/-- Every row of Jalid is a request of its opcode. -/
theorem exec_of_mem_yasilRows {fn : Nat} {r : Request} :
    ∀ x ∈ yasilRowsA fn r ++ yasilRowsB fn r, ∃ body, ∀ s, exec x.1 s = request x.2 body fn r s := by
  simp only [yasilRowsA, yasilRowsB, List.cons_append, List.nil_append, List.forall_mem_cons, List.not_mem_nil,
    IsEmpty.forall_iff, implies_true, and_true]
  and_intros <;> exact ⟨_, fun _ => rfl⟩

/-- A request that a served, idle Pocket takes and that steps 1 to 5 do not let pass is answered with their status. -/
theorem jalid_of_not_admitted {s : State} {o : OpInfo} {fn : Nat} {r : Request} (body : Body)
    (hserved : s.pocketServed fn = true) (hidle : (s.fn fn).pocket.state ≠ .working) (hd : r.doorbell.toNat < 65536)
    (hst : s.admitStatus o fn r ≠ stDone) :
    State.jalid o body fn r s =
      ((s.accessWake .ctl).takeRequest o fn r).respond fn o.code r (s.admitStatus o fn r) [] := by
  have hbusy : ¬(decide ((s.fn fn).pocket.state = .working) || decide (r.doorbell.toNat ≥ 65536)) = true := by
    simp [hidle, hd]
  rw [State.jalid, if_neg (by simp [hserved]), if_neg hbusy]
  exact if_neg hst

/-- Such a request is turned away: the response is all it leaves. -/
theorem turnedAway_of_not_admitted {c : Instr} {s : State} {o : OpInfo} {fn : Nat} {r : Request} {body : Body}
    (hc : exec c s = request o body fn r s) (hserved : s.pocketServed fn = true)
    (hidle : (s.fn fn).pocket.state ≠ .working) (hd : r.doorbell.toNat < 65536) (hst : s.admitStatus o fn r ≠ stDone) :
    TurnedAway c o fn r s (s.admitStatus o fn r) := by
  refine completes_command hc ?_
  rw [jalid_of_not_admitted body hserved hidle hd hst]
  refine ⟨(Beside.respond ..).trans (Beside.takeRequest ..), ?_, ?_, ?_, ?_⟩ <;>
    simp [State.respond, accessWake_fn]

/-! ## Tokens -/

/-- Settles O59: the token of an outstanding long command fails step 1 of its own Pocket, and step 1 reads no other. -/
theorem tokensOfAPocket : Obligations.TokensOfAPocket := by
  intro fn r s
  refine ⟨?_, ?_, ?_⟩
  · rintro x hx hserved hidle hd ⟨c, hc, ht⟩
    obtain ⟨body, hexec⟩ := exec_of_mem_yasilRows x hx
    have hst : s.admitStatus x.2 fn r = stBadArgument :=
      admitStatus_of_not_headerOk (headerOk_of_outstanding hd hc ht) x.2
    have h := turnedAway_of_not_admitted (hexec s) hserved hidle hd (by rw [hst]; decide)
    rwa [hst] at h
  · intro hlen hflags hrsv hbell hfree
    have hmod : r.doorbell.toNat % 65536 = r.token.toNat := by have := r.token.isLt; omega
    exact (headerOk_iff s fn r).2 ⟨hlen, hflags, by rw [hrsv]; decide, hmod, hfree⟩
  · intro n g hn
    exact headerOk_congr (State.setFn_fn_ne s n fn g hn.symm) r

end Sys2Proof.Machine
end

section
/-! R330: Belt messages of unknown TYPE, on the Belt and on a Sleeve. What sending on a Sleeve and receiving a packet leave
of the receive side of the Sleeves. -/
namespace Sys2Proof.Machine

/-! ## The receive side of a Sleeve -/

/-- What decides on the flits that a Sleeve receives, and their count of unknown messages (R274, R276, R282, R294). -/
structure RxSide where
  state : SlvState
  expect : BitVec 12
  rxOn : Bool
  rxNext : Option (Byte × W64)
  bypUnknown : W32

/-- That part of a Sleeve. -/
def Slv.rxSide (v : Slv) : RxSide :=
  { state := v.state, expect := v.expect, rxOn := v.rxOn, rxNext := v.rxNext, bypUnknown := v.bypUnknown }

/-- What sending on a Sleeve leaves alone: the receive sides of both, and parts of the state beside the fabric. -/
structure LinkKept where
  rx : RxSide × RxSide
  others : Belt × Table Qp × Win

/-- That part of a state. -/
def State.linkKept (s : State) : LinkKept :=
  { rx := (s.slvA.rxSide, s.slvB.rxSide), others := (s.belt, s.qps, s.win) }

@[simp] theorem rxSide_slvA (s : State) : s.slvA.rxSide = s.linkKept.rx.1 := rfl
@[simp] theorem rxSide_slvB (s : State) : s.slvB.rxSide = s.linkKept.rx.2 := rfl

@[simp] theorem linkKept_mk (x0 x1 x2 x3 x4 x5 x6 x7 x8 x9 x10 x11 x12 x13 x14 x15 x16 x17 x18 x19 x20 x21 x22 x23 x24 x25
    x26 x27 x28 x29) :
    (State.mk x0 x1 x2 x3 x4 x5 x6 x7 x8 x9 x10 x11 x12 x13 x14 x15 x16 x17 x18 x19 x20 x21 x22 x23 x24 x25 x26 x27 x28
      x29).linkKept = ⟨(x17.rxSide, x18.rxSide), (x20, x5, x13)⟩ := rfl

/-- The receive side of either Sleeve, from those of both. -/
theorem rxSide_slv_of_rx {s t : State} (h : t.linkKept.rx = s.linkKept.rx) (sl : Sleeve) :
    (t.slv sl).rxSide = (s.slv sl).rxSide := by
  cases sl
  · exact congrArg Prod.fst h
  · exact congrArg Prod.snd h

@[simp] theorem linkKept_ite (c : Prop) [Decidable c] (a b : State) :
    (if c then a else b).linkKept = if c then a.linkKept else b.linkKept := apply_ite ..

@[simp] theorem LinkKept.rx_ite (c : Prop) [Decidable c] (a b : LinkKept) :
    (if c then a else b).rx = if c then a.rx else b.rx := apply_ite ..

theorem linkKept_ite_of {c : Prop} [Decidable c] {a b : State} {u : LinkKept} (ha : a.linkKept = u) (hb : b.linkKept = u) :
    (if c then a else b).linkKept = u := by
  split
  · exact ha
  · exact hb

theorem linkKept_foldl {β : Type} {f : State → β → State} (h : ∀ s b, (f s b).linkKept = s.linkKept) (l : List β)
    (s : State) : (l.foldl f s).linkKept = s.linkKept := by
  induction l generalizing s with
  | nil => rfl
  | cons b r ih => rw [List.foldl_cons, ih, h]

@[simp] theorem rxKept_foldl {β : Type} {f : State → β → State} (h : ∀ s b, (f s b).linkKept.rx = s.linkKept.rx)
    (l : List β) (s : State) : (l.foldl f s).linkKept.rx = s.linkKept.rx := by
  induction l generalizing s with
  | nil => rfl
  | cons b r ih => rw [List.foldl_cons, ih, h]

theorem linkKept_setSlv (s : State) (sl : Sleeve) {v : Slv} (h : v.rxSide = (s.slv sl).rxSide) :
    (s.setSlv sl v).linkKept = s.linkKept := by
  cases sl
  · exact congrArg (fun x => (⟨(x, s.slvB.rxSide), (s.belt, s.qps, s.win)⟩ : LinkKept)) h
  · exact congrArg (fun x => (⟨(s.slvA.rxSide, x), (s.belt, s.qps, s.win)⟩ : LinkKept)) h

theorem linkKept_modSlv (s : State) (sl : Sleeve) {g : Slv → Slv} (h : ∀ v, (g v).rxSide = v.rxSide) :
    (s.modSlv sl g).linkKept = s.linkKept := linkKept_setSlv s sl (h _)

theorem others_modSlv (s : State) (sl : Sleeve) (g : Slv → Slv) : (s.modSlv sl g).linkKept.others = s.linkKept.others := by
  cases sl <;> rfl

/-! ## Sending on a Sleeve (R272, R283 to R285) -/

@[simp] theorem rxSide_keyed (v : Slv) : v.keyed.rxSide = v.rxSide := by
  unfold Slv.keyed
  split
  · split <;> rfl
  · rfl

@[simp] theorem rxSide_switched (v : Slv) (body : Bytes) : (v.switched body).rxSide = v.rxSide := by
  unfold Slv.switched
  split <;> rfl

@[simp] theorem linkKept_setFn (s : State) (n : Nat) (f : Fn) : (s.setFn n f).linkKept = s.linkKept := rfl
@[simp] theorem linkKept_modFn (s : State) (n : Nat) (g : Fn → Fn) : (s.modFn n g).linkKept = s.linkKept := rfl
@[simp] theorem linkKept_emit (s : State) (e : Emission) : (s.emit e).linkKept = s.linkKept := rfl
@[simp] theorem linkKept_emits (s : State) (es : List Emission) : (s.emits es).linkKept = s.linkKept := rfl

@[simp] theorem linkKept_charge (s : State) (fn idx n : Nat) : (s.charge fn idx n).linkKept = s.linkKept :=
  linkKept_ite_of rfl rfl

@[simp] theorem linkKept_tracePush (s : State) (m : Bytes) : (s.tracePush m).linkKept = s.linkKept :=
  linkKept_ite_of rfl rfl

@[simp] theorem linkKept_traceOcc (s : State) (code amount : Nat) (fn grp : Option Nat) :
    (s.traceOcc code amount fn grp).linkKept = s.linkKept :=
  linkKept_ite_of (linkKept_ite_of (linkKept_tracePush ..) rfl) rfl

@[simp] theorem linkKept_occ (s : State) (code amount : Nat) (fn grp : Option Nat) :
    (s.occ code amount fn grp).linkKept = s.linkKept := linkKept_traceOcc ..

@[simp] theorem linkKept_occFn (s : State) (code amount fn : Nat) : (s.occFn code amount fn).linkKept = s.linkKept :=
  linkKept_occ ..

theorem linkKept_slvCount (s : State) (sl : Sleeve) (item : Nat) {f : Slv → Slv} (h : ∀ v, (f v).rxSide = v.rxSide) :
    (s.slvCount sl item f).linkKept = s.linkKept := (linkKept_occ ..).trans (linkKept_modSlv s sl h)

@[simp] theorem linkKept_sendFlit (s : State) (sl : Sleeve) (kind vc : Nat) (payload : Bytes) :
    (s.sendFlit sl kind vc payload).linkKept = s.linkKept := by
  simp only [State.sendFlit, linkKept_occ, linkKept_emits]
  refine linkKept_setSlv s sl ((rxSide_switched _ _).trans ?_)
  exact rxSide_keyed (s.slv sl)

@[simp] theorem linkKept_bypassDrainN (n : Nat) (s : State) (sl : Sleeve) :
    (State.bypassDrainN n s sl).linkKept = s.linkKept := by
  induction n generalizing s with
  | zero => rfl
  | succ n ih => exact linkKept_ite_of rfl ((ih _).trans (linkKept_sendFlit ..))

@[simp] theorem linkKept_bypassDrain (s : State) (sl : Sleeve) : (s.bypassDrain sl).linkKept = s.linkKept :=
  linkKept_bypassDrainN ..

@[simp] theorem linkKept_bypass (s : State) (sl : Sleeve) (body : Bytes) : (s.bypass sl body).linkKept = s.linkKept :=
  (linkKept_bypassDrain ..).trans (linkKept_modSlv s sl fun _ => rfl)

@[simp] theorem linkKept_crossed (s : State) (sl : Sleeve) : (s.crossed sl).linkKept = s.linkKept :=
  linkKept_modSlv s sl fun _ => rfl

@[simp] theorem linkKept_tpMsg (s : State) (sl : Sleeve) (fn : Option Nat) (body : Bytes) :
    (s.tpMsg sl fn body).linkKept = s.linkKept := by
  have hsend (t : State) : (if t.slvUp sl then t.bypass sl body
      else if t.slvUp sl.other then t.bypass sl.other body else t).linkKept = t.linkKept :=
    linkKept_ite_of (linkKept_bypass ..) (linkKept_ite_of (linkKept_bypass ..) rfl)
  cases fn with
  | none => exact hsend s
  | some f => exact (hsend _).trans (linkKept_charge ..)

@[simp] theorem linkKept_modFlow (s : State) (k : Nat) (g : TxFlow → TxFlow) : (s.modFlow k g).linkKept = s.linkKept := rfl

@[simp] theorem linkKept_modUnacked (s : State) (k : Nat) (seq : BitVec 24) (g : TxPkt → TxPkt) :
    (s.modUnacked k seq g).linkKept = s.linkKept := rfl

@[simp] theorem linkKept_packetOut (s : State) (sl : Sleeve) (fn : Nat) (p : Packet) :
    (s.packetOut sl fn p).linkKept = s.linkKept := by
  simp only [State.packetOut, linkKept_occFn, linkKept_charge, linkKept_modFn]
  rw [linkKept_foldl fun _ _ => linkKept_sendFlit .., linkKept_emit]

@[simp] theorem linkKept_emitNew (s : State) (k : Nat) (t : TxPkt) : (s.emitNew k t).linkKept = s.linkKept := by
  unfold State.emitNew
  split
  · rfl
  · exact (linkKept_packetOut ..).trans (linkKept_ite_of rfl rfl)

@[simp] theorem linkKept_emitAgain (s : State) (k : Nat) (sl : Sleeve) (t : TxPkt) :
    (s.emitAgain k sl t).linkKept = s.linkKept := (linkKept_packetOut ..).trans (linkKept_occ ..)

@[simp] theorem linkKept_pumpAgainN (n : Nat) (s : State) (k : Nat) : (State.pumpAgainN n s k).linkKept = s.linkKept := by
  induction n generalizing s with
  | zero => rfl
  | succ n ih =>
    unfold State.pumpAgainN
    split
    · rfl
    · split
      · rfl
      · exact linkKept_ite_of rfl ((ih _).trans (linkKept_emitAgain ..))

@[simp] theorem linkKept_pumpFlowN (n : Nat) (s : State) (k : Nat) : (State.pumpFlowN n s k).linkKept = s.linkKept := by
  induction n generalizing s with
  | zero => rfl
  | succ n ih =>
    unfold State.pumpFlowN
    split
    · rfl
    · split
      · rfl
      · exact linkKept_ite_of rfl ((ih _).trans (linkKept_emitNew ..))

@[simp] theorem linkKept_pumpFlow (s : State) (k : Nat) : (s.pumpFlow k).linkKept = s.linkKept :=
  (linkKept_pumpFlowN ..).trans (linkKept_pumpAgainN ..)

theorem linkKept_pumpSleeve (s : State) (sl : Sleeve) : (s.pumpSleeve sl).linkKept = s.linkKept :=
  (linkKept_foldl (fun _ _ => linkKept_ite_of (linkKept_pumpFlow ..) rfl) ..).trans (linkKept_bypassDrain s sl)

/-! ## The header of a received flit (R282 to R284) -/

theorem linkKept_linkAck (s : State) (sl : Sleeve) (a : BitVec 12) : (s.linkAck sl a).linkKept = s.linkKept :=
  linkKept_ite_of rfl ((linkKept_pumpSleeve ..).trans (linkKept_modSlv s sl fun _ => rfl))

/-- What an acknowledgement lets go, and a replay, touch nothing but the sending side. -/
theorem linkKept_linkHeader (s : State) (sl : Sleeve) (a : BitVec 12) (nak : Bool) :
    (s.linkHeader sl a nak).linkKept = s.linkKept := by
  have hseen : ((s.linkAck sl a).modSlv sl fun v => { v with lastNak := nak, lastAck := a }).linkKept = s.linkKept := by
    rw [linkKept_modSlv, linkKept_linkAck]
    exact fun _ => rfl
  refine linkKept_ite_of ?_ hseen
  rw [State.replayFrom, linkKept_emits, linkKept_slvCount, hseen]
  exact fun _ => rfl

theorem linkKept_flitAnswer (s : State) (sl : Sleeve) (before : Slv) : (s.flitAnswer sl before).linkKept = s.linkKept :=
  linkKept_ite_of rfl rfl

/-! ## What goes to the host (R36, R91, R250, R451) -/

@[simp] theorem rxKept_modPocket (s : State) (n : Nat) (g : Pocket → Pocket) :
    (s.modPocket n g).linkKept.rx = s.linkKept.rx := rfl

@[simp] theorem rxKept_modCfg (s : State) (n : Nat) (g : FnCfg → FnCfg) :
    (s.modCfg n g).linkKept.rx = s.linkKept.rx := rfl
@[simp] theorem rxKept_modQp (s : State) (n : Nat) (g : Qp → Qp) : (s.modQp n g).linkKept.rx = s.linkKept.rx := rfl

@[simp] theorem rxKept_modQset (s : State) (n q : Nat) (g : QSet → QSet) :
    (s.modQset n q g).linkKept.rx = s.linkKept.rx := rfl

@[simp] theorem rxKept_modUnit (s : State) (u : Nat) (g : XUnit → XUnit) :
    (s.modUnit u g).linkKept.rx = s.linkKept.rx := rfl
@[simp] theorem rxKept_emitTlp (s : State) (fn : Nat) (x : Tlp) : (s.emitTlp fn x).linkKept.rx = s.linkKept.rx := rfl

@[simp] theorem rxKept_reply (s : State) (fn : Nat) (st : CplStatus) (data : Bytes) :
    (s.reply fn st data).linkKept.rx = s.linkKept.rx := rfl
@[simp] theorem rxKept_takeFree (s : State) : s.takeFree.2.linkKept.rx = s.linkKept.rx := rfl

@[simp] theorem rxKept_pushItem (s : State) (fn : Nat) (k : HKind) :
    (s.pushItem fn k).linkKept.rx = s.linkKept.rx := rfl

@[simp] theorem rxKept_tlpSent (s : State) (fn n : Nat) : (s.tlpSent fn n).linkKept.rx = s.linkKept.rx := by
  simp [State.tlpSent]

@[simp] theorem rxKept_complete (s : State) (fn : Nat) (st : CplStatus) (data : Bytes) :
    (s.complete fn st data).linkKept.rx = s.linkKept.rx := by
  simp [State.complete]

@[simp] theorem rxKept_sendMsg (s : State) (fn : Nat) (m : HostMsg) : (s.sendMsg fn m).linkKept.rx = s.linkKept.rx := by
  simp [State.sendMsg]

@[simp] theorem rxKept_msixSend (s : State) (fn vec : Nat) (dev : Option W16) :
    (s.msixSend fn vec dev).linkKept.rx = s.linkKept.rx := by
  simp [State.msixSend]

@[simp] theorem rxKept_msixTrigger (s : State) (fn vec : Nat) (dev : Option W16) :
    (s.msixTrigger fn vec dev).linkKept.rx = s.linkKept.rx := by
  simp [State.msixTrigger]

@[simp] theorem rxKept_event (s : State) (fn : Nat) (e : Event) (final : Bool := false) :
    (s.event fn e final).linkKept.rx = s.linkKept.rx := by
  simp [State.event]

@[simp] theorem rxKept_aerFirst (s : State) (fn bit : Nat) : (s.aerFirst fn bit).linkKept.rx = s.linkKept.rx := by
  simp [State.aerFirst]

@[simp] theorem rxKept_aer (s : State) (fn bit : Nat) (advisory : Bool) :
    (s.aer fn bit advisory).linkKept.rx = s.linkKept.rx := by
  simp [State.aer]

/-! ## Staged units, and packets of our own (R258, R299, R307) -/

@[simp] theorem rxKept_addUnit (s : State) (u : XUnit) : (s.addUnit u).linkKept.rx = s.linkKept.rx := rfl
@[simp] theorem rxKept_unqueue (s : State) (n : Nat) : (s.unqueue n).linkKept.rx = s.linkKept.rx := rfl
@[simp] theorem rxKept_dropUnit (s : State) (n : Nat) : (s.dropUnit n).linkKept.rx = s.linkKept.rx := rfl
@[simp] theorem rxKept_arriveUnit (s : State) (n : Nat) : (s.arriveUnit n).linkKept.rx = s.linkKept.rx := rfl

@[simp] theorem rxKept_landBytes (s : State) (n off : Nat) (d : Bytes) :
    (s.landBytes n off d).linkKept.rx = s.linkKept.rx := by
  unfold State.landBytes
  split <;> simp

@[simp] theorem rxKept_sendWant (s : State) (k : Nat) (f : TxFlow) : (s.sendWant k f).linkKept.rx = s.linkKept.rx := by
  simp [State.sendWant]

@[simp] theorem rxKept_tpCount (s : State) (item : Nat) (f : Tp → Tp) :
    (s.tpCount item f).linkKept.rx = s.linkKept.rx := by
  simp [State.tpCount]

@[simp] theorem rxKept_tpNoState (s : State) : s.tpNoState.linkKept.rx = s.linkKept.rx := by
  simp [State.tpNoState]

@[simp] theorem rxKept_tpLate (s : State) : s.tpLate.linkKept.rx = s.linkKept.rx := by
  simp [State.tpLate]

@[simp] theorem rxKept_tpStale (s : State) : s.tpStale.linkKept.rx = s.linkKept.rx := by
  simp [State.tpStale]

@[simp] theorem rxKept_openFlow (s : State) (k : Nat) (f : TxFlow) : (s.openFlow k f).linkKept.rx = s.linkKept.rx := by
  simp [State.openFlow]

@[simp] theorem rxKept_ensureFlow (s : State) (node vc : Nat) (q : Option Nat) (fn : Nat) :
    (s.ensureFlow node vc q fn).linkKept.rx = s.linkKept.rx := by
  simp only [State.ensureFlow]
  split <;> simp

@[simp] theorem rxKept_sendPkt (s : State) (p : Packet) (owner : Owner) (fn : Nat) :
    (s.sendPkt p owner fn).linkKept.rx = s.linkKept.rx := by
  simp [State.sendPkt]

/-! ## Answers of the receive side (R306 to R310, R313) -/

@[simp] theorem rxKept_modRx (s : State) (k : Nat) (g : RxFlow → RxFlow) :
    (s.modRx k g).linkKept.rx = s.linkKept.rx := rfl

@[simp] theorem rxKept_sendGrant (s : State) (k : Nat) (r : RxFlow) :
    (s.sendGrant k r).linkKept.rx = s.linkKept.rx := by
  simp [State.sendGrant]

@[simp] theorem rxKept_raiseLimit (s : State) (k : Nat) : (s.raiseLimit k).linkKept.rx = s.linkKept.rx := by
  unfold State.raiseLimit
  split <;> simp

@[simp] theorem rxKept_serveStalled (l : List Nat) (s : State) :
    (State.serveStalled l s).linkKept.rx = s.linkKept.rx := by
  induction l generalizing s with
  | nil => rfl
  | cons k r ih =>
    simp only [State.serveStalled]
    split
    · exact (ih _).trans (rxKept_raiseLimit s k)
    · exact rxKept_raiseLimit s k

@[simp] theorem rxKept_regrantAll (s : State) : s.regrantAll.linkKept.rx = s.linkKept.rx := by
  simp [State.regrantAll]

@[simp] theorem rxKept_regrant (s : State) (k : Nat) : (s.regrant k).linkKept.rx = s.linkKept.rx := by
  simp [State.regrant]

@[simp] theorem rxKept_drain (s : State) (node vc units : Nat) :
    (s.drain node vc units).linkKept.rx = s.linkKept.rx := by
  simp [State.drain]

@[simp] theorem rxKept_drainUnit (s : State) (u : XUnit) : (s.drainUnit u).linkKept.rx = s.linkKept.rx := by
  unfold State.drainUnit
  split <;> simp

@[simp] theorem rxKept_sendAck (s : State) (node vc : Nat) (sl : Sleeve) :
    (s.sendAck node vc sl).linkKept.rx = s.linkKept.rx := by
  unfold State.sendAck
  split <;> simp

@[simp] theorem rxKept_allowAck (s : State) (node vc : Nat) (sl : Sleeve) :
    (s.allowAck node vc sl).linkKept.rx = s.linkKept.rx := by
  unfold State.allowAck
  split <;> simp

@[simp] theorem rxKept_sendNak (s : State) (node vc : Nat) (seq : BitVec 24) (status : Byte) (sl : Sleeve) :
    (s.sendNak node vc seq status sl).linkKept.rx = s.linkKept.rx := by
  simp [State.sendNak]

@[simp] theorem rxKept_answerN (n : Nat) (s : State) (node vc : Nat) (sl : Sleeve) :
    (State.answerN n s node vc sl).linkKept.rx = s.linkKept.rx := by
  induction n generalizing s with
  | zero => exact rxKept_allowAck ..
  | succ n ih =>
    simp only [State.answerN]
    split
    · exact rxKept_allowAck ..
    · split
      · exact rxKept_allowAck ..
      · rw [ih, rxKept_sendNak, rxKept_modRx]

@[simp] theorem rxKept_answer (s : State) (node vc : Nat) (sl : Sleeve) :
    (s.answer node vc sl).linkKept.rx = s.linkKept.rx := by
  simp [State.answer]

@[simp] theorem rxKept_committedRx (s : State) (p : Packet) : (s.committedRx p).linkKept.rx = s.linkKept.rx := by
  simp [State.committedRx]

@[simp] theorem rxKept_refuse (s : State) (p : Packet) (status : Nat) :
    (s.refuse p status).linkKept.rx = s.linkKept.rx := by
  simp [State.refuse]

@[simp] theorem rxKept_sendRetire (s : State) (node vc : Nat) (sl : Sleeve) (fn : Option Nat) :
    (s.sendRetire node vc sl fn).linkKept.rx = s.linkKept.rx := by
  simp [State.sendRetire]

/-! ## Queue pairs and their records (R176, R192, R245) -/

@[simp] theorem rxKept_modDesc (s : State) (q : Nat) (sqi : W16) (g : Desc → Desc) :
    (s.modDesc q sqi g).linkKept.rx = s.linkKept.rx := rfl

@[simp] theorem rxKept_resteer (s : State) (q : Nat) : (s.resteer q).linkKept.rx = s.linkKept.rx := by
  unfold State.resteer
  split <;> simp

@[simp] theorem rxKept_announce (s : State) (fn q : Nat) (dev : Option W16) :
    (s.announce fn q dev).linkKept.rx = s.linkKept.rx := by
  unfold State.announce
  split <;> simp

@[simp] theorem rxKept_announceDue (s : State) (fn q : Nat) : (s.announceDue fn q).linkKept.rx = s.linkKept.rx := by
  simp [State.announceDue]

@[simp] theorem rxKept_moderate (s : State) (p : Qp) (solicit : Bool) :
    (s.moderate p solicit).linkKept.rx = s.linkKept.rx := by
  simp only [State.moderate]
  split <;> simp

@[simp] theorem rxKept_writeRecord (s : State) (q : Nat) (p : Qp) (d : Desc) (st : Byte) :
    (s.writeRecord q p d st).linkKept.rx = s.linkKept.rx := by
  simp [State.writeRecord]

@[simp] theorem rxKept_advanceN (n : Nat) (s : State) (q : Nat) :
    (State.advanceN n s q).linkKept.rx = s.linkKept.rx := by
  induction n generalizing s with
  | zero => rfl
  | succ n ih =>
    unfold State.advanceN
    split
    · rfl
    · split
      · rfl
      · split
        · rfl
        · split
          · rfl
          · rw [ih, rxKept_writeRecord, rxKept_modQp]

@[simp] theorem rxKept_advance (s : State) (q : Nat) : (s.advance q).linkKept.rx = s.linkKept.rx := by
  simp [State.advance]

@[simp] theorem rxKept_qpStateEvent (s : State) (fn q : Nat) (state : Nat) (cause : Byte) :
    (s.qpStateEvent fn q state cause).linkKept.rx = s.linkKept.rx := by
  simp [State.qpStateEvent]

@[simp] theorem rxKept_lateWriteEvent (s : State) (fn kind obj status : Nat) (off : W64) (seq : BitVec 24) :
    (s.lateWriteEvent fn kind obj status off seq).linkKept.rx = s.linkKept.rx := by
  simp [State.lateWriteEvent]

@[simp] theorem rxKept_refuseFrom (s : State) (p : Packet) (st : Nat) :
    (s.refuseFrom p st).linkKept.rx = s.linkKept.rx := rfl

@[simp] theorem rxKept_dropLost (st : Nat) (s : State) (n : Nat) :
    (State.dropLost st s n).linkKept.rx = s.linkKept.rx := by
  unfold State.dropLost
  split
  · rfl
  · simp only
    split <;> simp

@[simp] theorem rxKept_dropDescWork (s : State) (q : Nat) (gone : List W16) :
    (s.dropDescWork q gone).linkKept.rx = s.linkKept.rx := by
  simp [State.dropDescWork]

@[simp] theorem rxKept_qpError (s : State) (q : Nat) (at_ : Option W16) (cause : Byte) :
    (s.qpError q at_ cause).linkKept.rx = s.linkKept.rx := by
  unfold State.qpError
  split
  · rfl
  · split
    · rfl
    · split <;> simp
    · simp
    · simp

@[simp] theorem rxKept_unitDone (s : State) (q : Nat) (sqi : W16) (no : Nat) :
    (s.unitDone q sqi no).linkKept.rx = s.linkKept.rx := by
  simp [State.unitDone]

@[simp] theorem rxKept_unitFailed (s : State) (q : Nat) (sqi : W16) (no : Nat) (nak : Option Nat) (off : W64)
    (seq : BitVec 24) (put ackedUnit : Bool) :
    (s.unitFailed q sqi no nak off seq put ackedUnit).linkKept.rx = s.linkKept.rx := by
  unfold State.unitFailed
  split <;> simp

/-! ## Units that start and units that end (R185, R316 to R318) -/

@[simp] theorem rxKept_readUnit (s : State) (fn q u addr len : Nat) (ats : Bool) :
    (s.readUnit fn q u addr len ats).linkKept.rx = s.linkKept.rx := rfl

@[simp] theorem rxKept_startUnit (s : State) (q : Nat) (p : Qp) (d : Desc) :
    (s.startUnit q p d).linkKept.rx = s.linkKept.rx := by
  simp [State.startUnit]

@[simp] theorem rxKept_startUnitsN (n : Nat) (s : State) (q : Nat) :
    (State.startUnitsN n s q).linkKept.rx = s.linkKept.rx := by
  induction n generalizing s with
  | zero => rfl
  | succ n ih =>
    unfold State.startUnitsN
    split
    · rfl
    · rw [ih, rxKept_startUnit]

@[simp] theorem rxKept_startUnits (s : State) (q : Nat) : (s.startUnits q).linkKept.rx = s.linkKept.rx := by
  unfold State.startUnits
  split <;> simp

@[simp] theorem rxKept_kickGroup (s : State) (g : Nat) : (s.kickGroup g).linkKept.rx = s.linkKept.rx := by
  simp [State.kickGroup]

@[simp] theorem rxKept_moveIn (s : State) (a : Arb) (g : Nat) : (s.moveIn a g).linkKept.rx = s.linkKept.rx := by
  refine rxKept_foldl (fun t n => ?_) _ s
  split
  · rfl
  · split
    · exact (rxKept_drainUnit ..).trans (rxKept_modUnit ..)
    · rfl

@[simp] theorem rxKept_unstage (s : State) (n : Nat) : (s.unstage n).linkKept.rx = s.linkKept.rx := by
  unfold State.unstage
  split <;> simp

@[simp] theorem rxKept_aptLate (s : State) (a : Nat) (x : Apt) (nak : Bool) (off : W64) (seq : BitVec 24) :
    (s.aptLate a x nak off seq).linkKept.rx = s.linkKept.rx := by
  simp [State.aptLate]

@[simp] theorem rxKept_aptEnded (s : State) (a order : Nat) (e : PktEnd) (off : W64) (seq : BitVec 24) (emitted : Bool) :
    (s.aptEnded a order e off seq emitted).linkKept.rx = s.linkKept.rx := by
  simp only [State.aptEnded]
  split
  · rfl
  · split <;> simp

@[simp] theorem rxKept_aptReadAbort (s : State) (id : Nat) : (s.aptReadAbort id).linkKept.rx = s.linkKept.rx := by
  unfold State.aptReadAbort
  split <;> simp

@[simp] theorem rxKept_dropAwait (s : State) (o : Owner) : (s.dropAwait o).linkKept.rx = s.linkKept.rx := rfl

@[simp] theorem rxKept_pastFailed (s : State) (q : Nat) (nak : Option Nat) (p : Packet) (acked : Bool) :
    (s.pastFailed q nak p acked).linkKept.rx = s.linkKept.rx := by
  simp only [State.pastFailed]
  split <;> simp

@[simp] theorem rxKept_ownerEnd (s : State) (o : Owner) (order : Nat) (e : PktEnd) (p : Packet) (emitted acked : Bool) :
    (s.ownerEnd o order e p emitted acked).linkKept.rx = s.linkKept.rx := by
  unfold State.ownerEnd
  split
  · simp only
    split <;> simp
  · split <;> simp
  · split <;> simp
  · simp
  · simp
  · rfl

@[simp] theorem rxKept_endPkt (s : State) (t : TxPkt) (e : PktEnd) : (s.endPkt t e).linkKept.rx = s.linkKept.rx := by
  unfold State.endPkt
  split <;> simp

@[simp] theorem rxKept_endUnit (s : State) (n : Nat) (e : PktEnd) : (s.endUnit n e).linkKept.rx = s.linkKept.rx := by
  simp only [State.endUnit]
  split
  · rfl
  · split <;> simp

@[simp] theorem rxKept_endWaiting (e : PktEnd) (s : State) (t : TxPkt) :
    (State.endWaiting e s t).linkKept.rx = s.linkKept.rx := by
  unfold State.endWaiting
  split <;> simp

@[simp] theorem rxKept_endAll (s : State) (k : Nat) (f : TxFlow) (e : PktEnd) :
    (s.endAll k f e).linkKept.rx = s.linkKept.rx := by
  simp [State.endAll]

/-! ## Flows and epochs (R300, R312, R323, R325) -/

@[simp] theorem rxKept_reviveFlow (s : State) (k : Nat) : (s.reviveFlow k).linkKept.rx = s.linkKept.rx := by
  unfold State.reviveFlow
  split <;> simp

@[simp] theorem rxKept_startWaiting (s : State) : s.startWaiting.linkKept.rx = s.linkKept.rx := by
  simp [State.startWaiting]

@[simp] theorem rxKept_ccSample (s : State) (k : Nat) (t : TxPkt) : (s.ccSample k t).linkKept.rx = s.linkKept.rx := by
  simp only [State.ccSample]
  split
  · rfl
  · split <;> simp

@[simp] theorem rxKept_cutRx (s : State) (k : Nat) : (s.cutRx k).linkKept.rx = s.linkKept.rx := rfl

@[simp] theorem rxKept_epochChange (s : State) (node : Nat) (e : W16) :
    (s.epochChange node e).linkKept.rx = s.linkKept.rx := by
  simp [State.epochChange, rxKept_foldl rxKept_cutRx]

@[simp] theorem rxKept_noteEpoch (s : State) (node : Nat) (e : W16) :
    (s.noteEpoch node e).linkKept.rx = s.linkKept.rx := by
  unfold State.noteEpoch
  split <;> simp

@[simp] theorem rxKept_answerRetire (s : State) (node vc : Nat) (sl : Sleeve) (fn : Option Nat) :
    (s.answerRetire node vc sl fn).linkKept.rx = s.linkKept.rx := by
  simp [State.answerRetire]

@[simp] theorem rxKept_answerEpoch (s : State) (node : Nat) (sl : Sleeve) :
    (s.answerEpoch node sl).linkKept.rx = s.linkKept.rx := by
  simp [State.answerEpoch]

/-! ## Windows, reads and spilled contexts (R208, R216, R351) -/

@[simp] theorem rxKept_modIwin (s : State) (n : Nat) (g : Iwin → Iwin) :
    (s.modIwin n g).linkKept.rx = s.linkKept.rx := rfl

@[simp] theorem rxKept_inDenied (s : State) (w : Option Nat) : (s.inDenied w).linkKept.rx = s.linkKept.rx := by
  unfold State.inDenied
  split <;> simp

@[simp] theorem rxKept_freeSlot (s : State) (h : Nat) : (s.freeSlot h).linkKept.rx = s.linkKept.rx := by
  unfold State.freeSlot
  split <;> simp

@[simp] theorem rxKept_dropPrefetch (s : State) (c : Prefetch → Bool) :
    (s.dropPrefetch c).linkKept.rx = s.linkKept.rx := by
  simp [State.dropPrefetch, rxKept_foldl fun _ _ => rxKept_modIwin ..]

@[simp] theorem rxKept_aptReadDone (s : State) (id : Nat) (r : AptRead) :
    (s.aptReadDone id r).linkKept.rx = s.linkKept.rx := by
  simp [State.aptReadDone]

@[simp] theorem rxKept_spillRead (s : State) (q r : Nat) : (s.spillRead q r).linkKept.rx = s.linkKept.rx := rfl
@[simp] theorem rxKept_spillForget (s : State) (q : Nat) : (s.spillForget q).linkKept.rx = s.linkKept.rx := rfl

@[simp] theorem rxKept_dropMove (s : State) (q : Nat) : (s.dropMove q).linkKept.rx = s.linkKept.rx := by
  simp only [State.dropMove]
  split
  · rfl
  · split <;> simp

@[simp] theorem rxKept_frameIn (s : State) (node : Nat) (frame : Bytes) :
    (s.frameIn node frame).linkKept.rx = s.linkKept.rx := by
  simp [State.frameIn]

@[simp] theorem rxKept_serviceLoad (s : State) (q : Nat) : (s.serviceLoad q).linkKept.rx = s.linkKept.rx := by
  unfold State.serviceLoad
  split
  · rfl
  · split <;> simp

@[simp] theorem rxKept_undemote (s : State) (q : Nat) : (s.undemote q).linkKept.rx = s.linkKept.rx := by
  simp [State.undemote]

/-! ## Delivery of a packet (R313) -/

@[simp] theorem rxKept_drainPkt (s : State) (p : Packet) : (s.drainPkt p).linkKept.rx = s.linkKept.rx := by
  simp [State.drainPkt]

@[simp] theorem rxKept_landIn (s : State) (u : XUnit) (units : Nat) (d : Bytes) :
    (s.landIn u units d).linkKept.rx = s.linkKept.rx := by
  simp [State.landIn]

@[simp] theorem rxKept_stageInWrite (s : State) (w : Nat) (x : Iwin) (p : Packet) :
    (s.stageInWrite w x p).linkKept.rx = s.linkKept.rx := by
  simp [State.stageInWrite]

@[simp] theorem rxKept_takeWrite (s : State) (p : Packet) : (s.takeWrite p).linkKept.rx = s.linkKept.rx := by
  unfold State.takeWrite
  split <;> simp

@[simp] theorem rxKept_askHost (s : State) (role : RdRole) (fn obj xunit base : Nat) (rs : List (Nat × Nat × Nat)) :
    (s.askHost role fn obj xunit base rs).linkKept.rx = s.linkKept.rx := rfl

@[simp] theorem rxKept_readNow (s : State) (sl : Sleeve) (w : Nat) (x : Iwin) (p : Packet) (len : Nat) :
    (s.readNow sl w x p len).linkKept.rx = s.linkKept.rx := by
  simp [State.readNow]

@[simp] theorem rxKept_takeSlot (s : State) (sl : Sleeve) (w : Nat) (x : Iwin) (p : Packet) (len : Nat)
    (pre : Option Prefetch) :
    (s.takeSlot sl w x p len pre).linkKept.rx = s.linkKept.rx := rfl

@[simp] theorem rxKept_readLater (s : State) (sl : Sleeve) (w : Nat) (x : Iwin) (p : Packet) (len : Nat) :
    (s.readLater sl w x p len).linkKept.rx = s.linkKept.rx := by
  simp only [State.readLater]
  split
  · split <;> simp
  · simp

@[simp] theorem rxKept_takeRead (s : State) (sl : Sleeve) (p : Packet) :
    (s.takeRead sl p).linkKept.rx = s.linkKept.rx := by
  unfold State.takeRead
  split <;> simp

@[simp] theorem rxKept_sendCollect (s : State) (h : Nat) (d : DrSlot) (fn : Nat) (rule : Bool) (off len : Nat) :
    (s.sendCollect h d fn rule off len).linkKept.rx = s.linkKept.rx := by
  simp [State.sendCollect]

@[simp] theorem rxKept_takeCollect (s : State) (p : Packet) : (s.takeCollect p).linkKept.rx = s.linkKept.rx := by
  unfold State.takeCollect
  simp only
  split
  · simp
  · split <;> simp

@[simp] theorem rxKept_sampleAnswer (s : State) (k : Nat) (seq : BitVec 24) :
    (s.sampleAnswer k seq).linkKept.rx = s.linkKept.rx := by
  unfold State.sampleAnswer
  split <;> simp

@[simp] theorem rxKept_stageQp (s : State) (kind : UnitKind) (q : Nat) (qp : Qp) (d : Desc) (no off : Nat) (o : Owner)
    (p : Packet) (cut : Bool) (data : Bytes) :
    (s.stageQp kind q qp d no off o p cut data).linkKept.rx = s.linkKept.rx := by
  simp [State.stageQp]

@[simp] theorem rxKept_takeGetRsp (s : State) (a : Await) (q : Nat) (i : W16) (no : Nat) (p : Packet) :
    (s.takeGetRsp a q i no p).linkKept.rx = s.linkKept.rx := by
  unfold State.takeGetRsp
  split <;> simp

@[simp] theorem rxKept_takeAptRsp (s : State) (a : Await) (id piece : Nat) (p : Packet) :
    (s.takeAptRsp a id piece p).linkKept.rx = s.linkKept.rx := by
  simp only [State.takeAptRsp]
  split <;> simp

@[simp] theorem rxKept_takeReadRsp (s : State) (p : Packet) : (s.takeReadRsp p).linkKept.rx = s.linkKept.rx := by
  simp only [State.takeReadRsp]
  split
  · simp
  · split <;> simp

@[simp] theorem rxKept_refuseSend (s : State) (cut : Bool) (p : Packet) (st : Nat) :
    (s.refuseSend cut p st).linkKept.rx = s.linkKept.rx := by
  simp [State.refuseSend]

@[simp] theorem rxKept_sendImm (s : State) (p : Packet) : (s.sendImm p).2.linkKept.rx = s.linkKept.rx := by
  unfold State.sendImm
  split <;> simp

@[simp] theorem rxKept_recvUnit (s : State) (q : Nat) (x : Qp) (d : Desc) (src left : Nat) (total : Nat) (cut : Bool)
    (p : Packet) :
    (s.recvUnit q x d src left total cut p).linkKept.rx = s.linkKept.rx := by
  simp [State.recvUnit]

@[simp] theorem rxKept_sendAt (s : State) (cut : Bool) (q : Nat) (x : Qp) (p : Packet) :
    (s.sendAt cut q x p).linkKept.rx = s.linkKept.rx := by
  unfold State.sendAt
  split
  · simp
  · split
    · simp
    · simp only
      split <;> simp

@[simp] theorem rxKept_takeSend (s : State) (p : Packet) : (s.takeSend p).linkKept.rx = s.linkKept.rx := by
  unfold State.takeSend
  split <;> simp

@[simp] theorem rxKept_takeMark (s : State) (p : Packet) : (s.takeMark p).linkKept.rx = s.linkKept.rx := by
  simp [State.takeMark]

/-! ## Receipt of a packet (R304, R312) -/

@[simp] theorem rxKept_packetSeen (s : State) (sl : Sleeve) (p : Packet) :
    (s.packetSeen sl p).linkKept.rx = s.linkKept.rx := by
  simp only [State.packetSeen]
  split <;> simp

@[simp] theorem rxKept_bytesSeen (s : State) (sl : Sleeve) (p : Packet) :
    (s.bytesSeen sl p).linkKept.rx = s.linkKept.rx := by
  simp only [State.bytesSeen]
  split <;> simp

@[simp] theorem rxKept_deliver (s : State) (sl : Sleeve) (p : Packet) :
    (s.deliver sl p).linkKept.rx = s.linkKept.rx := by
  unfold State.deliver
  split <;> simp

@[simp] theorem rxKept_accept (s : State) (sl : Sleeve) (p : Packet) : (s.accept sl p).linkKept.rx = s.linkKept.rx := by
  simp [State.accept]

@[simp] theorem rxKept_outOfTurn (s : State) (sl : Sleeve) (r : RxFlow) (p : Packet) :
    (s.outOfTurn sl r p).linkKept.rx = s.linkKept.rx := by
  simp only [State.outOfTurn]
  split
  · simp
  · split <;> simp

@[simp] theorem rxKept_receive (sl : Sleeve) (p : Packet) (s : State) :
    (State.receive sl p s).linkKept.rx = s.linkKept.rx := by
  simp only [State.receive]
  split
  · rfl
  · split
    · simp
    · split
      · simp
      · split
        · simp
        · split
          · simp
          · split <;> simp

/-- A packet that the payloads of flits make up leaves the receive side of the link alone. -/
theorem rxKept_payloadIn (sl : Sleeve) (kind : Nat) (d : Bytes) (s : State) :
    (s.payloadIn sl kind d).linkKept.rx = s.linkKept.rx := by
  have hkeep (p : Option Bytes) : (s.modSlv sl fun v => { v with rxPkt := p }).linkKept.rx = s.linkKept.rx :=
    congrArg LinkKept.rx (linkKept_modSlv s sl fun _ => rfl)
  unfold State.payloadIn
  split
  · exact hkeep _
  · exact hkeep _
  · cases (s.slv sl).rxPkt with
    | none => rfl
    | some b => exact (rxKept_receive ..).trans (hkeep none)
  · exact (rxKept_receive ..).trans (hkeep none)
  · rfl

/-! ## Fields of a flit -/

theorem fit_of_length {n : Nat} {b : Bytes} (h : b.length = n) : fit n b = b := by
  simp [fit, zeros, h, List.take_of_length_le]

@[simp] theorem length_slice (off n : Nat) (b : Bytes) : (slice off n b).length = n := by
  simp [slice, fit, zeros]; omega

/-- A byte of a slice; bytes beyond the string are 0. -/
theorem getElem_slice (off : Nat) {n j : Nat} (b : Bytes) (h : j < (slice off n b).length) :
    (slice off n b)[j] = b.getD (off + j) 0 := by
  have hj : j < n := length_slice off n b ▸ h
  by_cases hb : off + j < b.length
  · have hd : j < b.length - off := by omega
    simp [slice, fit, hb, hj, hd]
  · simp [slice, fit, zeros, List.getElem_append, hb]
    omega

/-- A slice within a slice. -/
theorem slice_slice {i n m : Nat} (off : Nat) (b : Bytes) (h : i + n ≤ m) :
    slice i n (slice off m b) = slice (off + i) n b := by
  refine List.ext_getElem (by simp) fun j h1 h2 => ?_
  have hj : i + j < (slice off m b).length := by rw [length_slice] at h1 ⊢; omega
  rw [getElem_slice, getElem_slice, List.getD_eq_getElem _ _ hj, getElem_slice, Nat.add_assoc]

/-- TYPE of a flit's bypass slot. -/
theorem beAt_bypassSlot (flit : Bytes) : beAt 0 1 (slice 4 16 flit) = beAt 4 1 flit :=
  congrArg beNat (slice_slice 4 flit (by decide))

/-! ## A Belt message of unknown TYPE on the Belt (R330) -/

theorem beltParse_of_good {flit : Bytes} (hlen : flit.length = 256) (hcrc : beAt 248 8 flit = crc64 (flit.take 248) 0) :
    beltParse flit = some { kind := bits (beAt 0 4 flit) 18 15, body := slice 4 16 flit, payload := slice 20 224 flit } := by
  simp only [beltParse, fit_of_length hlen, if_pos hcrc]

/-- An open bypass counts a message of unknown TYPE and passes the flit as it came. -/
theorem beltMessage_of_unknown {s : State} {flit : Bytes} {f : BeltFlit} (hlen : flit.length = 256)
    (hopen : s.belt.bypassOpen = true) (hlo : 0x45 ≤ beAt 0 1 f.body) (hhi : beAt 0 1 f.body ≤ 0x5F) :
    s.beltMessage flit f =
      (s.modBelt fun b => { b with bypUnknown := satInc b.bypUnknown }).emit (.beltForward flit) := by
  have htype : (decide (0x45 ≤ beAt 0 1 f.body) && decide (beAt 0 1 f.body ≤ 0x5F)) = true := by simp [hlo, hhi]
  simp only [State.beltMessage, State.beltPass, hopen, htype, fit_of_length hlen, Bool.not_true, Bool.false_eq_true,
    if_false, if_true]

/-- A good flit with a message, while the receiver is locked. -/
theorem beltFlit_of_message {s : State} {flit : Bytes} {f : BeltFlit} (hlock : s.belt.rxLock = true)
    (hparse : beltParse flit = some f) (hkind : f.kind = 1 ∨ f.kind = 5) :
    s.beltFlit flit = (s.modBelt fun b => { b with crcRun := 0 }).beltMessage flit f := by
  have hne : f.kind ≠ 0 := by omega
  simp [State.beltFlit, hlock, hparse, hne, hkind]

/-- The whole of it: the run of bad flits ends, the count goes up, and the flit leaves as it came. -/
theorem beltFlit_of_unknown {s : State} {flit : Bytes} (hlen : flit.length = 256) (hlock : s.belt.rxLock = true)
    (hopen : s.belt.bypassOpen = true) (hcrc : beAt 248 8 flit = crc64 (flit.take 248) 0)
    (hkind : bits (beAt 0 4 flit) 18 15 = 1 ∨ bits (beAt 0 4 flit) 18 15 = 5) (hlo : 0x45 ≤ beAt 4 1 flit)
    (hhi : beAt 4 1 flit ≤ 0x5F) :
    s.beltFlit flit =
      { s with belt := { s.belt with crcRun := 0, bypUnknown := satInc s.belt.bypUnknown },
               out := s.out ++ [.beltForward flit] } :=
  (beltFlit_of_message hlock (beltParse_of_good hlen hcrc) hkind).trans
    (beltMessage_of_unknown hlen hopen (hlo.trans_eq (beAt_bypassSlot flit).symm) ((beAt_bypassSlot flit).trans_le hhi))

/-! ## A Belt TYPE on a Sleeve (R276, R330) -/

/-- A TYPE from 0x26 on is counted, and its message goes no further. -/
theorem bypassIn_of_reserved {s : State} (sl : Sleeve) {b : Bytes} (h : 0x26 ≤ beAt 0 1 b) :
    s.bypassIn sl b = s.slvCount sl 9 fun v => { v with bypUnknown := satInc v.bypUnknown } := by
  simp only [State.bypassIn]
  split
  case h_13 => simp [bypassReserved, h]
  all_goals omega

/-- A sequenced flit moves the expected sequence on, and no key comes into force where none is announced. -/
theorem rxSide_taken {v : Slv} (h : v.rxNext = none) : v.taken.rxSide = { v.rxSide with expect := v.expect + 1 } := by
  simp [Slv.taken, Slv.rxKeyed, h, Slv.rxSide]

theorem rxSide_slvCount (s : State) (sl : Sleeve) (item : Nat) (f : Slv → Slv) :
    ((s.slvCount sl item f).slv sl).rxSide = (f (s.slv sl)).rxSide :=
  (rxSide_slv_of_rx (congrArg LinkKept.rx (linkKept_occ ..)) sl).trans
    (congrArg Slv.rxSide (State.modSlv_slv_self s sl f))

theorem others_slvCount (s : State) (sl : Sleeve) (item : Nat) (f : Slv → Slv) :
    (s.slvCount sl item f).linkKept.others = s.linkKept.others :=
  (congrArg LinkKept.others (linkKept_occ ..)).trans (others_modSlv s sl f)

/-- The receive side once a sequenced flit has been taken and its message counted. -/
def RxSide.counted (x : RxSide) : RxSide := { x with expect := x.expect + 1, bypUnknown := satInc x.bypUnknown }

theorem running_of_rxSide {v w : Slv} (h : v.rxSide = w.rxSide) : v.running = w.running :=
  congrArg (fun x : RxSide => x.state == .param || x.state == .up) h

/-- The state in which a sequenced flit with a message of a TYPE that a Sleeve does not know has been taken and counted. -/
def State.unknownTaken (s : State) (sl : Sleeve) : State :=
  (s.slvCount sl 0x11 Slv.taken).slvCount sl 9 fun v => { v with bypUnknown := satInc v.bypUnknown }

theorem rxSide_unknownTaken {s : State} {sl : Sleeve} (h : (s.slv sl).rxNext = none) :
    ((s.unknownTaken sl).slv sl).rxSide = (s.slv sl).rxSide.counted := by
  have htaken := (rxSide_slvCount s sl 0x11 Slv.taken).trans (rxSide_taken h)
  refine (rxSide_slvCount _ sl 9 _).trans ?_
  exact congrArg (fun x : RxSide => { x with bypUnknown := satInc x.bypUnknown }) htaken

theorem others_unknownTaken (s : State) (sl : Sleeve) : (s.unknownTaken sl).linkKept.others = s.linkKept.others :=
  (others_slvCount ..).trans (others_slvCount ..)

/-- Such a flit, where no encryption applies: beside the count, only what it carries of a packet is taken. -/
theorem flitSeq_of_reserved {s : State} {sl : Sleeve} {flit : Bytes} (hrun : (s.slv sl).running = true)
    (hon : (s.slv sl).rxOn = false) (hnext : (s.slv sl).rxNext = none) (htype : 0x26 ≤ beAt 4 1 flit) :
    s.flitSeq sl flit = (s.unknownTaken sl).payloadIn sl (flitKind flit) (slice 20 224 flit) := by
  have hside := (rxSide_slvCount s sl 0x11 Slv.taken).trans (rxSide_taken hnext)
  have hon' : ((s.slvCount sl 0x11 Slv.taken).slv sl).rxOn = false := (congrArg RxSide.rxOn hside).trans hon
  have hrun' : ((s.slvCount sl 0x11 Slv.taken).slv sl).running = true :=
    (running_of_rxSide (w := { s.slv sl with expect := (s.slv sl).expect + 1 }) hside).trans hrun
  have hdue : (s.slv sl).tagDue = false := by simp [Slv.tagDue, hon]
  have htake : s.flitSeq sl flit = (s.slvCount sl 0x11 Slv.taken).deliverFlit sl flit (slice 20 224 flit) := by
    simp only [State.flitSeq, hdue, Bool.not_false, if_true]
    exact if_neg (Bool.eq_false_iff.1 hon')
  rw [htake, State.deliverFlit, if_pos hrun', bypassIn_of_reserved sl (by rwa [beAt_bypassSlot])]
  rfl

/-- R282, R283: a good sequenced flit in PARAM or UP: its header is used, then it is taken, and the answer follows. -/
theorem flitIn_of_good {s : State} {sl : Sleeve} {flit : Bytes} (hlen : flit.length = 256)
    (hrun : (s.slv sl).running = true) (hcrc : beAt 248 8 flit = crc64 (flit.take 248) (s.slv sl).expect.toNat)
    (hkind : flitKind flit ≠ 0) (hrsv : flitReserved (beAt 0 4 flit) (flitKind flit) flit = false)
    (hack : (s.slv sl).ackValid (BitVec.ofNat 12 (bits (beAt 0 4 flit) 31 20)) = true) :
    ∃ t : State, t.linkKept = s.linkKept ∧
      s.flitIn sl ⟨false, []⟩ flit = (t.flitSeq sl flit).flitAnswer sl (s.slv sl) := by
  refine ⟨s.linkHeader sl (BitVec.ofNat 12 (bits (beAt 0 4 flit) 31 20)) (bitAt (beAt 0 4 flit) 19),
    linkKept_linkHeader .., ?_⟩
  have hfec : s.fecIn sl [] = s := by simp [State.fecIn]
  simp [State.flitIn, hrun, hfec, fit_of_length hlen, ← hcrc, hkind, hrsv, hack]

/-- Settles O58: on the Belt the branch of unknown types comes before any that reads the message; on a Sleeve the flit is a
good sequenced one, whose message only counts. -/
theorem unknownBypassMessages : Obligations.UnknownBypassMessages := by
  intro s flit hlen type kind
  refine ⟨fun hlock hopen hcrc hkind hlo hhi => ?_, ?_⟩
  · exact completes_command rfl (beltFlit_of_unknown hlen hlock hopen hcrc hkind hlo hhi)
  · intro sl v hstate hon hnext hcrc hkind hrsv hack hlo _
    have hrun : v.running = true := by simpa [Slv.running] using hstate
    obtain ⟨t, ht, heq⟩ := flitIn_of_good hlen hrun hcrc hkind hrsv hack
    have hside : (t.slv sl).rxSide = v.rxSide := rxSide_slv_of_rx (congrArg LinkKept.rx ht) sl
    have hnext' : (t.slv sl).rxNext = none := (congrArg RxSide.rxNext hside).trans hnext
    rw [flitSeq_of_reserved ((running_of_rxSide hside).trans hrun) ((congrArg RxSide.rxOn hside).trans hon) hnext'
      (by omega)] at heq
    have hown : ((s.flitIn sl ⟨false, []⟩ flit).slv sl).rxSide = v.rxSide.counted := by
      rw [heq, rxSide_slv_of_rx (congrArg LinkKept.rx (linkKept_flitAnswer ..)), rxSide_slv_of_rx (rxKept_payloadIn ..),
        rxSide_unknownTaken hnext', hside]
    refine completes_command rfl ⟨congrArg RxSide.bypUnknown hown, congrArg RxSide.expect hown, fun hctrl => ?_⟩
    have hothers : (s.flitIn sl ⟨false, []⟩ flit).linkKept.others = s.linkKept.others := by
      rw [heq, linkKept_flitAnswer, show flitKind flit = 1 from hctrl]
      exact (others_unknownTaken t sl).trans (congrArg LinkKept.others ht)
    exact ⟨congrArg (·.1) hothers, congrArg (·.2.1) hothers, congrArg (·.2.2) hothers⟩

end Sys2Proof.Machine
end

section
/-! R435: what boots and what is installed carries both signatures. The ROM's choice of a slot, and the end of an install
that verification refuses, over a Pocket and over PLDM. -/
namespace Sys2Proof.Machine

/-! ## Both signatures -/

/-- R435: a good manifest has both signatures. -/
theorem signatures_of_manifestGood {f : Found} (h : manifestGood f = true) : f.ecdsa = true ∧ f.mldsa = true := by
  simp only [manifestGood, Bool.and_eq_true] at h
  obtain ⟨⟨-, hecdsa⟩, hmldsa⟩ := h
  exact ⟨hecdsa, hmldsa⟩

theorem manifestGood_of_unsigned {f : Found} (h : f.ecdsa = false ∨ f.mldsa = false) : manifestGood f = false := by
  refine Bool.eq_false_iff.2 fun hgood => ?_
  obtain ⟨hecdsa, hmldsa⟩ := signatures_of_manifestGood hgood
  simp [hecdsa, hmldsa] at h

/-! ## What the log and the management messages leave -/

/-- A record of the event log changes nothing but the log's queue and its count of lost records (R462). -/
theorem log_eq (s : State) (type code : Nat) (data : Bytes) (cont : Bool) :
    ∃ q n, s.log type code data cont = { s with lin := { s.lin with logQueue := q, logLost := n } } := by
  unfold State.log
  split
  · exact ⟨s.lin.logQueue, _, rfl⟩
  · exact ⟨_, s.lin.logLost, rfl⟩

theorem log_boot (s : State) (type code : Nat) (data : Bytes) (cont : Bool) : (s.log type code data cont).boot = s.boot := by
  obtain ⟨q, n, h⟩ := log_eq s type code data cont
  rw [h]

theorem beltSend_boot (s : State) (body payload : Bytes) : (s.beltSend body payload).boot = s.boot := by
  unfold State.beltSend
  split <;> rfl

theorem beltSend_lin (s : State) (body payload : Bytes) : (s.beltSend body payload).lin = s.lin := by
  unfold State.beltSend
  split <;> rfl

/-- A message on a binding changes neither the boot state nor Lining (R464). -/
theorem mctpSay_boot_lin (s : State) (b : Binding) (m : Bytes) :
    (s.mctpSay b m).boot = s.boot ∧ (s.mctpSay b m).lin = s.lin := by
  unfold State.mctpSay
  extract_lets x w y l l'
  split
  · refine List.foldlRecOn (motive := fun t : State => t.boot = s.boot ∧ t.lin = s.lin) l' _ ⟨rfl, rfl⟩ ?_
    rintro t ⟨hboot, hlin⟩ p -
    exact ⟨(beltSend_boot ..).trans hboot, (beltSend_lin ..).trans hlin⟩
  · exact ⟨rfl, rfl⟩

/-! ## The boot ROM -/

/-- The common end of a command moves neither the boot stage nor the choice of the running slot. -/
theorem after_stage_running (was own : State) :
    (was.after own).boot.stage = own.boot.stage ∧ (was.after own).boot.running = own.boot.running := by
  constructor
  · show (was.after own).lasting.boot.stage = own.lasting.boot.stage
    rw [lasts_after]
  · show (was.after own).lasting.boot.running = own.lasting.boot.running
    rw [lasts_after]

theorem slotBoots_manifestGood {s : State} {x : Slot} {f : Found} (h : s.slotBoots x f = true) : manifestGood f = true := by
  simp only [State.slotBoots, Bool.and_eq_true] at h
  obtain ⟨⟨⟨-, hmanifest⟩, -⟩, -⟩ := h
  exact hmanifest

/-- R408: the slot chosen is one that boots. -/
theorem slotBoots_of_selectSlot {s : State} {f : Slot → Found} {x : Slot} :
    ∀ {l : List Slot}, (s.selectSlot f l).1 = some x → s.slotBoots x (f x) = true
  | [], h => by simp [State.selectSlot] at h
  | y :: r, h => by
    unfold State.selectSlot at h
    split at h
    next hy =>
      obtain rfl : y = x := by simpa using h
      exact hy
    next => exact slotBoots_of_selectSlot h

/-- Which slots boot does not depend on the boot record. -/
theorem slotBoots_recordBad (s : State) (bad : Bool) (x : Slot) (f : Found) :
    ({ s with boot := { s.boot with recordBad := bad } } : State).slotBoots x f = s.slotBoots x f := by
  cases x <;> rfl

theorem logBoot_boot (s : State) : s.logBoot.boot = s.boot := log_boot ..

/-- R408, R435: a ROM stage that hands over to Lining runs a slot that boots. -/
theorem slotBoots_of_romDone {s : State} {a b : Found} {r : RecoveryFound} (hrom : s.boot.stage = .rom)
    (hlin : (s.romDone a b r).boot.stage = .lining) :
    s.slotBoots (s.romDone a b r).boot.running (foundOf a b r.slot (s.romDone a b r).boot.running) = true := by
  generalize ht : s.romDone a b r = t at hlin ⊢
  unfold State.romDone at ht
  split at ht
  next => simp [← ht, hrom] at hlin
  next =>
    extract_lets s₁ f p pick s₂ at ht
    split at ht
    next => simp [← ht, logBoot_boot, State.derive] at hlin
    next x hpick =>
      have hx : t.boot.running = x := by
        rw [← ht]
        dsimp only
        split <;> rfl
      rw [hx]
      exact (slotBoots_recordBad ..).symm.trans (slotBoots_of_selectSlot hpick)

/-! ## An install that verification refuses -/

/-- R435: an image whose manifest or signatures are bad ends its install with VERIFY_FAILED, whatever else was found. -/
theorem installStatus_of_not_manifestGood (s : State) {f : Found} (h : manifestGood f = false) (flashOk : Bool) :
    s.installStatus f flashOk = stVerifyFailed := by
  simp [State.installStatus, h]

theorem pldmStatus_of_not_manifestGood (s : State) {f : Found} (h : manifestGood f = false) (flashOk : Bool) :
    s.pldmStatus f flashOk = stVerifyFailed := by
  simp [State.pldmStatus, h, installStatus_of_not_manifestGood]

/-- R157: such an end closes the session and writes a record of the log; it leaves the slot as it was. -/
theorem installEnd_verifyFailed (s : State) (f : Found) :
    ∃ q n, s.installEnd f stVerifyFailed =
      { s with lin := { s.lin with logQueue := q, logLost := n, session := { s.lin.session with isOpen := false } } } := by
  have hend : s.installEnd f stVerifyFailed = (s.logUpdate 0x03 stVerifyFailed).sessionClose := rfl
  obtain ⟨q, n, hlog⟩ : ∃ q n, s.logUpdate 0x03 stVerifyFailed =
      { s with lin := { s.lin with logQueue := q, logLost := n } } := log_eq ..
  exact ⟨q, n, by rw [hend, hlog]; rfl⟩

/-! ## UPDATE_COMMIT -/

/-- The last event e of a long command of fn is held, or on its way to the host. -/
def State.Reports (s : State) (fn : Nat) (e : Event) : Prop :=
  (∃ h ∈ (s.fn fn).pocket.held, h.ev = e) ∨ ∃ i ∈ s.hostq, i.fn = fn ∧ i.kind = .event e true

/-- R99: the last event of a long command is never lost, but where the function reports nothing at all. -/
theorem event_reports (s : State) (fn : Nat) (e : Event) (hsafe : s.boot.mode ≠ .safe) (hflr : (s.fn fn).flr = false) :
    (s.event fn e true).Reports fn e := by
  unfold State.event
  rw [if_neg (by simp [hsafe, hflr])]
  split
  · exact .inr ⟨_, List.mem_append_right _ (List.mem_singleton_self _), rfl, rfl⟩
  · rw [if_neg (by simp)]
    refine .inl ⟨⟨e, true, s.stamp⟩, ?_, rfl⟩
    simp [State.fn, State.modPocket, State.modFn, State.setFn]

/-- The end of a long command changes no more than answering a request may. -/
theorem Beside.finishLong (s : State) (fn : Nat) (token : W16) (status detail : Nat) :
    Beside fn (s.finishLong fn token status detail) s :=
  (Beside.event ..).trans (Beside.modPocket s fn _ rfl)

theorem Beside.boot {fn : Nat} {own u : State} (h : Beside fn own u) : own.boot = u.boot := by rw [h.rest]

theorem Beside.lin {fn : Nat} {own u : State} (h : Beside fn own u) : own.lin = u.lin := by rw [h.rest]

/-- R93: the CMD_FINAL entry carries the command's token and status. -/
theorem finishLong_reports (s : State) (fn : Nat) (token : W16) (status detail : Nat) (hsafe : s.boot.mode ≠ .safe)
    (hflr : (s.fn fn).flr = false) :
    ∃ e : Event, e.type = 0x01 ∧ e.token = token ∧ e.status = BitVec.ofNat 16 status ∧
      (s.finishLong fn token status detail).Reports fn e :=
  ⟨_, rfl, rfl, rfl, event_reports _ fn _ hsafe (by simpa using hflr)⟩

theorem commitEnd_of_not_manifestGood {s : State} {f : Found} {c : LongCmd} (h : manifestGood f = false) (flashOk : Bool)
    (hc : (s.fn 0).pocket.longs.find? (fun x => x.kind == .updateCommit) = some c) :
    s.commitEnd f flashOk = (s.installEnd f stVerifyFailed).finishLong 0 c.token stVerifyFailed
      (slotCode s.lin.session.slot) := by
  simp [State.commitEnd, hc, installStatus_of_not_manifestGood s h]

/-! ## The PLDM path -/

theorem verifyEnd_of_not_manifestGood {s : State} {f : Found} (h : manifestGood f = false) (flashOk bootSel : Bool)
    (hruns : s.liningRuns = true) (hopen : s.pldmOpen = true) (hdone : s.lin.session.transferred = true) :
    s.verifyEnd f flashOk bootSel = (s.mctpSay s.lin.session.via [1, 5, 0x17, 1]).installEnd f stVerifyFailed := by
  have hguard : ¬(!(s.liningRuns && s.pldmOpen && s.lin.session.transferred)) = true := by simp [hruns, hopen, hdone]
  have hfirst : (s.boot.stage == .noImage && stVerifyFailed == stDone && s.lin.session.slot == .a) = false := by
    simp [stVerifyFailed, stDone]
  have hresult : verifyResult f stVerifyFailed = 1 := by simp [verifyResult, h]
  rw [State.verifyEnd, if_neg hguard, pldmStatus_of_not_manifestGood s h]
  simp only [hfirst, hresult]
  rfl

/-! ## The three paths -/

/-- Settles O60: the slot that the ROM picks passed the manifest's check, which asks for both signatures; over a Pocket and
over PLDM an image that fails that check gets VERIFY_FAILED before any other. PLDM's message layout is log entry 34. -/
theorem bothSignatures : Obligations.BothSignatures := by
  intro s
  refine ⟨fun a b c bad t hrom hexec hlin => ?_,
    fun f ok hsig => ⟨fun c hsafe hflr hc => ?_, fun x hruns hopen hdone => ?_⟩⟩
  · obtain rfl : s.after (s.romDone a b ⟨c, bad⟩) = t := Host.Outcome.next.inj hexec
    obtain ⟨hstage, hrunning⟩ := after_stage_running s (s.romDone a b ⟨c, bad⟩)
    rw [hrunning]
    exact signatures_of_manifestGood (slotBoots_manifestGood (slotBoots_of_romDone hrom (hstage.symm.trans hlin)))
  · refine completes_command (f := State.commitEnd f ok) rfl ?_
    rw [commitEnd_of_not_manifestGood (manifestGood_of_unsigned hsig) ok hc]
    obtain ⟨q, n, hend⟩ := installEnd_verifyFailed s f
    rw [hend]
    exact ⟨(Beside.finishLong ..).boot, congrArg Lin.session (Beside.finishLong ..).lin,
      finishLong_reports _ 0 _ _ _ hsafe hflr⟩
  · refine completes_command (f := State.verifyEnd f ok x) rfl ?_
    rw [verifyEnd_of_not_manifestGood (manifestGood_of_unsigned hsig) ok x hruns hopen hdone]
    obtain ⟨hboot, hlin⟩ := mctpSay_boot_lin s s.lin.session.via [1, 5, 0x17, 1]
    obtain ⟨q, n, hend⟩ := installEnd_verifyFailed (s.mctpSay s.lin.session.via [1, 5, 0x17, 1]) f
    rw [hend]
    exact ⟨hboot, by rw [hlin], s.freeIdx, rfl, rfl⟩

end Sys2Proof.Machine
end
